-- ==== Sys2Proof/Word.lean ====
section
/-! DEFINITION. The plain words of the model: bytes, sparse maps kept as lists, and the small closed
sets of names that commands and state share. The OLM-9040 manual reads structures little-endian (R1). -/

namespace Sys2Proof

/-- A byte of memory or of a message (R1). -/
abbrev Byte := BitVec 8

/-- A sparse map from numbers to values: pairs in strictly rising order of key. An absent key means
the value the reader of the map names (an empty slot, or a default). -/
abbrev Map (α : Type) := List (Nat × α)

/-- The roads on which object-dictionary messages arrive (R519, Table 15-1). -/
inductive Road where
  /-- MCTP over I3C; acts for the fabric manager. -/
  | i3c
  /-- MCTP over PCIe at PF0 of a port; acts for the fabric manager. -/
  | pf0 (port : Fin 4)
  /-- MCTP over PCIe at a logical device; acts for that device's partition. -/
  | ld (port : Fin 4) (n : Fin 16)
  /-- The register window in PF0's BAR0; acts for the fabric manager. -/
  | window (port : Fin 4)
  deriving DecidableEq, Repr

/-- The function a register, configuration, mailbox or DOE request addresses: PF0 of a port, or an LD. -/
inductive Fn where
  | pf0 (port : Fin 4)
  | ld (port : Fin 4) (n : Fin 16)
  deriving DecidableEq, Repr

/-- Where an SPDM message arrives (R463): the DOE mailbox of a function, or MCTP over I3C. -/
inductive SpdmAt where
  | doe (f : Fn)
  | i3c
  deriving DecidableEq, Repr

/-- The configuration-space fields the manual gives an effect (chapter 9). The standard, not the
manual, gives their offsets, so a request names the field. -/
inductive CfgField where
  /-- Mem_Enable in the CXL DVSEC (R335). -/
  | memEnable
  /-- Function Mask of the MSI-X capability (R341). -/
  | msixFunctionMask
  /-- MSI-X Enable (R341). -/
  | msixEnable
  /-- MSI Enable of PF0 (R340). -/
  | msiEnable
  /-- The mask bit of PF0's one MSI vector (R340). -/
  | msiMask
  /-- MSI message address (R340). -/
  | msiAddress
  /-- MSI message data (R340). -/
  | msiData
  /-- Interrupt Disable of the Command register (R340). -/
  | interruptDisable
  /-- LTR Mechanism Enable in Device Control 2 (R343). -/
  | ltrEnable
  /-- ASPM L1 enable in Link Control (R344). -/
  | l1Enable
  /-- Max Payload Size in Device Control (R346). -/
  | maxPayload
  /-- Max Read Request Size in Device Control (R346). -/
  | maxReadRequest
  /-- Completion Timeout Value in Device Control 2 (R348). -/
  | completionTimeout
  /-- AER uncorrectable mask (R361). -/
  | aerMask
  /-- AER uncorrectable severity (R361). -/
  | aerSeverity
  /-- AER status, write one to clear (R360). -/
  | aerStatus
  /-- The identity words of Table 9-2. -/
  | identity
  /-- BAR0, 64-bit and non-prefetchable (Table 9-2). -/
  | bar0
  /-- The Device Serial Number (Table 9-2). -/
  | serialNumber
  /-- Which capabilities of Table 9-2 the function has. -/
  | capabilities
  /-- Device Capabilities and Device Capabilities 2 (Tables 9-1, 9-2). -/
  | deviceCapabilities
  /-- The L1 Exit Latency field of Link Capabilities (R344). -/
  | l1ExitLatency
  /-- The power state, with No_Soft_Reset (R342, Table 9-2). -/
  | powerState
  /-- The capability word of the CXL DVSEC for CXL Devices (Table 9-2). -/
  | cxlDvsec
  /-- The Flex Bus Port DVSEC (Table 9-2). -/
  | flexBus
  /-- The MLD DVSEC (Table 9-2). -/
  | mldDvsec
  /-- The Register Locator DVSEC (Table 9-2). -/
  | registerLocator
  /-- Lane Margining at the Receiver: its ready bit (Table 9-1). -/
  | laneMargining
  /-- The FLIT error log (Table 9-1). -/
  | flitLog
  /-- The Data Link Feature exchange (Table 9-1). -/
  | dataLinkFeature
  deriving DecidableEq, Repr

/-- The errors of Table 9-15, in its order. -/
inductive ErrKind where
  | receiverError | badTlp | badDllp | replayTimerTimeout | replayNumRollover
  | correctedInternal
  | unexpectedCompletion
  | completionTimeout
  | poisonedCompletion
  | poisonedRequest
  | unsupportedRequest
  | malformedTlp | dllProtocolError | flowControlError | receiverOverflow | surpriseDown
  | ideCheckFailure
  | cxlRasUncorrectable
  | uncorrectableInternal
  deriving DecidableEq, Repr

/-- The outcome a completion of a mastered read or of a non-posted request carries (R250, R346). -/
inductive CplStatus where
  | success | unsupportedRequest | completerAbort
  deriving DecidableEq, Repr

/-- How a NAND operation ended, as the controller sees it (R412, R421). -/
inductive NandResult where
  /-- Every codeword decoded at the first hard decision, or the program or erase succeeded. -/
  | clean
  /-- Decoded after this many read-retry offsets. -/
  | retried (offsets : Nat)
  /-- Decoded by the 3-read soft decision. -/
  | soft
  /-- The codeword is uncorrectable. -/
  | uncorrectable
  /-- The codeword decoded, but its metadata names another location: it counts as uncorrectable (R412). -/
  | misplaced
  /-- The program or erase reported failure. -/
  | failed
  deriving DecidableEq, Repr

/-- A DRAM controller: of a DDR5 channel BCHn, or of a stack HSm (R14, R365). -/
inductive Ctl where
  | ddr (n : Fin 16)
  | hbm (m : Fin 8)
  deriving DecidableEq, Repr

/-- What a returning sector read was for (R381, R390, R392). -/
inductive ReadRef where
  /-- The forwarded host read with this number. -/
  | host (id : Nat)
  /-- A sector of a SQUEEGEE pass, by command number and DPA. -/
  | scrub (cmd : Nat) (dpa : Nat)
  /-- A sector of a tile's home that the device itself reads, by extent × 32 + tile and sector: for a program step, a command, a move
  or a park (R82). -/
  | device (key : Nat) (sector : Fin 1024)
  /-- A sector of a reserved area, by MD, tier (false Ridge, true Batten) and sector number. -/
  | reserve (md : Fin 8) (batten : Bool) (sector : Nat)
  deriving DecidableEq, Repr

/-- A participant of a commit (R311 step 3). -/
inductive Participant where
  | dirMd (m : Fin 8)
  | sessionEngine (m : Fin 8)
  | bankMd (m : Fin 8)
  | iod (n : Fin 4)
  deriving DecidableEq, Repr

/-- The kinds of NAND operation (R412, R421). -/
inductive NandOp where
  | read | program | erase
  deriving DecidableEq, Repr

/-- What a request to a BAR addresses, and its SPID: that of its PBR flit, or 0 on a link that carries none (R357). -/
structure BarReq (α : Type) where
  dest : α
  spid : Nat
  deriving DecidableEq, Repr

/-- An access to a register: a read, or a write with its value, which may come poisoned (R338, R360). -/
inductive RegAccess where
  | read
  | write (value : Nat) (poisoned : Bool)
  deriving DecidableEq, Repr

/-- The control register of an HDM decoder: Commit, Lock On Commit, the ways and the granularity (R333). -/
structure DecoderControl where
  commit : Bool
  lock : Bool
  ways : Nat
  grain : Nat
  deriving DecidableEq, Repr

/-- A rank, pseudo-channel or HBM channel of a controller (R371, R372). -/
structure CtlPlace where
  ctl : Ctl
  place : Nat
  deriving DecidableEq, Repr

/-- A calibration item of Table 10-3. -/
inductive CalItem where
  | ddrZq | ddrDqs | ddrMr4 | dimmThermal | hbmTiming | hbmTemperature | phyImpedance
  deriving DecidableEq, Repr

/-- The request ports of a DRAM controller, Table 10-4. -/
inductive DramPort where
  | host | program | mover | directory | background
  deriving DecidableEq, Repr

/-- The IEEE 1149.1 instructions of R488, and the private ones of R486. -/
inductive JtagInstr where
  | bypass | idcode | samplePreload | extest | clamp | highz
  | privateInstr (code : Nat)
  deriving DecidableEq, Repr

/-- A DIMM as its SPD describes it (R29, R365, Table 10-1). -/
structure Dimm where
  /-- Capacity in GiB. -/
  giB : Nat
  /-- Package ranks. -/
  ranks : Nat
  /-- Dies of a 3DS stack; 1 where there is none. -/
  dies : Nat
  /-- Data bits of each DRAM device. -/
  width : Nat
  /-- Capacity of a DRAM die in Gb. -/
  gbit : Nat
  /-- True of an RDIMM, false of a UDIMM and an LRDIMM. -/
  registered : Bool
  ecc : Bool
  /-- The SPD declares refresh management or PRAC required. -/
  needsHelp : Bool
  /-- The highest rate it declares, in MT/s. -/
  rate : Nat
  deriving DecidableEq, Repr

/-- A NAND part as READ ID and its parameter page describe it (R396, Table 11-1). -/
structure NandPart where
  /-- What READ ID gives. -/
  id : Nat
  /-- The ONFI 5.x data rates it supports, in MT/s: 3,200 and 2,400 are NV-LPDDR4, 1,600 is NV-DDR3. -/
  rates : List Nat
  /-- Bits of its data bus. -/
  width : Nat
  luns : Nat
  planes : Nat
  /-- Bytes of data of a page. -/
  pageBytes : Nat
  /-- Bytes of spare of a page. -/
  spareBytes : Nat
  pagesPerBlock : Nat
  blocksPerPlane : Nat
  /-- Its data sheet allows an operation longer than 10 ms. -/
  slow : Bool
  /-- Capacity of a chip enable in GiB. -/
  giB : Nat
  deriving DecidableEq, Repr

/-- The fuse fields that the factory writes (R447). -/
inductive FactoryFuse where
  | deviceId
  | siliconRev
  | identitySeed
  | deviceHssPub
  | authorityHssPub
  deriving DecidableEq, Repr

/-- The bits of a factory fuse field (Table 13-1). -/
def FactoryFuse.bits : FactoryFuse → Nat
  | .deviceId => 128
  | .siliconRev => 16
  | .identitySeed => 256
  | .deviceHssPub | .authorityHssPub => 480

/-- A bit of a factory fuse field that reads otherwise than the factory wrote it in some of its three copies (R447, R448). -/
structure FuseUpset where
  field : FactoryFuse
  bit : Nat
  /-- Bit c is 1 where copy c reads wrong. -/
  wrong : BitVec 3
  deriving DecidableEq, Repr

/-- What a board populates, as phase S3 finds it (R29, R369, R370, R396). -/
structure Population where
  /-- The DIMMs of each BCH, slot 0 first; none of an empty channel. -/
  dimms : List (List Dimm)
  /-- Bit n is 1 if BCHn trained within its budget. -/
  trained : BitVec 16
  /-- Banks of a pseudo-channel, stack IDs included, by the device ID of each HS (R366). -/
  banks : List Nat
  /-- The parts of each UCH, one for each chip enable; none of an empty channel. -/
  nand : List (List NandPart)
  /-- Bit n is 1 if frame n fails the self-test of R510. -/
  framesFailed : BitVec 36
  deriving DecidableEq, Repr

end Sys2Proof
end

