-- ==== Sys2Proof/Syntax.lean ====
section
/-! DEFINITION. The commands of the OLM-9040: one constructor per row of spec/opcode_table.json, in its
order. Each carries the operands that name the objects the command concerns; the meanings are in
Sys2Proof/Machine. -/

namespace Sys2Proof

/-- A command, event or pin action of the block. -/
inductive Instr where
  /-- PURLIN_FRAME (R18); operands: its bridge, its direction, its bytes and the CRC-32 it carries. -/
  | purlinFrame (bridge : Fin 16) (up : Bool) (bytes : List Byte) (crc : Nat)
  /-- PURLIN_LINK_FAILED (R18); operands: the bridge. -/
  | purlinLinkFailed (bridge : Fin 16)
  /-- CXL_MEM_READ (R23); operands: where it arrives, its source, its tag and its host physical address. -/
  | cxlMemRead (port : Fin 4) (ld : Fin 16) (spid : Nat) (tag : Nat) (hpa : Nat)
  /-- CXL_MEM_WRITE (R358); operands: as a read, with byte enables, 64 bytes and the Poison flag. -/
  | cxlMemWrite (port : Fin 4) (ld : Fin 16) (spid : Nat) (tag : Nat) (hpa : Nat) (enables : BitVec 64) (bytes : List Byte) (poison : Bool)
  /-- MOVE_START (R44); operands: the directory MD whose queue is served. -/
  | moveStart (md : Fin 8)
  /-- COPY_PASS_END (R44); operands: the tile. -/
  | copyPassEnd (ext : Nat) (tile : Fin 32)
  /-- FLIP_WINDOW_CLEAR (R44); operands: the tile. -/
  | flipWindowClear (ext : Nat) (tile : Fin 32)
  /-- FLIP_WINDOW_TIMEOUT (R45); operands: the tile. -/
  | flipWindowTimeout (ext : Nat) (tile : Fin 32)
  /-- FREE_PENDING_SLOT_RETURN (R46); operands: the slot. -/
  | freePendingSlotReturn (batten : Bool) (md : Fin 8) (slot : Nat)
  /-- DAMAGED_HOLD_TIMEOUT (R43); operands: the block. -/
  | damagedHoldTimeout (ext : Nat) (tile : Fin 32) (block : Fin 16)
  /-- NO_SLOT_WAIT_TIMEOUT (R64); operands: the tile. -/
  | noSlotWaitTimeout (ext : Nat) (tile : Fin 32)
  /-- HEAT_HALVING (R61); operands: the directory MD. -/
  | heatHalving (md : Fin 8)
  /-- HEAT_HALF_LIFE_WRITE (R61); operands: the road and the value written. -/
  | heatHalfLifeWrite (road : Road) (value : Nat)
  /-- PARK_START (R71); operands: the directory MD whose park queue is served. -/
  | parkStart (md : Fin 8)
  /-- PARK_PASS_END (R72); operands: the extent. -/
  | parkPassEnd (ext : Nat)
  /-- PARK_WINDOW_CLEAR (R72); operands: the extent. -/
  | parkWindowClear (ext : Nat)
  /-- UNPARK_START (R74); operands: the directory MD whose unpark queue is served. -/
  | unparkStart (md : Fin 8)
  /-- TILE_LANDED (R74); operands: the tile, and whether its parity rebuild failed (R84). -/
  | tileLanded (ext : Nat) (tile : Fin 32) (lost : Bool)
  /-- UNPARK_LOAD_TIMEOUT (R79); operands: the waiting load. -/
  | unparkLoadTimeout (ext : Nat) (tile : Fin 32) (tag : Nat)
  /-- UNPARK_STORE_TIMEOUT (R80); operands: the waiting store. -/
  | unparkStoreTimeout (ext : Nat) (tile : Fin 32) (tag : Nat)
  /-- HINT_HOT (R57); operands: the fetched command. -/
  | hintHot (cmd : Nat)
  /-- HINT_WARM (R55); operands: the fetched command. -/
  | hintWarm (cmd : Nat)
  /-- HINT_COLD (R55); operands: the fetched command. -/
  | hintCold (cmd : Nat)
  /-- HINT_PARK (R58); operands: the fetched command. -/
  | hintPark (cmd : Nat)
  /-- HINT_DROP (R59); operands: the fetched command. -/
  | hintDrop (cmd : Nat)
  /-- SESSION_HINT_HOT (R109); operands: the fetched command. -/
  | sessionHintHot (cmd : Nat)
  /-- SESSION_HINT_WARM (R109); operands: the fetched command. -/
  | sessionHintWarm (cmd : Nat)
  /-- SESSION_HINT_COLD (R109); operands: the fetched command. -/
  | sessionHintCold (cmd : Nat)
  /-- SESSION_HINT_PARK (R109); operands: the fetched command. -/
  | sessionHintPark (cmd : Nat)
  /-- SESSION_HINT_DROP (R109); operands: the fetched command. -/
  | sessionHintDrop (cmd : Nat)
  /-- MOVE (R278); operands: the fetched command. -/
  | move (cmd : Nat)
  /-- PARK (R277); operands: the fetched command. -/
  | park (cmd : Nat)
  /-- PARK_BY_SESSION (R109); operands: the fetched command. -/
  | parkBySession (cmd : Nat)
  /-- UNPARK (R75); operands: the fetched command. -/
  | unpark (cmd : Nat)
  /-- UNPARK_BY_SESSION (R116); operands: the fetched command. -/
  | unparkBySession (cmd : Nat)
  /-- DROP (R59); operands: the fetched command. -/
  | drop (cmd : Nat)
  /-- DROP_BY_SESSION (R109); operands: the fetched command. -/
  | dropBySession (cmd : Nat)
  /-- BIND (R102); operands: the fetched command. -/
  | bind (cmd : Nat)
  /-- UPDATE (R102); operands: the fetched command. -/
  | update (cmd : Nat)
  /-- QUERY (R102); operands: the fetched command. -/
  | query (cmd : Nat)
  /-- PREFIX (R123); operands: the fetched command. -/
  | prefixForm (cmd : Nat)
  /-- SESSION_END (R129); operands: the fetched command. -/
  | sessionEnd (cmd : Nat)
  /-- SESSION_END_PREFIX (R126); operands: the fetched command. -/
  | sessionEndPrefix (cmd : Nat)
  /-- SESSION_SCAN_VISIT (R105); operands: the record, or the prefix entry, visited. -/
  | sessionScanVisit (isPrefix : Bool) (entry : Nat)
  /-- CALENDAR_SECONDS_WRITE (R111); operands: the road and the value written. -/
  | calendarSecondsWrite (road : Road) (value : Nat)
  /-- TESTSTRIP (R151); operands: the fetched command. -/
  | teststrip (cmd : Nat)
  /-- TESTSTRIP_SAMPLE_START (R158); operands: the MD whose strip unit becomes free. -/
  | teststripSampleStart (md : Fin 8)
  /-- TESTSTRIP_SKETCH_DONE (R153); operands: the sheet slot being built. -/
  | teststripSketchDone (slot : Fin 64)
  /-- TESTSTRIP_TRIAL_DONE (R156); operands: the sheet slot being built. -/
  | teststripTrialDone (slot : Fin 64)
  /-- DECODE_DONE (R171); operands: the decode, and the bits in which the coded bytes arrive otherwise than stored. -/
  | decodeDone (job : Nat) (error : List Byte)
  /-- RUN (R257); operands: the fetched command. -/
  | run (cmd : Nat)
  /-- ATTEND (R258); operands: the fetched command. -/
  | attend (cmd : Nat)
  /-- REBUILD (R120); operands: the fetched command. -/
  | rebuild (cmd : Nat)
  /-- RUN_GRANT (R239); operands: the partition whose queue is served. -/
  | runGrant (part : Fin 64)
  /-- FRAME_SWITCH_DONE (R222); operands: the frame, and whether its read-back found zeros. -/
  | frameSwitchDone (frame : Fin 36) (clear : Bool)
  /-- NOP (R234); operands: the run and its logical frame. -/
  | nop (run : Nat) (frame : Fin 36)
  /-- LOAD_TILE (R247); operands: the run and its logical frame. -/
  | loadTile (run : Nat) (frame : Fin 36)
  /-- STORE_TILE (R248); operands: the run and its logical frame. -/
  | storeTile (run : Nat) (frame : Fin 36)
  /-- MOVE_HINT (R248); operands: the run and its logical frame. -/
  | moveHint (run : Nat) (frame : Fin 36)
  /-- RUN_MULTIPLY (R199); operands: the run and its logical frame. -/
  | runMultiply (run : Nat) (frame : Fin 36)
  /-- RUN_ACCUMULATE (R199); operands: the run and its logical frame. -/
  | runAccumulate (run : Nat) (frame : Fin 36)
  /-- RUN_DRAIN (R202); operands: the run and its logical frame. -/
  | runDrain (run : Nat) (frame : Fin 36)
  /-- VEC_LOAD (R211); operands: the run and its logical frame. -/
  | vecLoad (run : Nat) (frame : Fin 36)
  /-- VEC_STORE (R211); operands: the run and its logical frame. -/
  | vecStore (run : Nat) (frame : Fin 36)
  /-- VEC_ADD (R211); operands: the run and its logical frame. -/
  | vecAdd (run : Nat) (frame : Fin 36)
  /-- VEC_SUB (R211); operands: the run and its logical frame. -/
  | vecSub (run : Nat) (frame : Fin 36)
  /-- VEC_MUL (R211); operands: the run and its logical frame. -/
  | vecMul (run : Nat) (frame : Fin 36)
  /-- VEC_FMA (R211); operands: the run and its logical frame. -/
  | vecFma (run : Nat) (frame : Fin 36)
  /-- VEC_MAX (R211); operands: the run and its logical frame. -/
  | vecMax (run : Nat) (frame : Fin 36)
  /-- VEC_MIN (R211); operands: the run and its logical frame. -/
  | vecMin (run : Nat) (frame : Fin 36)
  /-- VEC_ABS (R211); operands: the run and its logical frame. -/
  | vecAbs (run : Nat) (frame : Fin 36)
  /-- VEC_NEG (R211); operands: the run and its logical frame. -/
  | vecNeg (run : Nat) (frame : Fin 36)
  /-- VEC_CMPLT (R211); operands: the run and its logical frame. -/
  | vecCmplt (run : Nat) (frame : Fin 36)
  /-- VEC_SELECT (R211); operands: the run and its logical frame. -/
  | vecSelect (run : Nat) (frame : Fin 36)
  /-- VEC_IOTA (R211); operands: the run and its logical frame. -/
  | vecIota (run : Nat) (frame : Fin 36)
  /-- VEC_RCP (R211); operands: the run and its logical frame. -/
  | vecRcp (run : Nat) (frame : Fin 36)
  /-- VEC_RSQRT (R211); operands: the run and its logical frame. -/
  | vecRsqrt (run : Nat) (frame : Fin 36)
  /-- VEC_SQRT (R211); operands: the run and its logical frame. -/
  | vecSqrt (run : Nat) (frame : Fin 36)
  /-- VEC_EXP2 (R211); operands: the run and its logical frame. -/
  | vecExp2 (run : Nat) (frame : Fin 36)
  /-- VEC_EXP (R211); operands: the run and its logical frame. -/
  | vecExp (run : Nat) (frame : Fin 36)
  /-- VEC_LOG2 (R211); operands: the run and its logical frame. -/
  | vecLog2 (run : Nat) (frame : Fin 36)
  /-- VEC_TANH (R211); operands: the run and its logical frame. -/
  | vecTanh (run : Nat) (frame : Fin 36)
  /-- VEC_SIGMOID (R211); operands: the run and its logical frame. -/
  | vecSigmoid (run : Nat) (frame : Fin 36)
  /-- VEC_SIN (R212); operands: the run and its logical frame. -/
  | vecSin (run : Nat) (frame : Fin 36)
  /-- VEC_COS (R212); operands: the run and its logical frame. -/
  | vecCos (run : Nat) (frame : Fin 36)
  /-- VEC_RSUM (R211); operands: the run and its logical frame. -/
  | vecRsum (run : Nat) (frame : Fin 36)
  /-- VEC_RMAX (R211); operands: the run and its logical frame. -/
  | vecRmax (run : Nat) (frame : Fin 36)
  /-- VEC_RMIN (R211); operands: the run and its logical frame. -/
  | vecRmin (run : Nat) (frame : Fin 36)
  /-- VEC_AND (R211); operands: the run and its logical frame. -/
  | vecAnd (run : Nat) (frame : Fin 36)
  /-- VEC_OR (R211); operands: the run and its logical frame. -/
  | vecOr (run : Nat) (frame : Fin 36)
  /-- VEC_XOR (R211); operands: the run and its logical frame. -/
  | vecXor (run : Nat) (frame : Fin 36)
  /-- WAIT_TOKEN (R243); operands: the run and its logical frame. -/
  | waitToken (run : Nat) (frame : Fin 36)
  /-- WAIT_DEVICE_WORD (R244); operands: the run and its logical frame. -/
  | waitDeviceWord (run : Nat) (frame : Fin 36)
  /-- WAIT_REMOTE_WORD (R244); operands: the run and its logical frame. -/
  | waitRemoteWord (run : Nat) (frame : Fin 36)
  /-- WAIT_POLL (R243); operands: the run and its logical frame. -/
  | waitPoll (run : Nat) (frame : Fin 36)
  /-- SIGNAL_ADD (R243); operands: the run and its logical frame. -/
  | signalAdd (run : Nat) (frame : Fin 36)
  /-- SIGNAL_SET (R243); operands: the run and its logical frame. -/
  | signalSet (run : Nat) (frame : Fin 36)
  /-- REMOTE_WRITE (R249); operands: the run and its logical frame. -/
  | remoteWrite (run : Nat) (frame : Fin 36)
  /-- REMOTE_READ (R249); operands: the run and its logical frame. -/
  | remoteRead (run : Nat) (frame : Fin 36)
  /-- LOOP (R246); operands: the run and its logical frame. -/
  | loop (run : Nat) (frame : Fin 36)
  /-- END (R245); operands: the run and its logical frame. -/
  | endStep (run : Nat) (frame : Fin 36)
  /-- STEP_COMPLETED (R241); operands: the issued step. -/
  | stepCompleted (run : Nat) (frame : Fin 36) (step : Nat)
  /-- LOAD_TILE_POISON_RETRY (R247); operands: the waiting step. -/
  | loadTilePoisonRetry (run : Nat) (frame : Fin 36) (step : Nat)
  /-- STALL_LIMIT_EXPIRED (R254); operands: the run and the stalled logical frame. -/
  | stallLimitExpired (run : Nat) (frame : Fin 36)
  /-- RUN_STOPPED (R256); operands: the run. -/
  | runStopped (run : Nat)
  /-- ATTEND_APPEND_DONE (R259); operands: the run whose append ends. -/
  | attendAppendDone (run : Nat)
  /-- REGISTER (R229); operands: the road and the CONTEXT of the write. -/
  | register (road : Road) (context : Nat)
  /-- REGISTRATION_DIGEST_DONE (R229); operands: the registering partition. -/
  | registrationDigestDone (part : Fin 64)
  /-- UNREGISTER (R232); operands: the road and the CONTEXT of the write. -/
  | unregister (road : Road) (context : Nat)
  /-- RELOAD (R232); operands: the road and the CONTEXT of the write. -/
  | reload (road : Road) (context : Nat)
  /-- RING_ENABLE (R266); operands: the ring, and the writer's SPID. -/
  | ringEnable (port : Fin 4) (ld : Fin 16) (spid : Nat) (ring : Fin 64)
  /-- RING_DISABLE (R270); operands: the ring, and the writer's SPID. -/
  | ringDisable (port : Fin 4) (ld : Fin 16) (spid : Nat) (ring : Fin 64)
  /-- SQ_TAIL_DOORBELL (R267); operands: the ring, and the values stored between two samplings, oldest first. -/
  | sqTailDoorbell (port : Fin 4) (ld : Fin 16) (spid : Nat) (ring : Fin 64) (stores : List (BitVec 16))
  /-- CQ_HEAD_WRITE (R267); operands: the ring, and the values stored between two samplings, oldest first. -/
  | cqHeadWrite (port : Fin 4) (ld : Fin 16) (spid : Nat) (ring : Fin 64) (stores : List (BitVec 16))
  /-- DESCRIPTOR_FETCH (R274); operands: the ring served. -/
  | descriptorFetch (port : Fin 4) (ld : Fin 16) (ring : Fin 64)
  /-- COMMAND_DEADLINE_EXPIRED (R286); operands: the fetched command. -/
  | commandDeadlineExpired (cmd : Nat)
  /-- IRQ_GATHERING_END (R284); operands: the ring. -/
  | irqGatheringEnd (port : Fin 4) (ld : Fin 16) (ring : Fin 64)
  /-- FILL (R292); operands: the fetched command. -/
  | fill (cmd : Nat)
  /-- COPY (R289); operands: the fetched command. -/
  | copy (cmd : Nat)
  /-- COMPARE (R290); operands: the fetched command. -/
  | compare (cmd : Nat)
  /-- REDUCE_SUM (R291); operands: the fetched command. -/
  | reduceSum (cmd : Nat)
  /-- REDUCE_MAX (R291); operands: the fetched command. -/
  | reduceMax (cmd : Nat)
  /-- REDUCE_MIN (R291); operands: the fetched command. -/
  | reduceMin (cmd : Nat)
  /-- REDUCE_AND (R291); operands: the fetched command. -/
  | reduceAnd (cmd : Nat)
  /-- REDUCE_OR (R291); operands: the fetched command. -/
  | reduceOr (cmd : Nat)
  /-- REDUCE_XOR (R291); operands: the fetched command. -/
  | reduceXor (cmd : Nat)
  /-- NEAR_MEMORY_DONE (R288); operands: the fetched command. -/
  | nearMemoryDone (cmd : Nat)
  /-- SQUEEGEE (R389); operands: the fetched command. -/
  | squeegee (cmd : Nat)
  /-- SQUEEGEE_PASS_DONE (R391); operands: the fetched command. -/
  | squeegeePassDone (cmd : Nat)
  /-- CLAIM (R315); operands: the fetched command. -/
  | claim (cmd : Nat)
  /-- RELEASE (R316); operands: the fetched command. -/
  | release (cmd : Nat)
  /-- PUBLISH (R318); operands: the fetched command. -/
  | publish (cmd : Nat)
  /-- EXPOSE_OPEN (R307); operands: the fetched command. -/
  | exposeOpen (cmd : Nat)
  /-- EXPOSE_ADD (R308); operands: the fetched command. -/
  | exposeAdd (cmd : Nat)
  /-- EXPOSE_COMMIT (R311); operands: the fetched command. -/
  | exposeCommit (cmd : Nat)
  /-- EXPOSE_ABORT (R313); operands: the fetched command. -/
  | exposeAbort (cmd : Nat)
  /-- PREPARE (R311); operands: the exposure and the participant. -/
  | prepare (expo : Fin 256) (who : Participant)
  /-- PARTICIPANT_QUIET_TIMEOUT (R311); operands: the exposure and the participant. -/
  | participantQuietTimeout (expo : Fin 256) (who : Participant)
  /-- PREPARE_ANSWERS_IN (R311); operands: the exposure. -/
  | prepareAnswersIn (expo : Fin 256)
  /-- COMMIT_RETRY_TIMER (R311); operands: the exposure. -/
  | commitRetryTimer (expo : Fin 256)
  /-- APPLY (R311); operands: the exposure and the participant. -/
  | apply (expo : Fin 256) (who : Participant)
  /-- EXPOSURE_IDLE_EXPIRED (R313); operands: the exposure. -/
  | exposureIdleExpired (expo : Fin 256)
  /-- KEYLOAD (R474); operands: the fetched command. -/
  | keyload (cmd : Nat)
  /-- PARTITION_ASSIGN (R297); operands: the road, the partition and the 16 B entry written. -/
  | partitionAssign (road : Road) (part : Fin 64) (value : Nat)
  /-- PARTITION_LD_ADD (R297); operands: the road, the partition and the 16 B entry written. -/
  | partitionLdAdd (road : Road) (part : Fin 64) (value : Nat)
  /-- PARTITION_REASSIGN (R324); operands: the road, the partition and the 16 B entry written. -/
  | partitionReassign (road : Road) (part : Fin 64) (value : Nat)
  /-- PARTITION_SCRUB_DONE (R324); operands: the partition. -/
  | partitionScrubDone (part : Fin 64)
  /-- DECLARE_FAILED (R321); operands: the road and the value written. -/
  | declareFailed (road : Road) (value : Nat)
  /-- CLAIM_TILE_POISONED (R322); operands: the dying claim. -/
  | claimTilePoisoned (claim : Nat)
  /-- DRAIN_LIMIT_EXPIRED (R323); operands: the revoke. -/
  | drainLimitExpired (revoke : Nat)
  /-- LINK_L0_REACHED (R330); operands: the port, its rate code (0 below 16 GT/s, 1, 2, 3), its width and what the partner negotiated. -/
  | linkL0Reached (port : Fin 4) (rate : Nat) (width : Nat) (mld : Bool) (flits256 : Bool) (tags14 : Bool)
  /-- LINK_RETRY_TIMER (R330); operands: the port. -/
  | linkRetryTimer (port : Fin 4)
  /-- SURPRISE_DOWN (R353); operands: the port. -/
  | surpriseDown (port : Fin 4)
  /-- CONTAINMENT_CAUSE (R353); operands: the port and the error. -/
  | containmentCause (port : Fin 4) (error : ErrKind)
  /-- CONTAINMENT_RELEASE (R355); operands: the port. -/
  | containmentRelease (port : Fin 4)
  /-- PORT_QUIESCE (R568); operands: the road and the value written. -/
  | portQuiesce (road : Road) (value : Nat)
  /-- PORT_QUIESCE_CANCEL (R568); operands: the road and the value written. -/
  | portQuiesceCancel (road : Road) (value : Nat)
  /-- PERST_ASSERT (R352); operands: the port. -/
  | perstAssert (port : Fin 4)
  /-- PERST_DEASSERT (R509); operands: the port. -/
  | perstDeassert (port : Fin 4)
  /-- FLR_INITIATE (R350); operands: the LD. -/
  | flrInitiate (port : Fin 4) (ld : Fin 16)
  /-- FLR_COMPLETE (R350); operands: the LD. -/
  | flrComplete (port : Fin 4) (ld : Fin 16)
  /-- PF0_FLR (R352); operands: the port. -/
  | pf0Flr (port : Fin 4)
  /-- BUS_MASTER_DISABLE (R349); operands: the LD, and whether it enters D3hot instead. -/
  | busMasterDisable (port : Fin 4) (ld : Fin 16) (d3hot : Bool)
  /-- BUS_MASTER_ENABLE (R349); operands: the LD, and whether it returns to D0 instead. -/
  | busMasterEnable (port : Fin 4) (ld : Fin 16) (d0 : Bool)
  /-- HDM_DECODER_COMMIT (R333); operands: the LD, the writer's SPID, the decoder and its registers. -/
  | hdmDecoderCommit (port : Fin 4) (ld : Fin 16) (spid : Nat) (decoder : Fin 4) (base : Nat) (size : Nat) (skip : Nat) (control : DecoderControl)
  /-- CONFIG_REQUEST (R509); operands: the function, the direction, the field and the value. -/
  | configRequest (fn : Fn) (isWrite : Bool) (field : CfgField) (value : Nat)
  /-- REGISTER_WRITE (R338); operands: the function, the requester's SPID, the BAR0 offset, the size in bytes, and what it does: a write
  of a value, which may come poisoned, or a read instead. -/
  | registerWrite (fn : Fn) (spid : Nat) (offset : Nat) (size : Nat) (access : RegAccess)
  /-- COMPLETION_RECEIVED (R346); operands: the port, the tag, and what the completion carries. -/
  | completionReceived (port : Fin 4) (tag : Nat) (status : CplStatus) (poisoned : Bool) (bytes : List Byte)
  /-- COMPLETION_TIMEOUT (R348); operands: the port and the tag. -/
  | completionTimeout (port : Fin 4) (tag : Nat)
  /-- TAG_QUARANTINE_END (R348); operands: the port and the tag. -/
  | tagQuarantineEnd (port : Fin 4) (tag : Nat)
  /-- MSIX_UNMASK (R341); operands: the LD, with the writer's SPID, and the vector. -/
  | msixUnmask (port : Fin 4) (ld : BarReq (Fin 16)) (vector : Fin 2048)
  /-- LTR_INTERVAL_END (R343); operands: the port. -/
  | ltrIntervalEnd (port : Fin 4)
  /-- L1_ENTRY_IDLE_EXPIRED (R344); operands: the port, and whether its virtual link states agree to L1. -/
  | l1EntryIdleExpired (port : Fin 4) (agreed : Bool)
  /-- IDENTIFY (R339); operands: the function, with the writer's SPID. -/
  | identify (req : BarReq Fn)
  /-- GET_SUPPORTED_LOGS (R339); operands: the function, with the writer's SPID. -/
  | getSupportedLogs (req : BarReq Fn)
  /-- GET_LOG (R339); operands: the function, with the writer's SPID. -/
  | getLog (req : BarReq Fn)
  /-- IDENTIFY_MEMORY_DEVICE (R339); operands: the function, with the writer's SPID. -/
  | identifyMemoryDevice (req : BarReq Fn)
  /-- GET_PARTITION_INFO (R339); operands: the function, with the writer's SPID. -/
  | getPartitionInfo (req : BarReq Fn)
  /-- GET_HEALTH_INFO (R339); operands: the function, with the writer's SPID. -/
  | getHealthInfo (req : BarReq Fn)
  /-- GET_LD_INFO (R305); operands: the road. -/
  | getLdInfo (road : Road)
  /-- GET_LD_ALLOCATIONS (R305); operands: the road. -/
  | getLdAllocations (road : Road)
  /-- DOE_DISCOVERY (R336); operands: the function and the protocol index asked for. -/
  | doeDiscovery (fn : Fn) (index : Nat)
  /-- DOE_TABLE_ACCESS (R337); operands: the function. -/
  | doeTableAccess (fn : Fn)
  /-- DOE_ABORT (R336); operands: the function. -/
  | doeAbort (fn : Fn)
  /-- GET_VERSION (R463); operands: where the request arrives. -/
  | getVersion (at_ : SpdmAt)
  /-- GET_CAPABILITIES (R463); operands: where the request arrives. -/
  | getCapabilities (at_ : SpdmAt)
  /-- NEGOTIATE_ALGORITHMS (R464); operands: where it arrives, and whether the requester offers the two extended algorithms. -/
  | negotiateAlgorithms (at_ : SpdmAt) (hss : Bool) (mlkem : Bool)
  /-- GET_DIGESTS (R466); operands: where the request arrives. -/
  | getDigests (at_ : SpdmAt)
  /-- GET_CERTIFICATE (R466); operands: where it arrives, and the part of the chain asked for. -/
  | getCertificate (at_ : SpdmAt) (slot : Nat) (offset : Nat) (length : Nat)
  /-- CHALLENGE (R461); operands: where it arrives, the slot and the nonce. -/
  | challenge (at_ : SpdmAt) (slot : Nat) (nonce : List Byte)
  /-- GET_MEASUREMENTS (R468); operands: where it arrives, the operation, whether a signature is asked for and the nonce. -/
  | getMeasurements (at_ : SpdmAt) (operation : Nat) (sign : Bool) (nonce : List Byte)
  /-- KEY_EXCHANGE (R465); operands: where it arrives, the requester's half of the session ID and its encapsulation key. -/
  | keyExchange (at_ : SpdmAt) (reqSessionId : Nat) (key : List Byte)
  /-- FINISH (R463); operands: the session and the verification data. -/
  | finish (session : Nat) (verify : List Byte)
  /-- HEARTBEAT (R463); operands: the session. -/
  | heartbeat (session : Nat)
  /-- KEY_UPDATE (R463); operands: the session. -/
  | keyUpdate (session : Nat)
  /-- END_SESSION (R467); operands: the session. -/
  | endSession (session : Nat)
  /-- IDE_KM_QUERY (R470); operands: the session, the port named, and whether it is CXL_IDE_KM. -/
  | ideKmQuery (session : Nat) (port : Fin 4) (mem : Bool)
  /-- KEY_PROG (R470); operands: the session, the port, the protocol, the direction, the key set and the key. -/
  | keyProg (session : Nat) (port : Fin 4) (mem : Bool) (rx : Bool) (set : Fin 2) (key : List Byte)
  /-- K_SET_GO (R470); operands: the session, the port, the protocol, the direction and the key set. -/
  | kSetGo (session : Nat) (port : Fin 4) (mem : Bool) (rx : Bool) (set : Fin 2)
  /-- K_SET_STOP (R470); operands: the session, the port, the protocol, the direction and the key set. -/
  | kSetStop (session : Nat) (port : Fin 4) (mem : Bool) (rx : Bool) (set : Fin 2)
  /-- GETKEY (R470); operands: the session and the port. -/
  | getkey (session : Nat) (port : Fin 4)
  /-- COUNTER_RECORD_DURABLE (R459); operands: nothing. -/
  | counterRecordDurable
  /-- TREE_OPEN_DONE (R460); operands: whether all three copies of the fuse read back as burned. -/
  | treeOpenDone (burned : Bool)
  /-- SIGN_RATE_REFILL (R461); operands: nothing. -/
  | signRateRefill
  /-- SVN_COMMIT (R454); operands: the road, whether a secured session carries it, the value, and whether every copy reads back as
  burned. -/
  | svnCommit (road : Road) (secured : Bool) (value : Nat) (burned : Bool)
  /-- DEBUG_CHALLENGE (R486); operands: nothing. -/
  | debugChallenge
  /-- DEBUG_TOKEN (R486); operands: the road, the scope and the signature. -/
  | debugToken (road : Road) (scope : Nat) (signature : List Byte)
  /-- DEBUG_CLOSE (R488); operands: the road, whether a secured session carries it, and the value. -/
  | debugClose (road : Road) (secured : Bool) (value : Nat)
  /-- CALIBRATION_DUE (R371); operands: the item, and the controller with the rank, pseudo-channel or HBM channel that the item blocks. -/
  | calibrationDue (item : CalItem) (at_ : CtlPlace)
  /-- REFRESH_DUE (R372); operands: the controller with the rank or pseudo-channel, the bank that a refresh of single banks takes, whether
  its temperature asks for doubled refresh, and whether a burst of work is being finished. -/
  | refreshDue (at_ : CtlPlace) (bank : Nat) (doubled : Bool) (postpone : Bool)
  /-- DRAM_REQUEST (R373); operands: the controller, the port, the kind of request, and the sector of the channel or stack, as its 4 KiB
  block and the sector in it. -/
  | dramRequest (ctl : Ctl) (port : DramPort) (isWrite : Bool) (block : Nat) (sector : Fin 64)
  /-- SECTOR_READ_RETURN (R381); operands: what was read, the on-die ECC severity report of HBM3, and the bits of the stored burst
  (data, then check bytes) that have gone wrong since it was written or last read. -/
  | sectorReadReturn (ref : ReadRef) (severe : Bool) (error : List Byte)
  /-- STARVE_LIMIT_EXPIRED (R373); operands: the controller and the request. -/
  | starveLimitExpired (ctl : Ctl) (request : Nat)
  /-- PARITY_ALERT (R376); operands: the controller. -/
  | parityAlert (ctl : Ctl)
  /-- ALERT_WAIT_EXPIRED (R377); operands: the controller. -/
  | alertWaitExpired (ctl : Ctl)
  /-- REPLAY_DONE (R376); operands: the controller. -/
  | replayDone (ctl : Ctl)
  /-- REPLAY_EPISODE_END (R377); operands: the controller. -/
  | replayEpisodeEnd (ctl : Ctl)
  /-- SELF_REFRESH_IDLE_EXPIRED (R378); operands: the channel. -/
  | selfRefreshIdleExpired (channel : Fin 16)
  /-- SELF_REFRESH_EXIT_DONE (R379); operands: the channel. -/
  | selfRefreshExitDone (channel : Fin 16)
  /-- HBM_POWER_DOWN_IDLE (R379); operands: the pseudo-channel. -/
  | hbmPowerDownIdle (stack : Fin 8) (pseudo : Fin 32)
  /-- SCRUB_RESERVE (R392); operands: the road and the value written. -/
  | scrubReserve (road : Road) (value : Nat)
  /-- RESERVE_SCRUB_DONE (R392); operands: nothing. -/
  | reserveScrubDone
  /-- NAND_OPERATION_DONE (R412); operands: the channel, the operation, its place and its result. -/
  | nandOperationDone (channel : Fin 16) (op : NandOp) (superblock : Nat) (row : Nat) (chunk : Nat) (result : NandResult)
  /-- NAND_OPERATION_TIMEOUT (R423); operands: the channel. -/
  | nandOperationTimeout (channel : Fin 16)
  /-- ROW_CLOSE_TIMEOUT (R402); operands: the open superblock whose row waits. -/
  | rowCloseTimeout (superblock : Nat)
  /-- RECORD_BATCH_EXPIRED (R408); operands: nothing. -/
  | recordBatchExpired
  /-- FCR_DURABLE (R408); operands: nothing. -/
  | fcrDurable
  /-- CHECKPOINT_DUE (R410); operands: nothing. -/
  | checkpointDue
  /-- UNDERLAY_MOUNT_DONE (R410); operands: how many records of the log were replayed before one whose FCR_CRC fails or whose SEQ does not
  follow, or nothing where the log could not be read. -/
  | underlayMountDone (records : Option Nat)
  /-- RETENTION_AGE_REACHED (R419); operands: the superblock. -/
  | retentionAgeReached (superblock : Nat)
  /-- READ_LIMIT_REACHED (R420); operands: the superblock. -/
  | readLimitReached (superblock : Nat)
  /-- UNDERLAY_FORMAT (R427); operands: the road and the value written. -/
  | underlayFormat (road : Road) (value : Nat)
  /-- BUDGET_WINDOW_ROLLOVER (R434); operands: the master. -/
  | budgetWindowRollover (master : Fin 131)
  /-- GUARANTEE_RECOMPUTE (R442); operands: nothing. -/
  | guaranteeRecompute
  /-- POWER_ON (R506); operands: the levels on OSC_DLY. -/
  | powerOn (straps : BitVec 3)
  /-- POWER_OFF (R556); operands: nothing. -/
  | powerOff
  /-- GRST_ASSERT (R506); operands: nothing. -/
  | grstAssert
  /-- GRST_DEASSERT (R506); operands: the levels on OSC_DLY. -/
  | grstDeassert (straps : BitVec 3)
  /-- RESTART (R506); operands: the road and the value written. -/
  | restart (road : Road) (value : Nat)
  /-- OSC_DELAY_EXPIRED (R494); operands: nothing. -/
  | oscDelayExpired
  /-- LOSC_JUDGEMENT_DONE (R494); operands: the edges counted in the two windows. -/
  | loscJudgementDone (count1 : Nat) (count2 : Nat)
  /-- FUSE_PHASE_DONE (R508); operands: the bits of factory fields that some copy reads wrong. -/
  | fusePhaseDone (upsets : List FuseUpset)
  /-- IMAGE_PHASE_DONE (R452); operands: nothing. -/
  | imagePhaseDone
  /-- CHANNEL_TRAIN_TIMEOUT (R369); operands: the channel. -/
  | channelTrainTimeout (channel : Fin 16)
  /-- TRAIN_PHASE_DONE (R511); operands: what the board populates and what trained. -/
  | trainPhaseDone (found : Population)
  /-- PHASE_BUDGET_EXPIRED (R508); operands: the reason of Table 14-7 that applies. -/
  | phaseBudgetExpired (reason : Nat)
  /-- RETRY_DELAY_EXPIRED (R513); operands: nothing. -/
  | retryDelayExpired
  /-- REFERENCE_SELECT_RCLK (R496); operands: the road and the value written. -/
  | referenceSelectRclk (road : Road) (value : Nat)
  /-- REFERENCE_SELECT_LOSC (R497); operands: the road and the value written. -/
  | referenceSelectLosc (road : Road) (value : Nat)
  /-- RCLK_CHECK_DONE (R496); operands: whether the candidate stayed within 400 ppm, and its offset in ppm x 100. -/
  | rclkCheckDone (within : Bool) (ppm : Int)
  /-- RCLK_LOST (R497); operands: nothing. -/
  | rclkLost
  /-- RCLK_HOLDOFF_EXPIRED (R497); operands: nothing. -/
  | rclkHoldoffExpired
  /-- LOSC_LOST (R498); operands: nothing. -/
  | loscLost
  /-- FRAME_CLOCK_ENABLE (R503); operands: the road and the value written. -/
  | frameClockEnable (road : Road) (value : Nat)
  /-- MEMORY_CLOCK_ENABLE (R502); operands: the road, the object (0 DDR, 1 ONFI, 2 HBM) and the value written. -/
  | memoryClockEnable (road : Road) (kind : Fin 3) (value : Nat)
  /-- GATE_CLOSE (R504); operands: the block (0 frame, 1 DDR, 2 ONFI, 3 HBM), and the accesses still in progress after 256 cycles. -/
  | gateClose (kind : Fin 4) (block : Nat) (busy : Nat)
  /-- RAIL_FAULT (R556); operands: the rail. -/
  | railFault (rail : Fin 11)
  /-- RAIL_RESTORED (R556); operands: nothing. -/
  | railRestored
  /-- THERMAL_SAMPLE (R559); operands: the hottest valid reading of each of 24 dies and of the DIMMs in 0.1 °C, and the averaged
  rail powers in mW. -/
  | thermalSample (temps : List Int) (dimmMax : Int) (rails : List Nat)
  /-- SENSOR_TIMEOUT (R558); operands: the sensor. -/
  | sensorTimeout (die : Fin 24) (sensor : Nat)
  /-- DERATE_END_TIMER (R561); operands: nothing. -/
  | derateEndTimer
  /-- JTAG_INSTRUCTION (R563); operands: the instruction. -/
  | jtagInstruction (ir : JtagInstr)
  /-- READ (R525); operands: the fields of the message. -/
  | read (road : Road) (tag : Nat) (index : Nat) (sub : Nat) (context : Nat) (offset : Nat) (length : Nat)
  /-- WRITE (R527); operands: the fields of the message, and whether a secured session carries it. -/
  | write (road : Road) (secured : Bool) (tag : Nat) (index : Nat) (sub : Nat) (context : Nat) (bytes : List Byte)
  /-- DESCRIBE (R569); operands: the fields of the message. -/
  | describe (road : Road) (tag : Nat) (index : Nat) (sub : Nat)
  /-- XFER_OPEN (R531); operands: the fields of the message. -/
  | xferOpen (road : Road) (tag : Nat) (index : Nat) (sub : Nat) (total : Nat)
  /-- XFER_DATA (R533); operands: the fields of the message. -/
  | xferData (road : Road) (tag : Nat) (xfer : Nat) (offset : Nat) (bytes : List Byte)
  /-- XFER_COMMIT (R533); operands: the fields of the message. -/
  | xferCommit (road : Road) (tag : Nat) (xfer : Nat)
  /-- XFER_ABORT (R531); operands: the fields of the message. -/
  | xferAbort (road : Road) (tag : Nat) (xfer : Nat)
  /-- PERSIST_PROGRAM_DONE (R530); operands: whether the flash program succeeded. -/
  | persistProgramDone (ok : Bool)
  /-- SNAPSHOT_LAPSE (R525); operands: the road instance. -/
  | snapshotLapse (road : Road)
  /-- TRANSFER_IDLE_TIMEOUT (R531); operands: the transfer. -/
  | transferIdleTimeout (xfer : Nat)
  /-- IMAGE_SLOT_ERASE_DONE (R532); operands: the slot. -/
  | imageSlotEraseDone (slot : Fin 2)
  /-- IMAGE_VERIFY_DONE (R455); operands: the slot. -/
  | imageVerifyDone (slot : Fin 2)
  /-- EVENT_SWAP (R545); operands: the road and the value written. -/
  | eventSwap (road : Road) (value : Nat)
  /-- LM_ENABLE (R546); operands: the road and the value written. -/
  | lmEnable (road : Road) (value : Nat)
  /-- LM_SAMPLE (R546); operands: nothing. -/
  | lmSample
  /-- LM_SWAP (R546); operands: the road and the value written. -/
  | lmSwap (road : Road) (value : Nat)
  /-- LIFETIME_HOURLY_WRITE (R542); operands: nothing. -/
  | lifetimeHourlyWrite
  /-- ORDERLY_LINK_DOWN (R568); operands: the port. -/
  | orderlyLinkDown (port : Fin 4)
  /-- RESET_PULSE_IGNORED (R551); operands: nothing. -/
  | resetPulseIgnored
  /-- CATASTROPHIC_TEMPERATURE_ALARM (R562); operands: the stack. -/
  | catastrophicTemperatureAlarm (stack : Fin 8)
  /-- CORRECTABLE_LINK_ERROR (R360); operands: the port and the error. -/
  | correctableLinkError (port : Fin 4) (error : ErrKind)
  /-- ENCODE_DONE (R165); operands: the encode, and the bits in which the encoder's output is wrong (R167). -/
  | encodeDone (job : Nat) (error : List Byte)
  /-- DYNAMIC_ADDRESS_ASSIGNMENT (R519); operands: the address. -/
  | dynamicAddressAssignment (address : BitVec 7)
  deriving DecidableEq, Repr

end Sys2Proof
end

