-- ==== Sys2Proof/WellFormed.lean ====
section
/-! DEFINITION. What a command must look like: each operand within the width that the manual gives it. -/

namespace Sys2Proof

/-- True when every operand lies within the width the manual gives it. -/
def Instr.wf : Instr → Bool
  | .purlinFrame _ _ _ crc => decide (crc < 2 ^ 32)
  | .purlinLinkFailed _ => true
  | .cxlMemRead _ _ spid tag hpa => decide (spid < 4096) && decide (tag < 65536) && decide (hpa < 2 ^ 64)
  | .cxlMemWrite _ _ spid tag hpa _ bytes _ => bytes.length == 64 && decide (spid < 4096) && decide (tag < 65536) && decide (hpa < 2 ^ 64)
  | .moveStart _ => true
  | .copyPassEnd ext _ => decide (ext < 2 ^ 28)
  | .flipWindowClear ext _ => decide (ext < 2 ^ 28)
  | .flipWindowTimeout ext _ => decide (ext < 2 ^ 28)
  | .freePendingSlotReturn _ _ slot => decide (slot < 2 ^ 28)
  | .damagedHoldTimeout ext _ _ => decide (ext < 2 ^ 28)
  | .noSlotWaitTimeout ext _ => decide (ext < 2 ^ 28)
  | .heatHalving _ => true
  | .heatHalfLifeWrite _ value => decide (value < 2 ^ 128)
  | .parkStart _ => true
  | .parkPassEnd ext => decide (ext < 2 ^ 28)
  | .parkWindowClear ext => decide (ext < 2 ^ 28)
  | .unparkStart _ => true
  | .tileLanded ext _ _ => decide (ext < 2 ^ 28)
  | .unparkLoadTimeout ext _ tag => decide (ext < 2 ^ 28) && decide (tag < 65536)
  | .unparkStoreTimeout ext _ tag => decide (ext < 2 ^ 28) && decide (tag < 65536)
  | .hintHot _ => true
  | .hintWarm _ => true
  | .hintCold _ => true
  | .hintPark _ => true
  | .hintDrop _ => true
  | .sessionHintHot _ => true
  | .sessionHintWarm _ => true
  | .sessionHintCold _ => true
  | .sessionHintPark _ => true
  | .sessionHintDrop _ => true
  | .move _ => true
  | .park _ => true
  | .parkBySession _ => true
  | .unpark _ => true
  | .unparkBySession _ => true
  | .drop _ => true
  | .dropBySession _ => true
  | .bind _ => true
  | .update _ => true
  | .query _ => true
  | .prefixForm _ => true
  | .sessionEnd _ => true
  | .sessionEndPrefix _ => true
  | .sessionScanVisit _ entry => decide (entry < 262144)
  | .calendarSecondsWrite _ value => decide (value < 2 ^ 128)
  | .teststrip _ => true
  | .teststripSampleStart _ => true
  | .teststripSketchDone _ => true
  | .teststripTrialDone _ => true
  | .decodeDone _ error => decide (error.length ≤ 4096)
  | .run _ => true
  | .attend _ => true
  | .rebuild _ => true
  | .runGrant _ => true
  | .frameSwitchDone _ _ => true
  | .nop _ _ => true
  | .loadTile _ _ => true
  | .storeTile _ _ => true
  | .moveHint _ _ => true
  | .runMultiply _ _ => true
  | .runAccumulate _ _ => true
  | .runDrain _ _ => true
  | .vecLoad _ _ => true
  | .vecStore _ _ => true
  | .vecAdd _ _ => true
  | .vecSub _ _ => true
  | .vecMul _ _ => true
  | .vecFma _ _ => true
  | .vecMax _ _ => true
  | .vecMin _ _ => true
  | .vecAbs _ _ => true
  | .vecNeg _ _ => true
  | .vecCmplt _ _ => true
  | .vecSelect _ _ => true
  | .vecIota _ _ => true
  | .vecRcp _ _ => true
  | .vecRsqrt _ _ => true
  | .vecSqrt _ _ => true
  | .vecExp2 _ _ => true
  | .vecExp _ _ => true
  | .vecLog2 _ _ => true
  | .vecTanh _ _ => true
  | .vecSigmoid _ _ => true
  | .vecSin _ _ => true
  | .vecCos _ _ => true
  | .vecRsum _ _ => true
  | .vecRmax _ _ => true
  | .vecRmin _ _ => true
  | .vecAnd _ _ => true
  | .vecOr _ _ => true
  | .vecXor _ _ => true
  | .waitToken _ _ => true
  | .waitDeviceWord _ _ => true
  | .waitRemoteWord _ _ => true
  | .waitPoll _ _ => true
  | .signalAdd _ _ => true
  | .signalSet _ _ => true
  | .remoteWrite _ _ => true
  | .remoteRead _ _ => true
  | .loop _ _ => true
  | .endStep _ _ => true
  | .stepCompleted _ _ step => decide (step < 2097152)
  | .loadTilePoisonRetry _ _ step => decide (step < 2097152)
  | .stallLimitExpired _ _ => true
  | .runStopped _ => true
  | .attendAppendDone _ => true
  | .register _ context => decide (context < 256)
  | .registrationDigestDone _ => true
  | .unregister _ context => decide (context < 256)
  | .reload _ context => decide (context < 256)
  | .ringEnable _ _ spid _ => decide (spid < 4096)
  | .ringDisable _ _ spid _ => decide (spid < 4096)
  | .sqTailDoorbell _ _ spid _ stores => decide (spid < 4096) && ! stores.isEmpty
  | .cqHeadWrite _ _ spid _ stores => decide (spid < 4096) && ! stores.isEmpty
  | .descriptorFetch _ _ _ => true
  | .commandDeadlineExpired _ => true
  | .irqGatheringEnd _ _ _ => true
  | .fill _ => true
  | .copy _ => true
  | .compare _ => true
  | .reduceSum _ => true
  | .reduceMax _ => true
  | .reduceMin _ => true
  | .reduceAnd _ => true
  | .reduceOr _ => true
  | .reduceXor _ => true
  | .nearMemoryDone _ => true
  | .squeegee _ => true
  | .squeegeePassDone _ => true
  | .claim _ => true
  | .release _ => true
  | .publish _ => true
  | .exposeOpen _ => true
  | .exposeAdd _ => true
  | .exposeCommit _ => true
  | .exposeAbort _ => true
  | .prepare _ _ => true
  | .participantQuietTimeout _ _ => true
  | .prepareAnswersIn _ => true
  | .commitRetryTimer _ => true
  | .apply _ _ => true
  | .exposureIdleExpired _ => true
  | .keyload _ => true
  | .partitionAssign _ _ value => decide (value < 2 ^ 128)
  | .partitionLdAdd _ _ value => decide (value < 2 ^ 128)
  | .partitionReassign _ _ value => decide (value < 2 ^ 128)
  | .partitionScrubDone _ => true
  | .declareFailed _ value => decide (value < 2 ^ 128)
  | .claimTilePoisoned _ => true
  | .drainLimitExpired _ => true
  | .linkL0Reached _ rate width _ _ _ => decide (rate ≤ 3) && decide (width ≤ 16)
  | .linkRetryTimer _ => true
  | .surpriseDown _ => true
  | .containmentCause _ _ => true
  | .containmentRelease _ => true
  | .portQuiesce _ value => decide (value < 2 ^ 128)
  | .portQuiesceCancel _ value => decide (value < 2 ^ 128)
  | .perstAssert _ => true
  | .perstDeassert _ => true
  | .flrInitiate _ _ => true
  | .flrComplete _ _ => true
  | .pf0Flr _ => true
  | .busMasterDisable _ _ _ => true
  | .busMasterEnable _ _ _ => true
  | .hdmDecoderCommit _ _ spid _ base size skip _ =>
    decide (spid < 4096) && decide (base < 2 ^ 64) && decide (size < 2 ^ 64) && decide (skip < 2 ^ 52)
  | .configRequest _ _ _ value => decide (value < 2 ^ 128)
  | .registerWrite _ spid offset size access => [1, 2, 4, 8].contains size && decide (offset < 2 ^ 20) && decide (spid < 4096)
    && (match access with | .read => true | .write value _ => decide (value < 2 ^ 128))
  | .completionReceived _ tag _ _ _ => decide (tag < 16384)
  | .completionTimeout _ tag => decide (tag < 16384)
  | .tagQuarantineEnd _ tag => decide (tag < 16384)
  | .msixUnmask _ ld _ => decide (ld.spid < 4096)
  | .ltrIntervalEnd _ => true
  | .l1EntryIdleExpired _ _ => true
  | .identify req => decide (req.spid < 4096)
  | .getSupportedLogs req => decide (req.spid < 4096)
  | .getLog req => decide (req.spid < 4096)
  | .identifyMemoryDevice req => decide (req.spid < 4096)
  | .getPartitionInfo req => decide (req.spid < 4096)
  | .getHealthInfo req => decide (req.spid < 4096)
  | .getLdInfo _ => true
  | .getLdAllocations _ => true
  | .doeDiscovery _ _ => true
  | .doeTableAccess _ => true
  | .doeAbort _ => true
  | .getVersion _ => true
  | .getCapabilities _ => true
  | .negotiateAlgorithms _ _ _ => true
  | .getDigests _ => true
  | .getCertificate _ slot _ _ => decide (slot < 2 ^ 28)
  | .challenge _ slot nonce => decide (slot < 8) && nonce.length == 32
  | .getMeasurements _ operation _ nonce => decide (operation < 256) && nonce.length == 32
  | .keyExchange _ reqSessionId key => key.length == 1568 && decide (reqSessionId < 65536)
  | .finish _ _ => true
  | .heartbeat _ => true
  | .keyUpdate _ => true
  | .endSession _ => true
  | .ideKmQuery _ _ _ => true
  | .keyProg _ _ _ _ _ key => key.length == 32
  | .kSetGo _ _ _ _ _ => true
  | .kSetStop _ _ _ _ _ => true
  | .getkey _ _ => true
  | .counterRecordDurable => true
  | .treeOpenDone _ => true
  | .signRateRefill => true
  | .svnCommit _ _ value _ => decide (value < 2 ^ 128)
  | .debugChallenge => true
  | .debugToken _ _ _ => true
  | .debugClose _ _ value => decide (value < 2 ^ 128)
  | .calibrationDue _ at_ => decide (at_.place < 64)
  | .refreshDue at_ bank _ _ => decide (at_.place < 32) && decide (bank < 1024)
  | .dramRequest _ _ _ block _ => decide (block < 2 ^ 34)
  | .sectorReadReturn _ _ error => (error.length == 68 || error.length == 80)
  | .starveLimitExpired _ _ => true
  | .parityAlert _ => true
  | .alertWaitExpired _ => true
  | .replayDone _ => true
  | .replayEpisodeEnd _ => true
  | .selfRefreshIdleExpired _ => true
  | .selfRefreshExitDone _ => true
  | .hbmPowerDownIdle _ _ => true
  | .scrubReserve _ value => decide (value < 2 ^ 128)
  | .reserveScrubDone => true
  | .nandOperationDone _ _ superblock row chunk _ => decide (superblock < 2 ^ 24) && decide (row < 65536) && decide (chunk < 120)
  | .nandOperationTimeout _ => true
  | .rowCloseTimeout superblock => decide (superblock < 2 ^ 24)
  | .recordBatchExpired => true
  | .fcrDurable => true
  | .checkpointDue => true
  | .underlayMountDone _ => true
  | .retentionAgeReached superblock => decide (superblock < 2 ^ 24)
  | .readLimitReached superblock => decide (superblock < 2 ^ 24)
  | .underlayFormat _ value => decide (value < 2 ^ 128)
  | .budgetWindowRollover _ => true
  | .guaranteeRecompute => true
  | .powerOn _ => true
  | .powerOff => true
  | .grstAssert => true
  | .grstDeassert _ => true
  | .restart _ value => decide (value < 2 ^ 128)
  | .oscDelayExpired => true
  | .loscJudgementDone _ _ => true
  | .fusePhaseDone upsets =>
    upsets.all (fun u => decide (u.bit < u.field.bits)) && decide ((upsets.map fun u => (u.field, u.bit)).Nodup)
  | .imagePhaseDone => true
  | .channelTrainTimeout _ => true
  | .trainPhaseDone f =>
    f.dimms.length == 16 && f.dimms.all (fun l => decide (l.length ≤ 2)) && f.banks.length == 8 && f.nand.length == 16
      && f.nand.all fun l => decide (l.length ≤ 8)
  | .phaseBudgetExpired reason => decide (reason < 16)
  | .retryDelayExpired => true
  | .referenceSelectRclk _ value => decide (value < 2 ^ 128)
  | .referenceSelectLosc _ value => decide (value < 2 ^ 128)
  | .rclkCheckDone _ _ => true
  | .rclkLost => true
  | .rclkHoldoffExpired => true
  | .loscLost => true
  | .frameClockEnable _ value => decide (value < 2 ^ 128)
  | .memoryClockEnable _ _ value => decide (value < 2 ^ 128)
  | .gateClose _ _ _ => true
  | .railFault _ => true
  | .railRestored => true
  | .thermalSample temps _ rails => temps.length == 24 && rails.length == 11
  | .sensorTimeout _ sensor => decide (sensor < 9)
  | .derateEndTimer => true
  | .jtagInstruction _ => true
  | .read _ tag index sub context offset length => decide (tag < 256) && decide (index < 65536) && decide (sub < 256) && decide (context < 256) && decide (offset < 2 ^ 32) && decide (length < 65536)
  | .write _ _ tag index sub context bytes => decide (tag < 256) && decide (index < 65536) && decide (sub < 256) && decide (context < 256) && decide (bytes.length ≤ 1024)
  | .describe _ tag index sub => decide (tag < 256) && decide (index < 65536) && decide (sub < 256)
  | .xferOpen _ tag index sub total => decide (tag < 256) && decide (index < 65536) && decide (sub < 256) && decide (total < 2 ^ 32)
  | .xferData _ tag xfer offset bytes => decide (tag < 256) && decide (xfer < 256) && decide (offset < 2 ^ 32) && decide (bytes.length ≤ 1024)
  | .xferCommit _ tag xfer => decide (tag < 256) && decide (xfer < 256)
  | .xferAbort _ tag xfer => decide (tag < 256) && decide (xfer < 256)
  | .persistProgramDone _ => true
  | .snapshotLapse _ => true
  | .transferIdleTimeout _ => true
  | .imageSlotEraseDone _ => true
  | .imageVerifyDone _ => true
  | .eventSwap _ value => decide (value < 2 ^ 128)
  | .lmEnable _ value => decide (value < 2 ^ 128)
  | .lmSample => true
  | .lmSwap _ value => decide (value < 2 ^ 128)
  | .lifetimeHourlyWrite => true
  | .orderlyLinkDown _ => true
  | .resetPulseIgnored => true
  | .catastrophicTemperatureAlarm _ => true
  | .correctableLinkError _ _ => true
  | .encodeDone _ error => decide (error.length ≤ 4096)
  | .dynamicAddressAssignment _ => true

end Sys2Proof
end

