-- ==== Sys2Proof/Decode.lean ====
section
/-! DEFINITION. The decoder over the rows of spec/opcode_table.json that give bits. The block takes
commands and not words: no row of the table gives a bit, so no word spells a command. -/

namespace Sys2Proof

/-- The command that a word spells by the table's bits: none, since no row gives any. (DESIGN CHOICE, log entry 2.) -/
def decodeTableWord (_nbits _w : Nat) : Option Instr := none

end Sys2Proof
end

