-- ==== Sys2Proof/Config.lean ====
section
/-! DEFINITION. What an implementation fixes and what the manual leaves open. Every constant below is
opaque: nothing in Lean can evaluate it or prove a value of it, so a claim holds whatever it is. -/

namespace Sys2Proof.Config

/-- The stream of free values: the n-th value the manual leaves open. The state's counter `fresh`
says which is used next (log entry 1). -/
opaque freeNat : Nat → Nat

/-- Free values in bulk: the value at place i of draw d, for an operation that leaves many values open at once
(NaN patterns, orders of summation, deviations within a stated bound; log entry 1). -/
opaque freeAt : Nat → Nat → Nat

/-- The error that the n-th microsecond leaves in a frame's memories: none, or a frame, a memory (0 tray single-bit, 1 tray, 2
accumulator, 3 VU register, 4 sheet buffer) and a place in it (R215 to R217; DESIGN CHOICE, log entry 91). -/
opaque frameUpset : Nat → Option (Nat × Nat × Nat)

/-- The product-table word that a coded RUN of draw n finds uncorrectable: none, or its group, row and entry (R217; DESIGN CHOICE,
log entry 91). -/
opaque tableUpset : Nat → Option (Nat × Nat × Nat)

/-- Factory fuse DEVICE_ID (R447, Table 13-1): unique to each device. -/
opaque deviceId : Nat

/-- The Device Serial Number of configuration space, which the manual does not give (Table 9-2). (DESIGN CHOICE, log entry 76.) -/
opaque serialNumber : Nat

/-- Factory fuse SILICON_REV (R447). -/
opaque siliconRev : Nat

/-- Factory fuse DEVICE_HSS_PUB (R447), 60 bytes. -/
opaque deviceHssPub : List Byte

/-- Factory fuse AUTHORITY_HSS_PUB (R447), 60 bytes. -/
opaque authorityHssPub : List Byte

/-- The vendor identifier that PCI-SIG has assigned to Peraedon (R541). -/
opaque vendorId : Nat

/-- The vendor's JEP106 code in IDCODE (R563). -/
opaque jep106 : Nat

/-- Whether an HSS signature over a digest verifies under a public key (R452 check 2, R486). (DESIGN CHOICE, log entry 74.) -/
opaque hssVerify : List Byte → List Byte → List Byte → Bool

/-- The device's HSS signature by lower tree, leaf index and message (R456, R457). (DESIGN CHOICE, log entry 74.) -/
opaque hssSign : Nat → Nat → List Byte → List Byte

/-- FIPS 203 check of an ML-KEM-1024 encapsulation key (R465). -/
opaque mlkemKeyOk : List Byte → Bool

/-- Encapsulation to a key with the n-th draw of entropy: ciphertext (R465). -/
opaque mlkemCiphertext : List Byte → Nat → List Byte

/-- The shared secret of that encapsulation (R465). (DESIGN CHOICE, log entry 74.) -/
opaque mlkemSecret : List Byte → Nat → List Byte

/-- The HSS public key of the leaf of a certificate chain, as X.509 and RFC 9708 encode it; none where there is no chain (R466). -/
opaque chainLeafKey : List Byte → Option (List Byte)

/-- The SPDM key schedule: the session key number k that a shared secret and a transcript give (R465). -/
opaque sessionKey : List Byte → Nat → List Byte

/-- Opens an AES-256-GCM sealed message under a key and a sequence number; none when the MAC fails
(R473, Secured Messages using SPDM). -/
opaque openSealed : List Byte → Nat → List Byte → Option (List Byte)

/-- Whether the FINISH verification data matches the session's transcript (R463, SPDM 1.3). -/
opaque finishOk : List Byte → List Byte → Bool

/-- A fresh 32-byte challenge of the hardware entropy source (R486). -/
opaque entropy : Nat → List Byte

/-- The promotion threshold that an ageing policy table gives; its layout is not in the manual (R62).
(DESIGN CHOICE, log entry 75.) -/
opaque agerPromote : List Nat → Nat

/-- The demotion threshold of an ageing policy table (R62). (DESIGN CHOICE, log entry 75.) -/
opaque agerDemote : List Nat → Nat

/-- The extents an ageing policy asks a pass to park beyond the free reserve (R62). (DESIGN CHOICE, log entry 75.) -/
opaque agerParks : List Nat → Nat → Bool

/-- The read-retry offsets of a flash policy table; its layout is not in the manual (R412, R422). -/
opaque flashRetryOffsets : List Nat → List Nat

/-- The read limit per block of a flash policy table; its layout is not in the manual (R422). -/
opaque flashReadLimit : List Nat → Nat

/-- The rated erase count of a flash policy table (R422). -/
opaque flashRatedErases : List Nat → Nat

/-- The retention age in days that a flash policy table gives for a mean erase count (R419, R422). -/
opaque flashRetentionDays : List Nat → Nat → Nat

/-- The CONTEXT byte of the n-th OD response, which the manual does not give (Table 15-2). (DESIGN CHOICE, log entry 127.) -/
opaque odContext : Nat → Nat

/-- The content of the Command Effects Log, which the manual does not list (R339). (DESIGN CHOICE, log entry 76.) -/
opaque commandEffectsLog : List Byte

/-- The SPD bytes of a DIMM, which the board supplies (Table 10-9). (DESIGN CHOICE, log entry 76.) -/
opaque spd : Nat → Nat → List Byte

/-- The response a private JTAG or debug access gives; the manual does not state it (R486). -/
opaque debugResponse : Nat → Nat

/-- The link partner's and the standards' fixed answers that the manual names but does not list, such
as SPDM capability flags (R463) and IDE capability words (R470), by topic. (DESIGN CHOICE, log entry 76.) -/
opaque standardAnswer : Nat → List Byte

end Sys2Proof.Config
end

