-- ==== Sys2Proof/Machine/Bits.lean ====
section
/-! DEFINITION. Bit fields, bytes, sparse maps and the CRCs of the manual (R1, R141, R566). -/

namespace Sys2Proof.Machine

/-- Bits [hi:lo] of a number (R1). -/
def field (w hi lo : Nat) : Nat := (w / 2 ^ lo) % 2 ^ (hi + 1 - lo)

/-- Bit i of a number. -/
def bitAt (w i : Nat) : Bool := (w / 2 ^ i) % 2 == 1

/-- A value placed at bit lo, cut to width bits. -/
def put (v width lo : Nat) : Nat := (v % 2 ^ width) * 2 ^ lo

/-- 1 for true. -/
def ofBool (b : Bool) : Nat := if b then 1 else 0

/-- w with bits [hi:lo] replaced by v. -/
def setField (w hi lo v : Nat) : Nat := w - field w hi lo * 2 ^ lo + put v (hi + 1 - lo) lo

/-- The n low bytes of a number, least significant first (R1). -/
def toBytes : Nat → Nat → List Byte
  | 0, _ => []
  | n + 1, v => BitVec.ofNat 8 v :: toBytes n (v / 256)

/-- The number that bytes spell, least significant first (R1). -/
def ofBytes : List Byte → Nat
  | [] => 0
  | b :: bs => b.toNat + 256 * ofBytes bs

/-- n zero bytes. -/
def zeros (n : Nat) : List Byte := List.replicate n 0

/-- The quotient rounded up. -/
def ceilDiv (a b : Nat) : Nat := (a + b - 1) / b

namespace MapOps

/-- The value of a key. -/
def get? {α : Type} (k : Nat) : Map α → Option α
  | [] => none
  | (j, v) :: m => if j == k then some v else get? k m

/-- The map with the key given this value. -/
def insert {α : Type} (k : Nat) (v : α) : Map α → Map α
  | [] => [(k, v)]
  | (j, u) :: m => if k < j then (k, v) :: (j, u) :: m
                   else if j == k then (k, v) :: m else (j, u) :: insert k v m

/-- The map without the key. -/
def erase {α : Type} (k : Nat) : Map α → Map α
  | [] => []
  | (j, u) :: m => if j == k then erase k m else (j, u) :: erase k m

/-- The value of a key, or a default. -/
def getD {α : Type} (k : Nat) (d : α) (m : Map α) : α := (get? k m).getD d

/-- The map with the key's value changed, from the default where it is absent. -/
def modify {α : Type} (k : Nat) (d : α) (f : α → α) (m : Map α) : Map α := insert k (f (getD k d m)) m

/-- The map with the key given this value, or without it where the value is the default. -/
def put {α : Type} [BEq α] (k : Nat) (d v : α) (m : Map α) : Map α :=
  if v == d then erase k m else insert k v m

/-- True when the keys rise strictly. -/
def sorted {α : Type} : Map α → Bool
  | [] => true
  | (_, _) :: [] => true
  | (j, _) :: (k, v) :: m => decide (j < k) && sorted ((k, v) :: m)

/-- The pairs whose key lies in [lo, hi). -/
def range {α : Type} (lo hi : Nat) (m : Map α) : Map α := m.filter fun p => lo ≤ p.1 && p.1 < hi

end MapOps

/-- A rising list of numbers with one more member. -/
def setInsert (k : Nat) : List Nat → List Nat
  | [] => [k]
  | j :: m => if k < j then k :: j :: m else if j == k then j :: m else j :: setInsert k m

/-- A list of numbers without a member. -/
def setErase (k : Nat) (l : List Nat) : List Nat := l.filter (· != k)

/-- The numbers lo to lo + n - 1. -/
def span (lo n : Nat) : List Nat := (List.range n).map (lo + ·)

/-- Eight steps of a reflected CRC with polynomial p. -/
def crcByte (p : Nat) : Nat → Nat → Nat
  | 0, c => c
  | n + 1, c => crcByte p n (if c % 2 == 1 then (c / 2) ^^^ p else c / 2)

/-- A reflected CRC of 32 bits over bytes in ascending order (R566). -/
def crcReflected (p : Nat) (bs : List Byte) : Nat :=
  (bs.foldl (fun c b => crcByte p 8 (c ^^^ b.toNat)) 0xFFFFFFFF) ^^^ 0xFFFFFFFF

/-- The CRC-32 of R566. -/
def crc32 (bs : List Byte) : Nat := crcReflected 0xEDB88320 bs

/-- The CRC-32C of R566. -/
def crc32c (bs : List Byte) : Nat := crcReflected 0x82F63B78 bs

/-- Steps of the CRC-16 of R141. -/
def crc16Step : Nat → Nat → Nat
  | 0, c => c
  | n + 1, c => crc16Step n (if c ≥ 0x8000 then ((c * 2) % 0x10000) ^^^ 0x1021 else c * 2)

/-- The CRC-16 of R141: polynomial 0x1021, initial 0xFFFF, no reflection, no final exclusive-or. -/
def crc16 (bs : List Byte) : Nat :=
  bs.foldl (fun c b => crc16Step 8 (c ^^^ (b.toNat * 256))) 0xFFFF

/-- 2 to the 64th, the modulus of counters and addresses. -/
def two64 : Nat := 2 ^ 64

/-- A signed value in n-bit two's complement. -/
def ofInt (n : Nat) (x : Int) : Nat := (x % (2 ^ n : Nat)).toNat

/-- The signed value of n-bit two's complement. -/
def toInt (n w : Nat) : Int := if w % 2 ^ n < 2 ^ (n - 1) then (w % 2 ^ n : Nat) else (w % 2 ^ n : Nat) - (2 ^ n : Nat)

/-- Two byte strings exclusive-ored byte by byte; what the longer has beyond the shorter stays. -/
def xorBytes : List Byte → List Byte → List Byte
  | [], _ => []
  | a, [] => a
  | a :: as, b :: bs => (a ^^^ b) :: xorBytes as bs

/-- The exclusive-or of byte strings of n bytes each. -/
def xorAll (n : Nat) (l : List (List Byte)) : List Byte := l.foldr xorBytes (zeros n)

/-- The n elements from place i, padded with d. -/
def slice {α : Type} (l : List α) (i n : Nat) (d : α) : List α :=
  let p := (l.drop i).take n
  p ++ List.replicate (n - p.length) d

/-- The list with the elements from place i replaced by l', within its length. -/
def overlay {α : Type} (l : List α) (i : Nat) (l' : List α) : List α :=
  l.take i ++ (l'.take (l.length - i)) ++ l.drop (i + l'.length)

end Sys2Proof.Machine
end

