-- ==== Sys2Proof/Machine/Fp.lean ====
section
/-! DEFINITION. The numbers of the tensor engines and vector units: exact values, the element formats of Table 5-4,
rounding and conversion (R190 to R198), and the functions of Table 5-7 with the accuracy it states. -/

namespace Sys2Proof.Machine

open Sys2Proof

/-! ### Exact values -/

/-- A value: NaN, an infinity, or ± m × 2^e. -/
inductive Val where
  | nan
  | inf (neg : Bool)
  | fin (neg : Bool) (m : Nat) (e : Int)
  deriving DecidableEq, Repr

/-- Minus zero, which adds nothing. -/
def Val.none_ : Val := .fin true 0 0

/-- The product, exactly (R203, R204). -/
def Val.mul : Val → Val → Val
  | .nan, _ => .nan
  | _, .nan => .nan
  | .inf a, .inf b => .inf (a != b)
  | .inf a, .fin b m _ => if m == 0 then .nan else .inf (a != b)
  | .fin a m _, .inf b => if m == 0 then .nan else .inf (a != b)
  | .fin a m e, .fin b n f => .fin (a != b) (m * n) (e + f)

/-- m × 2^k for a signed magnitude. -/
def signedAt (neg : Bool) (m : Nat) (k : Nat) : Int := if neg then - ((m * 2 ^ k : Nat) : Int) else ((m * 2 ^ k : Nat) : Int)

/-- The sum, exactly (R203, R204). -/
def Val.add : Val → Val → Val
  | .nan, _ => .nan
  | _, .nan => .nan
  | .inf a, .inf b => if a == b then .inf a else .nan
  | .inf a, .fin _ _ _ => .inf a
  | .fin _ _ _, .inf b => .inf b
  | .fin a m e, .fin b n f =>
    let g := min e f
    let x := signedAt a m (e - g).toNat + signedAt b n (f - g).toNat
    if x == 0 then .fin (a && b) 0 g else .fin (decide (x < 0)) x.natAbs g

/-- The exact sum of a list. -/
def sumVals (l : List Val) : Val := l.foldl Val.add Val.none_

/-- The value negated. -/
def Val.neg : Val → Val
  | .nan => .nan
  | .inf a => .inf (! a)
  | .fin a m e => .fin (! a) m e

/-- a < b; false with a NaN. -/
def Val.lt : Val → Val → Bool
  | .nan, _ => false
  | _, .nan => false
  | .inf a, .inf b => a && ! b
  | .inf a, .fin _ _ _ => a
  | .fin _ _ _, .inf b => ! b
  | .fin a m e, .fin b n f =>
    let g := min e f
    decide (signedAt a m (e - g).toNat < signedAt b n (f - g).toNat)

/-- The value times 2^k. -/
def Val.scale (k : Int) : Val → Val
  | .fin a m e => .fin a m (e + k)
  | v => v

/-- True of a NaN. -/
def Val.isNan : Val → Bool
  | .nan => true
  | _ => false

/-! ### Formats (Tables 5-3 and 5-4) -/

/-- A float format: E, M and BIAS, and its specials: 0 none, 1 NaN only, 2 Inf and NaN. -/
structure FloatFmt where
  e : Nat
  m : Nat
  bias : Nat
  specials : Nat
  deriving DecidableEq, Repr

/-- How an element is read. -/
inductive Elem where
  | float (f : FloatFmt)
  /-- An integer of this width, times 2^-frac. -/
  | int (width frac : Nat)
  /-- A code into a code-point set: true for TF8. -/
  | table (wide : Bool) (set : Nat)
  deriving DecidableEq, Repr

/-- FP32. -/
def fp32 : FloatFmt := ⟨8, 23, 127, 2⟩
/-- BF16. -/
def bf16 : FloatFmt := ⟨8, 7, 127, 2⟩

/-- True of a block-scaled code: bit 4 (R189). -/
def isMx (code : Nat) : Bool := bitAt code 4

/-- The element format of a code of Table 5-3. -/
def elemOf (code : Nat) : Option Elem :=
  if code == 0x01 || code == 0x11 then some (.float ⟨2, 1, 1, 0⟩)
  else if code == 0x02 then some (.int 4 0)
  else if code == 0x03 || code == 0x13 then some (.float ⟨4, 3, 7, 1⟩)
  else if code == 0x04 || code == 0x14 then some (.float ⟨5, 2, 15, 2⟩)
  else if code == 0x05 then some (.int 8 0)
  else if code == 0x15 then some (.int 8 6)
  else if code == 0x06 then some (.float bf16)
  else if code == 0x07 then some (.float ⟨5, 10, 15, 2⟩)
  else if code == 0x08 then some (.float fp32)
  else if (0x20 ≤ code && code ≤ 0x27) || (0x30 ≤ code && code ≤ 0x37) then some (.table false (code % 8))
  else if (0x28 ≤ code && code ≤ 0x2B) || (0x38 ≤ code && code ≤ 0x3B) then some (.table true (code % 4))
  else none

/-- The width of an element in bits. -/
def Elem.bits : Elem → Nat
  | .float f => 1 + f.e + f.m
  | .int w _ => w
  | .table wide _ => if wide then 8 else 4

/-- The value of a float pattern (R190). -/
def unpackFloat (f : FloatFmt) (bits : Nat) : Val :=
  let neg := bitAt bits (f.e + f.m)
  let e := field bits (f.e + f.m - 1) f.m
  let m := bits % 2 ^ f.m
  let top := 2 ^ f.e - 1
  if f.specials == 1 && e == top && m == 2 ^ f.m - 1 then .nan
  else if f.specials == 2 && e == top then (if m == 0 then .inf neg else .nan)
  else if e == 0 then .fin neg m (1 - (f.bias : Int) - f.m)
  else .fin neg (2 ^ f.m + m) ((e : Int) - f.bias - f.m)

/-- The code points that the format table's image gives: set rows as numbers. -/
structure CodePoints where
  tf4 : List Nat
  tf8 : List Nat
  deriving DecidableEq, Repr

/-- The BF16 pattern of code c of a set (R195). -/
def CodePoints.at_ (cp : CodePoints) (wide : Bool) (set c : Nat) : Nat :=
  (if wide then cp.tf8.getD set 0 else cp.tf4.getD set 0) / 2 ^ (16 * c) % 65536

/-- The value of an element (R190, R191). -/
def elemVal (cp : CodePoints) (el : Elem) (bits : Nat) : Val :=
  match el with
  | .float f => unpackFloat f bits
  | .int w frac => let x := toInt w bits; .fin (decide (x < 0)) x.natAbs (- (frac : Int))
  | .table wide set => unpackFloat bf16 (cp.at_ wide set bits)

/-- EMAX of Table 5-4 (R198). -/
def emaxOf (cp : CodePoints) (el : Elem) : Int :=
  match el with
  | .float f => if f.specials == 1 then 8 else if f.e == 2 then 2 else 15
  | .int _ _ => 0
  | .table wide set =>
    (List.range (if wide then 256 else 16)).foldl (fun (a : Int × Bool) c =>
      match unpackFloat bf16 (cp.at_ wide set c) with
      | .fin _ m e => if m == 0 then a else
          let x := (m.log2 : Int) + e
          if a.2 then (max a.1 x, true) else (x, true)
      | _ => a) (0, false) |>.1

/-! ### Rounding (R193, R194) -/

/-- m × 2^k rounded to an integer: to nearest with ties to even, or toward zero. (DEDUCED, log entry 82.) -/
def roundAt (near : Bool) (m : Nat) (k : Int) : Nat :=
  if 0 ≤ k then m * 2 ^ k.toNat
  else
    let d := 2 ^ (-k).toNat
    let q := m / d
    let r := m % d
    if near && (d < 2 * r || (2 * r == d && q % 2 == 1)) then q + 1 else q

/-- The magnitude pattern of m × 2^e in a float format, with no bound above. -/
def magPattern (f : FloatFmt) (near : Bool) (m : Nat) (e : Int) : Nat :=
  if m == 0 then 0
  else
    let q := max ((m.log2 : Int) + e) (1 - (f.bias : Int)) - f.m
    ((q + f.m + f.bias - 1).toNat) * 2 ^ f.m + roundAt near m (e - q)

/-- The pattern of the largest finite magnitude. -/
def maxPattern (f : FloatFmt) : Nat :=
  if f.specials == 2 then (2 ^ f.e - 1) * 2 ^ f.m - 1
  else if f.specials == 1 then 2 ^ (f.e + f.m) - 2 else 2 ^ (f.e + f.m) - 1

/-- A NaN of a float format: its sign and its mantissa are free. -/
def nanPattern (f : FloatFmt) (free : Nat) : Nat :=
  put free 1 (f.e + f.m) +
    (if f.specials == 1 then 2 ^ (f.e + f.m) - 1
     else (2 ^ f.e - 1) * 2 ^ f.m + (if f.m == 0 then 0 else free / 2 % (2 ^ f.m - 1) + 1))

/-- The pattern on overflow (R194), and of an infinite value that saturates. (DEDUCED, log entry 82.) -/
def overPattern (f : FloatFmt) (sat : Bool) : Nat :=
  if sat || f.specials == 0 then maxPattern f
  else if f.specials == 2 then (2 ^ f.e - 1) * 2 ^ f.m else 2 ^ (f.e + f.m) - 1

/-- A value rounded into a float format. (DEDUCED, log entry 82.) -/
def packFloat (f : FloatFmt) (near sat : Bool) (free : Nat) (v : Val) : Nat :=
  match v with
  | .nan => if f.specials == 0 then 0 else nanPattern f free
  | .inf neg => put (ofBool neg) 1 (f.e + f.m) + overPattern f sat
  | .fin neg m e =>
    let p := magPattern f near m e
    put (ofBool neg) 1 (f.e + f.m) + (if maxPattern f < p then overPattern f sat else p)

/-- A subnormal FP32 pattern becomes the zero of its sign (R193). -/
def flush32 (p : Nat) : Nat := if field p 30 23 == 0 then field p 31 31 * 2 ^ 31 else p

/-- A value rounded to FP32, to nearest, with subnormal results made zero (R193, R203). -/
def toF32 (free : Nat) (v : Val) : Nat := flush32 (packFloat fp32 true false free v)

/-- The value of an FP32 pattern. -/
def ofF32 (p : Nat) : Val := unpackFloat fp32 p

/-- A value rounded into an integer format, always saturating; NaN gives 0 (R194). -/
def packInt (w frac : Nat) (near : Bool) (v : Val) : Nat :=
  let top := 2 ^ (w - 1)
  match v with
  | .nan => 0
  | .inf neg => if neg then top else top - 1
  | .fin neg m e =>
    let q := roundAt near m (e + frac)
    if neg then ofInt w (- ((min q top : Nat) : Int)) else min q (top - 1)

/-- |a - b| of two values, an infinity standing far outside every code point. -/
def distance (a b : Val) : Val :=
  let fold := fun (v : Val) => match v with | .inf n => Val.fin n 1 400 | w => w
  match Val.add (fold a) (Val.neg (fold b)) with
  | .fin _ m e => .fin false m e
  | v => v

/-- The code of the nearest code point, the lower on a tie; NaN gives +0's nearest (R194). -/
def packTable (cp : CodePoints) (wide : Bool) (set : Nat) (v0 : Val) : Nat :=
  let v := if v0.isNan then Val.fin false 0 0 else v0
  ((List.range (if wide then 256 else 16)).foldl (fun (a : Nat × Option Val) c =>
    let d := distance v (unpackFloat bf16 (cp.at_ wide set c))
    match a.2 with
    | none => (c, some d)
    | some b => if d.lt b then (c, some d) else a) (0, none)).1

/-- A conversion into an element format under a format-table row's ROUND and SAT (R194). -/
def packElem (cp : CodePoints) (el : Elem) (near sat : Bool) (free : Nat) (v : Val) : Nat :=
  match el with
  | .float f => if f == fp32 then flush32 (packFloat f near sat free v) else packFloat f near sat free v
  | .int w frac => packInt w frac near v
  | .table wide set => packTable cp wide set v

/-- A conversion of a block to a block-scaled format: the scale byte and the elements (R198). -/
def packBlock (cp : CodePoints) (el : Elem) (near : Bool) (free : Nat) (vs : List Val) : Nat × List Nat :=
  if vs.any Val.isNan then (255, vs.map fun _ => 0)
  else
    let top := vs.foldl (fun (a : Option Int) v => match v with
      | .fin _ m e => if m == 0 then a else
          let x := (m.log2 : Int) + e
          some (match a with | none => x | some y => max x y)
      | .inf _ => some 400
      | .nan => a) none
    match top with
    | none => (0, vs.map fun v => packElem cp el near true free (v.scale 127))
    | some t =>
      let x := min 254 (max 0 (t - emaxOf cp el + 127))
      (x.toNat, vs.map fun v => packElem cp el near true free (v.scale (127 - x)))

/-! ### Functions to a stated accuracy (Table 5-7) -/

/-- A magnitude between m × 2^e and (m + 1) × 2^e, exactly the former where `exact`. -/
structure Near where
  m : Nat
  e : Int
  exact : Bool
  deriving DecidableEq, Repr

/-- Fraction bits of the fixed-point work. -/
def fixBits : Nat := 400

/-- 1 in fixed point. -/
def fixOne : Nat := 2 ^ fixBits

/-- z + z³/3 + z⁵/5 + … in fixed point: n terms, with z² and the next power. -/
def atanhTerms : Nat → Nat → Nat → Nat → Nat → Nat
  | 0, _, _, _, acc => acc
  | n + 1, z2, pow, k, acc => atanhTerms n z2 (pow * z2 / fixOne) (k + 2) (acc + pow / k)

/-- z - z³/3 + z⁵/5 - … in fixed point, for z = 1 / q. -/
def atanInv (q : Nat) : Nat → Nat → Nat → Int → Int
  | 0, _, _, acc => acc
  | n + 1, pow, k, acc => atanInv q n (pow / (q * q)) (k + 2) (acc + (if k % 4 == 1 then ((pow / k : Nat) : Int) else - ((pow / k : Nat) : Int)))

/-- ln 2. -/
def fixLn2 : Nat := 2 * atanhTerms 140 (fixOne / 9) (fixOne / 3) 1 0

/-- π. -/
def fixPi : Nat := (16 * atanInv 5 100 (fixOne / 5) 1 0 - 4 * atanInv 239 40 (fixOne / 239) 1 0).toNat

/-- 1 + y + y²/2 + … in fixed point: n terms from the k-th. -/
def expTerms : Nat → Nat → Nat → Nat → Nat → Nat
  | 0, _, _, _, acc => acc
  | n + 1, k, y, term, acc => expTerms n (k + 1) y (term * y / fixOne / k) (acc + term)

/-- e^y for 0 ≤ y < 1, both in fixed point. -/
def fixExp (y : Nat) : Nat := expTerms 90 1 y fixOne 0

/-- Terms of sine (from k = 1) or cosine (from k = 0), alternating. -/
def trigTerms : Nat → Nat → Int → Int → Int → Int
  | 0, _, _, _, acc => acc
  | n + 1, k, y2, term, acc =>
    trigTerms n (k + 2) y2 (- (term * y2 / (fixOne : Nat) / (((k + 1) * (k + 2) : Nat) : Int))) (acc + term)

/-- A dyadic value in fixed point; below the grid it is cut. -/
def fixOf (neg : Bool) (m : Nat) (e : Int) : Int := signedAt neg (roundAt false m (e + fixBits)) 0

/-- 2^(n + f) with f the fraction in fixed point. -/
def nearPow (n : Int) (f : Nat) : Near := ⟨fixExp (f * fixLn2 / fixOne), n - fixBits, f == 0⟩

/-- 2^y for y in fixed point. -/
def nearExp2 (y : Int) : Near := nearPow (y / (fixOne : Nat)) (y % (fixOne : Nat)).toNat

/-- e^y for y in fixed point. -/
def nearExp (y : Int) : Near :=
  if y == 0 then ⟨fixOne, - (fixBits : Int), true⟩
  else
    let n := y / (fixLn2 : Nat)
    ⟨fixExp (y - n * (fixLn2 : Nat)).toNat, n - fixBits, false⟩

/-- 1 / (m × 2^e), m not 0. (DESIGN CHOICE, log entry 28.) -/
def nearRcp (m : Nat) (e : Int) : Near :=
  let k := m.log2 + 80
  ⟨2 ^ k / m, - e - k, 2 ^ k % m == 0⟩

/-- √(m × 2^e). -/
def nearSqrt (m : Nat) (e : Int) : Near :=
  let m1 := if e % 2 == 0 then m else 2 * m
  let e1 := if e % 2 == 0 then e else e - 1
  let r := Nat.sqrt (m1 * 2 ^ 160)
  ⟨r, e1 / 2 - 80, r * r == m1 * 2 ^ 160⟩

/-- 1 / √(m × 2^e), m not 0. -/
def nearRsqrt (m : Nat) (e : Int) : Near :=
  let m1 := if e % 2 == 0 then m else 2 * m
  let e1 := if e % 2 == 0 then e else e - 1
  let k := m1.log2 / 2 + 90
  let r := Nat.sqrt (2 ^ (2 * k) / m1)
  ⟨r, - (e1 / 2) - k, r * r * m1 == 2 ^ (2 * k)⟩

/-- log2 (m × 2^e), m not 0, with its sign. (DESIGN CHOICE, log entry 28.) -/
def nearLog2 (m : Nat) (e : Int) : Bool × Near :=
  let x := roundAt false m ((fixBits : Int) - m.log2)
  let z := (x - fixOne) * fixOne / (x + fixOne)
  let l := 2 * atanhTerms 140 (z * z / fixOne) z 1 0 * fixOne / fixLn2
  let y := ((m.log2 : Int) + e) * (fixOne : Nat) + l
  (decide (y < 0), ⟨y.natAbs, - (fixBits : Int), z == 0⟩)

/-- tanh of a magnitude. -/
def nearTanh (m : Nat) (e : Int) : Near :=
  let y := min (fixOf false m e) (64 * (fixOne : Nat))
  let ex := nearExp (2 * y)
  let v := roundAt false ex.m (ex.e + fixBits)
  ⟨(v - fixOne) * fixOne / (v + fixOne), - (fixBits : Int), y == 0⟩

/-- 1 / (1 + e^-a). -/
def nearSigmoid (neg : Bool) (m : Nat) (e : Int) : Near :=
  let y := min (fixOf false m e) (128 * (fixOne : Nat))
  let ex := nearExp (- y)
  let v := roundAt false ex.m (ex.e + fixBits)
  ⟨(if neg then v else fixOne) * fixOne / (fixOne + v), - (fixBits : Int), y == 0⟩

/-- A magnitude pattern within k ULP of a value: which one is free. A result below the normal range becomes 0. -/
def withinUlp (k : Nat) (v : Near) (free : Nat) : Nat :=
  let lo := magPattern fp32 false v.m v.e
  let q := max ((v.m.log2 : Int) + v.e) (-126) - 23
  let whole := v.exact && (v.m == 0 || decide (q ≤ v.e) || v.m % 2 ^ (q - v.e).toNat == 0)
  let p := if whole then lo + free % (2 * k + 1) - k else lo + free % (2 * k) + 1 - k
  if p < 2 ^ 23 then 0 else p

/-- A sine or cosine within 2^-21 of its value: which FP32 value is free. -/
def withinAbs (y : Int) (free : Nat) : Nat :=
  let grid : Int := ((free % (2 ^ 139 * 2 + 1) : Nat) : Int) - ((2 ^ 139 : Nat) : Int)
  let pick := fun (z : Int) => magPattern fp32 false z.natAbs (- (fixBits : Int))
  let far := y + grid * ((2 ^ (fixBits - 160) : Nat) : Int)
  let p := pick far
  let back : Int := signedAt (decide (far < 0)) (roundAt false (match ofF32 p with | .fin _ m _ => m | _ => 0)
    ((match ofF32 p with | .fin _ _ e => e | _ => 0) + fixBits)) 0
  let z := if (back - y).natAbs ≤ 2 ^ (fixBits - 21) then far else y
  flush32 (put (ofBool (decide (z < 0))) 1 31 + pick z)

/-- SIN or COS of a value (R212). -/
def trig (cosine : Bool) (neg : Bool) (m : Nat) (e : Int) (free : Nat) : Nat :=
  if (Val.fin false 1 20).lt (.fin false m e) then
    flush32 (put (free / 2 ^ 32) 1 31 + free % 2 ^ 32 % (0x3F800000 + 1))
  else
    let y := fixOf neg m e % ((2 * fixPi : Nat) : Int)
    let y2 := y * y / (fixOne : Nat)
    let v := if cosine then trigTerms 80 0 y2 (fixOne : Nat) 0 else trigTerms 80 1 y2 y 0
    withinAbs v free

/-- A whole FP32 pattern that the manual leaves open, subnormals flushed. (DESIGN CHOICE, log entry 28.) -/
def openPattern (free : Nat) : Nat := flush32 (free % 2 ^ 32)

/-- A function of one operand to its stated accuracy; a result that the manual does not state is free: the
reciprocal of 0, the root or logarithm of what has none, an infinity's image, and what FP32 cannot hold. -/
def approxOp (op : Nat) (v : Val) (free : Nat) : Nat :=
  let give := fun (neg : Bool) (k : Nat) (n : Near) =>
    let p := withinUlp k n free
    if 0x7F800000 ≤ p then openPattern free else put (ofBool neg) 1 31 + p
  match v with
  | .nan => nanPattern fp32 free
  | .inf _ => if op == 0x18 || op == 0x19 then trig (op == 0x19) false 1 30 free else openPattern free
  | .fin neg m e =>
    if op == 0x10 then (if m == 0 then openPattern free else give neg 1 (nearRcp m e))
    else if op == 0x11 then (if m == 0 || neg then openPattern free else give false 1 (nearRsqrt m e))
    else if op == 0x12 then (if m == 0 then put (ofBool neg) 1 31 else if neg then openPattern free else give false 1 (nearSqrt m e))
    else if op == 0x13 then
      (if (Val.fin false 1 8).lt (.fin false m e) then (if neg then 0 else openPattern free) else give false 2 (nearExp2 (fixOf neg m e)))
    else if op == 0x14 then
      (if (Val.fin false 1 8).lt (.fin false m e) then (if neg then 0 else openPattern free) else give false 2 (nearExp (fixOf neg m e)))
    else if op == 0x15 then (if m == 0 || neg then openPattern free else give (nearLog2 m e).1 2 (nearLog2 m e).2)
    else if op == 0x16 then give neg 4 (nearTanh m e)
    else if op == 0x17 then give false 4 (nearSigmoid neg m e)
    else trig (op == 0x19) neg m e free

/-! ### Vector operations (Table 5-7) -/

/-- The operations of Table 5-7. -/
def vecOps : List Nat :=
  [0x01, 0x02, 0x03, 0x04, 0x05, 0x06, 0x07, 0x08, 0x09, 0x0A, 0x0B, 0x10, 0x11, 0x12, 0x13, 0x14, 0x15, 0x16, 0x17, 0x18, 0x19,
   0x20, 0x21, 0x22, 0x30, 0x31, 0x32]

/-- MAX or MIN of two values' patterns; which of two equal values is free. -/
def extremum (isMax : Bool) (a b free : Nat) : Nat :=
  let x := ofF32 a
  let y := ofF32 b
  if x.isNan || y.isNan then nanPattern fp32 free
  else if x.lt y then flush32 (if isMax then b else a)
  else if y.lt x then flush32 (if isMax then a else b)
  else flush32 (if free % 2 == 0 then a else b)

/-- The result of one lane: its operands, and lane 0's operand a for IOTA. -/
def vecLane (op a b c lane a0 free : Nat) : Nat :=
  let x := ofF32 a
  let y := ofF32 b
  let z := ofF32 c
  if op == 0x01 then toF32 free (x.add y)
  else if op == 0x02 then toF32 free (x.add y.neg)
  else if op == 0x03 then toF32 free (x.mul y)
  else if op == 0x04 then toF32 free ((x.mul y).add z)
  else if op == 0x05 then extremum true a b free
  else if op == 0x06 then extremum false a b free
  else if op == 0x07 then (if x.isNan then nanPattern fp32 free else flush32 (a % 2 ^ 31))
  else if op == 0x08 then (if x.isNan then nanPattern fp32 free else flush32 (a ^^^ 2 ^ 31))
  else if op == 0x09 then (if x.isNan || y.isNan then nanPattern fp32 free else if x.lt y then 0x3F800000 else 0)
  else if op == 0x0A then (if z == .fin false 0 (-149) || z == .fin true 0 (-149) then b else a)
  else if op == 0x0B then toF32 free ((Val.fin false lane 0).add (ofF32 a0))
  else if op == 0x30 then a &&& b
  else if op == 0x31 then a ||| b
  else if op == 0x32 then a ^^^ b
  else approxOp op x free

/-- Adds values two at a time, each sum rounded, in an order that free values choose (RSUM): fuel counts sums. -/
def freeSum : Nat → (Nat → Nat) → List Nat → List Nat
  | 0, _, l => l
  | n + 1, f, l =>
    let i := f (2 * n) % l.length
    let a := l.getD i 0
    let l1 := l.eraseIdx i
    let j := f (2 * n + 1) % l1.length
    let b := l1.getD j 0
    freeSum n f (toF32 (f (2 * n)) ((ofF32 a).add (ofF32 b)) :: l1.eraseIdx j)

/-- A reduction of all lanes (RSUM, RMAX, RMIN). -/
def vecReduce (op : Nat) (lanes : List Nat) (f : Nat → Nat) : Nat :=
  if op == 0x20 then (freeSum (lanes.length - 1) f lanes).headD 0
  else match lanes with
    | [] => 0
    | a :: l => l.foldl (fun acc b => extremum (op == 0x21) acc b (f 0)) a

/-! ### Tensor products (R203, R209) -/

/-- The rounded term of one run of 32 elements, or of 16 in coded-operand mode: the exact sum of products, scaled, and
rounded once to FP32. A scale byte of 255 is NaN; 127 leaves the sum as it is. -/
def termOf (a b : List Val) (scaleA scaleB : Nat) (free : Nat) : Nat :=
  if scaleA == 255 || scaleB == 255 then nanPattern fp32 free
  else toF32 free ((sumVals (List.zipWith Val.mul a b)).scale ((scaleA : Int) + scaleB - 254))

/-- Adds terms to an accumulator value one by one, each sum rounded, in an order that free values choose (R203). -/
def accumulate : Nat → (Nat → Nat) → Nat → List Nat → Nat
  | 0, _, acc, _ => acc
  | n + 1, f, acc, l =>
    let i := f n % l.length
    accumulate n f (toF32 (f n) ((ofF32 acc).add (ofF32 (l.getD i 0)))) (l.eraseIdx i)

end Sys2Proof.Machine
end

