-- ==== Sys2Proof/Machine/Gf.lean ====
section
/-! DEFINITION. The symbol codes of Batten and Ridge, and the poison code (R380 to R383). -/

namespace Sys2Proof.Machine

/-- Product in GF(2^n) under the polynomial p (bit n set), over the low k bits of b. -/
def gfMul (n p : Nat) : Nat → Nat → Nat → Nat
  | 0, _, _ => 0
  | k + 1, a, b =>
    let a2 := if a * 2 ≥ 2 ^ n then (a * 2) ^^^ p else a * 2
    (if b % 2 == 1 then a else 0) ^^^ gfMul n p k a2 (b / 2)

/-- α^e with α = 0x02. -/
def gfPow (n p : Nat) : Nat → Nat
  | 0 => 1
  | e + 1 => gfMul n p n (gfPow n p e) 2

/-- a^(2^k - 2), the inverse when k = n. -/
def gfInvAux (n p : Nat) : Nat → Nat → Nat
  | 0, _ => 1
  | k + 1, sq => gfMul n p n sq (gfInvAux n p k (gfMul n p n sq sq))

/-- The inverse of a nonzero element. -/
def gfInv (n p a : Nat) : Nat := gfInvAux n p (n - 1) (gfMul n p n a a)

/-- S0 and S1 of a codeword: the sums of s_d and of s_d × α^d (R380, R382). -/
def syndromes (n p : Nat) (syms : List Nat) : Nat × Nat :=
  syms.zipIdx.foldl (fun a q => (a.1 ^^^ q.1, a.2 ^^^ gfMul n p n q.1 (gfPow n p q.2))) (0, 0)

/-- The two check symbols at places k and k + 1 that make both syndromes zero. -/
def checkSymbols (n p k : Nat) (syms : List Nat) : Nat × Nat :=
  let (s0, s1) := syndromes n p syms
  let ak := gfPow n p k
  let y := gfMul n p n (s1 ^^^ gfMul n p n s0 ak) (gfInv n p (ak ^^^ gfPow n p (k + 1)))
  (s0 ^^^ y, y)

/-- What a codeword shows: clean, an error of a value at a place, or neither (R381). -/
inductive Located where
  | clean
  | at_ (place value : Nat)
  | no
  deriving DecidableEq, Repr

/-- Locates the error of a codeword of k symbols. -/
def locate (n p k : Nat) (syms : List Nat) : Located :=
  let (s0, s1) := syndromes n p syms
  if s0 == 0 && s1 == 0 then .clean
  else if s0 == 0 then .no
  else match (List.range k).find? fun d => gfMul n p n s0 (gfPow n p d) == s1 with
    | some d => .at_ d s0
    | none => .no

/-- What reading a sector gives. -/
inductive SectorRead where
  | clean
  | corrected
  | poison
  | uncorrectable
  deriving DecidableEq, Repr

/-- The nibble that device d drives on beat t of a Batten burst of 64 data and 16 check bytes (R368, R380). -/
def battenNibble (burst : List Byte) (d t : Nat) : Nat :=
  let b := if d < 8 then 4 * t + d / 2 else 64 + t
  let v := (burst.getD b 0).toNat
  if d % 2 == 0 then v % 16 else v / 16

/-- The ten symbols of codeword j of a Batten burst (R380). -/
def battenCodeword (burst : List Byte) (j : Nat) : List Nat :=
  (List.range 10).map fun d => battenNibble burst d (2 * j) + 16 * battenNibble burst d (2 * j + 1)

/-- The 16 check bytes of 64 data bytes in Batten (R380). -/
def battenCheck (data : List Byte) : List Byte :=
  (List.range 8).flatMap fun j =>
    let (c8, c9) := checkSymbols 8 0x11D 8 ((battenCodeword data j).take 8)
    [BitVec.ofNat 8 (c8 % 16 + 16 * (c9 % 16)), BitVec.ofNat 8 (c8 / 16 + 16 * (c9 / 16))]

/-- The decoder of Batten over a burst (R381, R383). (DESIGN CHOICE, log entry 67.) -/
def battenRead (burst : List Byte) : SectorRead :=
  if burst == zeros 64 ++ List.replicate 16 0xAA then .poison
  else
    let ls := (List.range 8).map fun j => locate 8 0x11D 10 (battenCodeword burst j)
    if ls.all (· == .clean) then .clean
    else
      let places := ls.filterMap fun l => match l with | .at_ d _ => some d | _ => none
      if ls.contains .no then .uncorrectable
      else if places.all (· == places.headD 0) then .corrected else .uncorrectable

/-- The 32 data symbols of a Ridge sector (R382). -/
def ridgeSymbols (data : List Byte) : List Nat :=
  (List.range 32).map fun i => ofBytes ((data.drop (2 * i)).take 2)

/-- The 4 check bytes of 64 data bytes in Ridge (R382). -/
def ridgeCheck (data : List Byte) : List Byte :=
  let (c, d) := checkSymbols 16 0x1100B 32 (ridgeSymbols data)
  toBytes 2 c ++ toBytes 2 d

/-- The decoder of Ridge over a burst of 64 data and 4 check bytes, with the on-die severity report (R382, R383).
(DESIGN CHOICE, log entry 67.) -/
def ridgeRead (severe : Bool) (burst : List Byte) : SectorRead :=
  if burst == zeros 64 ++ List.replicate 4 0xAA then .poison
  else if severe then .uncorrectable
  else match locate 16 0x1100B 34 ((List.range 34).map fun i => ofBytes ((burst.drop (2 * i)).take 2)) with
    | .clean => .clean
    | .at_ _ _ => .corrected
    | .no => .uncorrectable

/-- The burst stored for 64 data bytes: in Batten, or in Ridge. -/
def burstOf (batten : Bool) (data : List Byte) : List Byte :=
  data ++ (if batten then battenCheck data else ridgeCheck data)

/-- The poison code (R383). -/
def poisonBurst (batten : Bool) : List Byte := zeros 64 ++ List.replicate (if batten then 16 else 4) 0xAA

/-- What the controller makes of a burst of either tier. -/
def readBurst (batten severe : Bool) (burst : List Byte) : SectorRead :=
  if batten then battenRead burst else ridgeRead severe burst

/-- Exclusive-ors a value into the byte at a place. -/
def flipByte (i v : Nat) (bs : List Byte) : List Byte := bs.modify i (· ^^^ BitVec.ofNat 8 v)

/-- Corrects codeword j of the data of a Batten burst (R381). -/
def battenFix (burst : List Byte) (bs : List Byte) (j : Nat) : List Byte :=
  match locate 8 0x11D 10 (battenCodeword burst j) with
  | .at_ d v =>
    if d < 8 then
      flipByte (8 * j + 4 + d / 2) (v / 16 * 16 ^ (d % 2)) (flipByte (8 * j + d / 2) (v % 16 * 16 ^ (d % 2)) bs)
    else bs
  | _ => bs

/-- The 64 data bytes that the decoder gives of a burst it takes as clean or corrected (R381, R382, R384). -/
def burstData (batten : Bool) (burst : List Byte) : List Byte :=
  let data := burst.take 64
  if batten then (List.range 8).foldl (battenFix burst) data
  else match locate 16 0x1100B 34 ((List.range 34).map fun i => ofBytes ((burst.drop (2 * i)).take 2)) with
    | .at_ i v => if i < 32 then flipByte (2 * i + 1) (v / 256) (flipByte (2 * i) (v % 256) data) else data
    | _ => data

end Sys2Proof.Machine
end

