-- ==== Sys2Proof/Machine/Cipher.lean ====
section
/-! DEFINITION. SHA-256 (FIPS 180-4) for the digests of R195 to R469, and AES-256-XTS (FIPS 197, IEEE 1619)
for the protected regions of R476. -/

namespace Sys2Proof.Machine

/-- A 32-bit word. -/
abbrev W32 := BitVec 32

/-- The first 32 bits of the fractional part of the cube root of a number, by search over 34 bits. -/
def rootBits (k : Nat) (x : Nat) : Nat → Nat → Nat
  | 0, r => r
  | n + 1, r => if (r + 2 ^ n) ^ k ≤ x * 2 ^ (32 * k) then rootBits k x n (r + 2 ^ n) else rootBits k x n r

/-- The first 64 primes. -/
def primes64 : List Nat :=
  [2, 3, 5, 7, 11, 13, 17, 19, 23, 29, 31, 37, 41, 43, 47, 53, 59, 61, 67, 71, 73, 79, 83, 89, 97, 101, 103,
   107, 109, 113, 127, 131, 137, 139, 149, 151, 157, 163, 167, 173, 179, 181, 191, 193, 197, 199, 211, 223,
   227, 229, 233, 239, 241, 251, 257, 263, 269, 271, 277, 281, 283, 293, 307, 311]

/-- SHA-256's round constants: fractional cube roots of the first 64 primes. -/
def shaK : List W32 := primes64.map fun q => BitVec.ofNat 32 (rootBits 3 q 36 0)

/-- SHA-256's initial state: fractional square roots of the first eight primes. -/
def shaInit : List W32 := (primes64.take 8).map fun q => BitVec.ofNat 32 (rootBits 2 q 38 0)

/-- The message schedule, newest word first, extended by n words. -/
def shaExtend : Nat → List W32 → List W32
  | 0, w => w
  | n + 1, w =>
    let a := w.getD 14 0
    let b := w.getD 1 0
    let s0 := a.rotateRight 7 ^^^ a.rotateRight 18 ^^^ (a >>> 3)
    let s1 := b.rotateRight 17 ^^^ b.rotateRight 19 ^^^ (b >>> 10)
    shaExtend n ((w.getD 15 0 + s0 + w.getD 6 0 + s1) :: w)

/-- One round over the eight working words. -/
def shaRound (h : List W32) (kw : W32 × W32) : List W32 :=
  match h with
  | [a, b, c, d, e, f, g, q] =>
    let s1 := e.rotateRight 6 ^^^ e.rotateRight 11 ^^^ e.rotateRight 25
    let ch := (e &&& f) ^^^ ((~~~ e) &&& g)
    let t1 := q + s1 + ch + kw.1 + kw.2
    let s0 := a.rotateRight 2 ^^^ a.rotateRight 13 ^^^ a.rotateRight 22
    let mj := (a &&& b) ^^^ (a &&& c) ^^^ (b &&& c)
    [t1 + (s0 + mj), a, b, c, d + t1, e, f, g]
  | _ => h

/-- A big-endian 32-bit word of four bytes. -/
def be32 (bs : List Byte) : W32 := BitVec.ofNat 32 (ofBytes (bs.take 4).reverse)

/-- One block of 64 bytes. -/
def shaBlock (ks : List W32) (h : List W32) (bs : List Byte) : List W32 :=
  let w := (shaExtend 48 ((List.range 16).map fun i => be32 (bs.drop (4 * i))).reverse).reverse
  let r := (ks.zip w).foldl shaRound h
  (h.zip r).map fun p => p.1 + p.2

/-- The blocks of a padded message; fuel counts blocks. -/
def shaBlocks (ks : List W32) : Nat → List W32 → List Byte → List W32
  | 0, h, _ => h
  | n + 1, h, bs => shaBlocks ks n (shaBlock ks h (bs.take 64)) (bs.drop 64)

/-- SHA-256. -/
def sha256 (m : List Byte) : List Byte :=
  let z := (119 - m.length % 64) % 64
  let p := m ++ [0x80] ++ zeros z ++ (toBytes 8 (8 * m.length)).reverse
  (shaBlocks shaK (p.length / 64) shaInit p).flatMap fun w => (toBytes 4 w.toNat).reverse

/-! ### AES-256 -/

/-- Product in AES's field. -/
def aesMul (a b : Nat) : Nat := gfMul 8 0x11B 8 a b

/-- The S-box: the inverse, then the affine map of FIPS 197. -/
def sbox (a : Nat) : Nat :=
  let i := if a == 0 then 0 else gfInv 8 0x11B a
  let r (k : Nat) : Nat := (i * 2 ^ k) % 256 + i / 2 ^ (8 - k)
  (i ^^^ r 1 ^^^ r 2 ^^^ r 3 ^^^ r 4) ^^^ 0x63

/-- The S-box as a table. -/
def sboxTable : List Nat := (List.range 256).map sbox

/-- The inverse S-box as a table. -/
def invSboxTable : List Nat :=
  let t := sboxTable
  (List.range 256).map fun v => (t.findIdx? (· == v)).getD 0

/-- Four bytes exclusive-ored with four. -/
def xor4 (a b : List Nat) : List Nat := List.zipWith (· ^^^ ·) a b

/-- The key schedule of AES-256: words newest first, extended by n, the next index being i. -/
def aesExpand (sb : List Nat) : Nat → Nat → Nat → List (List Nat) → List (List Nat)
  | 0, _, _, w => w
  | n + 1, i, rc, w =>
    let t := w.headD []
    let u := if i % 8 == 0 then
        match t with
        | [a, b, c, d] => [sb.getD b 0 ^^^ rc, sb.getD c 0, sb.getD d 0, sb.getD a 0]
        | _ => t
      else if i % 8 == 4 then t.map fun x => sb.getD x 0 else t
    aesExpand sb n (i + 1) (if i % 8 == 0 then aesMul rc 2 else rc) (xor4 u (w.getD 7 []) :: w)

/-- The fifteen round keys, each 16 numbers. -/
def roundKeys (key : List Byte) : List (List Nat) :=
  let k := key.map BitVec.toNat
  let w := (aesExpand sboxTable 52 8 1 ((List.range 8).map fun i => (k.drop (4 * i)).take 4).reverse).reverse
  (List.range 15).map fun r => ((w.drop (4 * r)).take 4).flatten

/-- ShiftRows (dir 1) or its inverse (dir 3) over a state kept by columns. -/
def shiftRows (dir : Nat) (s : List Nat) : List Nat :=
  (List.range 16).map fun i => s.getD (4 * ((i / 4 + dir * (i % 4)) % 4) + i % 4) 0

/-- Columns multiplied by a circulant row of coefficients. -/
def mixColumns (c : List Nat) (s : List Nat) : List Nat :=
  (List.range 16).map fun i =>
    (List.range 4).foldl (fun a k => a ^^^ aesMul (c.getD ((k + 4 - i % 4) % 4) 0) (s.getD (4 * (i / 4) + k) 0)) 0

/-- AES-256 on one block under its round keys. -/
def aesEncrypt (rks : List (List Nat)) (b : List Byte) : List Byte :=
  let sub := fun (s : List Nat) => shiftRows 1 (s.map fun x => sboxTable.getD x 0)
  let s := (List.range 13).foldl (fun s r => xor4 (mixColumns [2, 3, 1, 1] (sub s)) (rks.getD (r + 1) []))
    (xor4 (b.map BitVec.toNat) (rks.headD []))
  (xor4 (sub s) (rks.getD 14 [])).map (BitVec.ofNat 8)

/-- The inverse of AES-256 on one block. -/
def aesDecrypt (rks : List (List Nat)) (b : List Byte) : List Byte :=
  let sub := fun (s : List Nat) => (shiftRows 3 s).map fun x => invSboxTable.getD x 0
  let s := (List.range 13).foldl (fun s r => mixColumns [14, 11, 13, 9] (xor4 (sub s) (rks.getD (13 - r) [])))
    (xor4 (b.map BitVec.toNat) (rks.getD 14 []))
  (xor4 (sub s) (rks.headD [])).map (BitVec.ofNat 8)

/-- The tweak of the next block: multiplied by α in GF(2^128), little-endian (IEEE 1619). -/
def nextTweak (t : Nat) : Nat := if t * 2 ≥ 2 ^ 128 then ((t * 2) % 2 ^ 128) ^^^ 0x87 else t * 2

/-- The blocks of a data unit under XTS. -/
def xtsBlocks (f : List Byte → List Byte) : Nat → Nat → List Byte → List Byte
  | 0, _, _ => []
  | n + 1, t, bs =>
    let tb := toBytes 16 t
    xorBytes (f (xorBytes (bs.take 16) tb)) tb ++ xtsBlocks f n (nextTweak t) (bs.drop 16)

/-- A sector enciphered (R476): data key K1, tweak key K2, tweak the sector's DPA. -/
def xtsEncipher (k1 k2 : List Byte) (dpa : Nat) (sector : List Byte) : List Byte :=
  xtsBlocks (aesEncrypt (roundKeys k1)) 4 (ofBytes (aesEncrypt (roundKeys k2) (toBytes 16 dpa))) sector

/-- A sector deciphered (R476). -/
def xtsDecipher (k1 k2 : List Byte) (dpa : Nat) (sector : List Byte) : List Byte :=
  xtsBlocks (aesDecrypt (roundKeys k1)) 4 (ofBytes (aesEncrypt (roundKeys k2) (toBytes 16 dpa))) sector

end Sys2Proof.Machine
end

