-- ==== Sys2Proof/Machine/Coding.lean ====
section
/-! DEFINITION. The coded block bit for bit (R136 to R142), every decode check of Table 4-7 that looks at the
block, and the test-strip sketch of R153. -/

namespace Sys2Proof.Machine

/-- CODE_BITS of a sheet size class (Table 4-1). -/
def codeBits (size : Nat) : Nat := if size == 0 then 8 else if size == 1 then 10 else 12

/-- Entries that a sheet size class allows (Table 4-1). -/
def classSize (size : Nat) : Nat := 2 ^ codeBits size

/-- Bytes of a vector: 8, or 16 for a wide sheet. -/
def vecBytes (wide : Bool) : Nat := if wide then 16 else 8

/-- The first n vectors of w bytes, little-endian (R137). -/
def vectors (w : Nat) : Nat → List Byte → List Nat
  | 0, _ => []
  | n + 1, bs => ofBytes (bs.take w) :: vectors w n (bs.drop w)

/-- The bytes of vectors of w bytes. -/
def unvectors (w : Nat) (vs : List Nat) : List Byte := vs.flatMap (toBytes w)

/-- The bits of tokens, first token lowest, with their number (R138). -/
def tokenBits (cb w : Nat) (entries : List Nat) (v : Nat) : Nat × Nat :=
  match entries.findIdx? (· == v) with
  | some e => (1 + 2 * e, 1 + cb)
  | none => (2 * v, 1 + 8 * w)

/-- A sub-stream: its tokens one after another, padded with 0 to a byte (R138, R139). -/
def encodeSub (cb w : Nat) (entries vs : List Nat) : List Byte :=
  let p := vs.foldl (fun a v => let t := tokenBits cb w entries v; (a.1 + t.1 * 2 ^ a.2, a.2 + t.2)) (0, 0)
  toBytes (ceilDiv p.2 8) p.1

/-- The eight coded sub-streams of 4,096 raw bytes. -/
def encodeSubs (size : Nat) (wide : Bool) (entries : List Nat) (raw : List Byte) : List (List Byte) :=
  let w := vecBytes wide
  (List.range 8).map fun k => encodeSub (codeBits size) w entries (vectors w (512 / w) (raw.drop (512 * k)))

/-- The header of Table 4-2. -/
def codedHeader (slot gen : Nat) (wide : Bool) (lens : List Nat) (crc : Nat) : List Byte :=
  toBytes 16 (1 + put slot 6 4 + put gen 10 10 + put (ofBool wide) 1 20
    + (lens.zipIdx.foldl (fun a p => a + put p.1 11 (24 + 11 * p.2)) 0) + put crc 16 112)

/-- The coded block, or none where it would be longer than 4,080 B (R142). -/
def encodeBlock (slot gen size : Nat) (wide : Bool) (entries : List Nat) (raw : List Byte) : Option (List Byte) :=
  let subs := encodeSubs size wide entries raw
  let b := codedHeader slot gen wide (subs.map List.length) (crc16 raw) ++ subs.flatten
  if b.length ≤ 4080 then some b else none

/-- Reads vectors from a sub-stream of len bits held in w; fuel counts the vectors still to come. The error
is the number of the check of Table 4-7 that fails: 6, 7, 8 or 9. -/
def decodeSub (cb vb : Nat) (entries : List Nat) (len : Nat) : Nat → Nat → Nat → List Nat → Except Nat (List Nat)
  | 0, bits, pos, acc => if len - pos > 7 || bits != 0 then .error 8 else .ok acc.reverse
  | n + 1, bits, pos, acc =>
    if pos == len then .error 9
    else if bits % 2 == 1 then
      if pos + 1 + cb > len then .error 7
      else match entries[(bits / 2) % 2 ^ cb]? with
        | none => .error 6
        | some v => decodeSub cb vb entries len n (bits / 2 ^ (1 + cb)) (pos + 1 + cb) (v :: acc)
    else if pos + 1 + 8 * vb > len then .error 7
    else decodeSub cb vb entries len n (bits / 2 ^ (1 + 8 * vb)) (pos + 1 + 8 * vb) ((bits / 2) % 2 ^ (8 * vb) :: acc)

/-- What the header and the TDE say of a coded block, before any sub-stream is read. -/
structure CodedFacts where
  version : Nat
  slot : Nat
  gen : Nat
  wide : Bool
  reserved : Nat
  lens : List Nat
  crc : Nat
  deriving DecidableEq, Repr

/-- The fields of Table 4-2. -/
def codedFacts (bs : List Byte) : CodedFacts :=
  let h := ofBytes (bs.take 16)
  { version := field h 3 0, slot := field h 9 4, gen := field h 19 10, wide := bitAt h 20,
    reserved := field h 23 21, lens := (List.range 8).map fun k => field h (24 + 11 * k + 10) (24 + 11 * k),
    crc := field h 127 112 }

/-- The bytes of each sub-stream, by the header's lengths. -/
def splitSubs : List Nat → List Byte → List (List Byte)
  | [], _ => []
  | n :: ns, bs => bs.take n :: splitSubs ns (bs.drop n)

/-- Checks 1 to 5 of Table 4-7 (R171): the number of the first that fails. `bank` gives the width, size class
and entries of the ACTIVE or RETIRING bank of the named generation. -/
def headerChecks (len slot gen : Nat) (bank : Option (Bool × Nat × List Nat)) (bs : List Byte) : Option Nat :=
  let f := codedFacts bs
  if len > 4080 then some 1
  else if f.version != 1 || f.reserved != 0 then some 2
  else if f.slot != slot || f.gen != gen then some 3
  else match bank with
    | none => some 4
    | some (wide, _, _) =>
      if wide != f.wide then some 4
      else if 16 + f.lens.foldl (· + ·) 0 != len then some 5 else none

/-- The lowest of the errors. -/
def lowestError (rs : List (Except Nat (List Nat))) : Option Nat :=
  rs.foldl (fun a r => match r, a with
    | .error e, none => some e
    | .error e, some b => some (min e b)
    | .ok _, a => a) none

/-- Decodes a coded block, or tells the lowest-numbered check that fails (R171, Table 4-7). -/
def decodeBlock (len slot gen : Nat) (bank : Option (Bool × Nat × List Nat)) (bs : List Byte) :
    Except Nat (List Byte) :=
  match headerChecks len slot gen bank bs, bank with
  | some e, _ => .error e
  | none, none => .error 4
  | none, some (wide, size, entries) =>
    let f := codedFacts bs
    let w := vecBytes wide
    let rs := (splitSubs f.lens (bs.drop 16)).map fun sb =>
      decodeSub (codeBits size) w entries (8 * sb.length) (512 / w) (ofBytes sb) 0 []
    match lowestError rs with
    | some e => .error e
    | none =>
      let raw := rs.flatMap fun r => match r with | .ok vs => unvectors w vs | .error _ => []
      if crc16 raw == f.crc then .ok raw else .error 10

/-! ### The sketch of R153 -/

/-- The counters and the top list of the sketch. -/
structure Sketch where
  counts : Map Nat
  top : List (Nat × Nat)
  deriving DecidableEq, Repr

/-- h(j, v) of R153: the low 16 bits of the CRC-32C of byte j and the vector. -/
def sketchHash (w j v : Nat) : Nat := crc32c (BitVec.ofNat 8 j :: toBytes w v) % 65536

/-- The pair of least estimate, and the largest vector among equals. -/
def worst : List (Nat × Nat) → Option (Nat × Nat)
  | [] => none
  | p :: ps => match worst ps with
    | none => some p
    | some q => if p.2 < q.2 || (p.2 == q.2 && p.1 > q.1) then some p else some q

/-- One vector of the sketch, with n the class size. -/
def Sketch.add (n w : Nat) (k : Sketch) (v : Nat) : Sketch :=
  let counts := (List.range 4).foldl (fun m j =>
    MapOps.modify (j * 65536 + sketchHash w j v) 0 (fun c => min (c + 1) 65535) m) k.counts
  let est := (List.range 4).foldl (fun a j => min a (MapOps.getD (j * 65536 + sketchHash w j v) 0 counts)) 65535
  let top :=
    if k.top.any (·.1 == v) then k.top.map fun p => if p.1 == v then (v, est) else p
    else if k.top.length < n then (v, est) :: k.top
    else match worst k.top with
      | some m => if est > m.2 then (v, est) :: k.top.filter (· != m) else k.top
      | none => k.top
  { counts, top }

/-- Inserts a winner in its order: est descending, then v ascending. -/
def rankInsert (p : Nat × Nat) : List (Nat × Nat) → List (Nat × Nat)
  | [] => [p]
  | q :: qs => if p.2 > q.2 || (p.2 == q.2 && p.1 < q.1) then p :: q :: qs else q :: rankInsert p qs

/-- The winners of a sample: pairs with est 2 or more, in order (R153, R154). -/
def winnersOf (size : Nat) (wide : Bool) (blocks : List (List Byte)) : List Nat :=
  let w := vecBytes wide
  let k := (blocks.flatMap (vectors w (4096 / w))).foldl (Sketch.add (classSize size) w) ⟨[], []⟩
  ((k.top.filter (·.2 ≥ 2)).foldl (fun a p => rankInsert p a) []).map (·.1)

end Sys2Proof.Machine
end

