-- ==== Sys2Proof/Machine/State.lean ====
section
/-! DEFINITION. The state of the OLM-9040 as plain data, its reset, and one named update per field of
`State`. Every field's text ends with the rule that names it and the value it has at reset. Sparse
tables are `Map`s in strictly rising order of key; a key that is absent has the value the text names. -/

namespace Sys2Proof.Machine

/-- What goes out of the device (log entries 78 and 80). -/
inductive Out where
  /-- An acknowledgement of a purlin frame: bridge, direction (R18). -/
  | purlinAck
  /-- A replay request for a purlin frame: bridge, direction (R18). -/
  | purlinReplay
  /-- CXL.mem read data: port, LD, tag, poison, DevLoad, and 64 bytes (R356, R359). -/
  | memData
  /-- CXL.mem Cmp of a write: port, LD, tag, DevLoad (R358). -/
  | memCmp
  /-- A completion record: port, LD, ring, CQ entry, bus address, and 32 bytes (R283). -/
  | record
  /-- An MSI-X message: port, LD, vector, address, data (R284, R341). -/
  | msix
  /-- An MSI message of PF0: port, address, data (R340). -/
  | msi
  /-- INTA of a port asserted or released: port, level (R340). -/
  | inta
  /-- A posted write to host or peer memory: port, LD, bus address, EP bit, and its bytes (R249, R345). -/
  | busWrite
  /-- A non-posted read to host or peer memory: port, LD, tag, bus address, length (R346). -/
  | busRead
  /-- An OD response: road code, OP, TAG, INDEX, SUB, STATUS, XFER_ID, OFFSET, and the whole message; in a window its data (R523). -/
  | odResponse
  /-- A completion of a register read or write on the I/O protocol: function code, status, value (R338). -/
  | ioCompletion
  /-- A configuration completion: function code, status (0 done, 1 Request Retry Status), value (R509). -/
  | cfgCompletion
  /-- A mailbox reply: function code, opcode, return code, and its payload (R339). -/
  | mailbox
  /-- A DOE object: function code, protocol, and its payload (R336). -/
  | doe
  /-- An SPDM response: place code, response code, error code, session, and its payload (R463). -/
  | spdm
  /-- An IDE_KM or CXL_IDE_KM response: place code, kind, status, and its payload (R470). -/
  | ideKm
  /-- An FM API response: road code, opcode, and its payload (R305). -/
  | fmApi
  /-- An LTR message: port, state, and the encoded latency (R343). -/
  | ltr
  /-- An error message: port, function code, and severity (0 correctable or advisory, 1 non-fatal, 2 fatal) (R360, R361). -/
  | errMessage
  /-- A request for L1: port (R344). -/
  | l1Request
  /-- The link is directed to Detect or begins training: port (R330, R509). -/
  | train
  /-- THERMTRIP_N: level (R562). -/
  | thermtrip
  /-- ALERT_N: level (R561). -/
  | alert
  /-- TDO: the value an instruction captures (R563). -/
  | tdo
  /-- The in-band interrupt of I3C, data byte 0xAE (R526 text, R523). -/
  | ibi
  deriving DecidableEq, Repr

/-- One output, with its numbers and its bytes (the model's own; log entry 78). -/
structure Emission where
  kind : Out
  args : List Nat
  data : List Byte
  deriving DecidableEq, Repr

/-- The tiers of Table 2-1. -/
inductive Tier where
  | ridge | batten | underlay | none
  deriving DecidableEq, Repr, Inhabited

/-- The tile states of Table 2-3. -/
inductive TileState where
  | resident | moving | parked | poisoned | damaged
  deriving DecidableEq, Repr, Inhabited

/-- An extent-map entry, Table 1-7. -/
structure ExtEntry where
  /-- KIND: 0 unused, 1 resident, 2 parked, 3 in transit (R26; reset 0). -/
  kind : Nat := 0
  /-- PARTITION (R26; reset 0). -/
  part : Nat := 0
  /-- MAP_GEN (R26; reset 0). -/
  mapGen : Nat := 0
  /-- LINK: directory group, EPR number, or 0xFF_FFFF_FFFF (R26, R90; reset 0). -/
  link : Nat := 0
  deriving DecidableEq, Repr, Inhabited

/-- A Tile Directory Entry, Table 2-2. TDE_CRC is computed where the entry is read out (R38). -/
structure Tde where
  /-- STATE (R39; reset resident). -/
  state : TileState := .resident
  /-- TIER (R39; reset none). -/
  tier : Tier := .none
  /-- HOME_MD (R39; reset 0). -/
  homeMd : Nat := 0
  /-- HOME_SLOT (R39; reset 0). -/
  homeSlot : Nat := 0
  /-- DEST_TIER while MOVING (R39; reset ridge, whose code is 0). -/
  destTier : Tier := .ridge
  /-- DEST_MD while MOVING (R39; reset 0). -/
  destMd : Nat := 0
  /-- DEST_SLOT while MOVING (R39; reset 0). -/
  destSlot : Nat := 0
  /-- PASS while MOVING, 1 to 4 (R39; reset 0). -/
  pass : Nat := 0
  /-- PARTITION (R39; reset 0). -/
  part : Nat := 0
  /-- SHEET_SLOT (R39; reset 0). -/
  sheetSlot : Nat := 0
  /-- SHEET_GEN (R39; reset 0). -/
  sheetGen : Nat := 0
  /-- FLIP_GEN modulo 256 (R39; reset 0). -/
  flipGen : Nat := 0
  /-- CLAIMED (R39, R315; reset false). -/
  claimed : Bool := false
  /-- EXPO_HELD (R39, R309; reset false). -/
  expoHeld : Bool := false
  /-- EXPO_ID (R39; reset 0). -/
  expoId : Nat := 0
  /-- LAST_HINT (R60; reset 0). -/
  lastHint : Nat := 0
  /-- HEAT, saturating at 255 (R61; reset 0). -/
  heat : Nat := 0
  /-- The µs of the last counted access, plus 1; 0 before the first (R61; reset 0). -/
  heatUs : Nat := 0
  /-- POISON_MAP: one bit a block (R82; reset 0). -/
  poisonMap : BitVec 16 := 0
  /-- DAMAGE_MAP: one bit a block (R83; reset 0). -/
  damageMap : BitVec 16 := 0
  /-- BLOCK_LEN by block; an absent block is 0, raw (R40; reset empty). -/
  blockLen : Map Nat := []
  deriving DecidableEq, Repr, Inhabited

/-- What a Ridge or Batten tile slot holds; a slot that is absent from the map is free (R46). -/
inductive SlotUse where
  /-- The home of a tile, by extent × 32 + tile. -/
  | home (key : Nat)
  /-- A destination or fill slot of a tile that is not yet its home (R44, R51, Table 8-5). -/
  | dest (key : Nat)
  /-- Free-pending, with the reads still forwarded to it (R46). -/
  | freePending (reads : Nat)
  /-- Out of use until the next start (R88). -/
  | outOfUse
  deriving DecidableEq, Repr

/-- Who waits for a move, park, unpark or drop, and is told how it ended. -/
inductive Waiter where
  | cmd (id : Nat)
  | session (record : Nat)
  | pfx (entry : Nat)
  | expo (id : Nat)
  | runAhead (run : Nat) (frame : Nat)
  | ager
  deriving DecidableEq, Repr

/-- How a piece of work on a tile or an extent ended. -/
inductive Ending where
  /-- In place, parked, landed or dropped. -/
  | done
  /-- Aborted (R44 step 7, R52, R73). -/
  | aborted
  /-- Refused for want of a slot, or superseded (R49, R57, R278). -/
  | refused
  /-- Refused for want of usable Underlay (R58). -/
  | noUnderlay
  /-- A claimed or exposure-held tile (R317). -/
  | held
  /-- The tile is POISONED, or the image is lost (R42, R90). -/
  | poisoned
  /-- The tile landed POISONED because it was so when its extent was parked (R404): nothing is lost by it. -/
  | restored
  /-- The memory or directory failed (R86, R87). -/
  | failed
  deriving DecidableEq, Repr

/-- A notice to a waiter: which extent or tile, and how it ended (the model's own; log entry 11). -/
structure Notice where
  who : Waiter
  subject : Nat
  ending : Ending
  deriving DecidableEq, Repr

/-- Why a move runs. -/
inductive MoveKind where
  | plain
  /-- A move staged by an exposure, which stops before its flip (R51). -/
  | staged (expo : Nat)
  /-- A re-encode (R179). -/
  | reencode
  /-- A share rewrite: every coded block becomes raw (R303). -/
  | shareRewrite
  deriving DecidableEq, Repr

/-- A request for a move that waits for a move slot or for the running move (R49, Table 2-5). -/
structure MoveReq where
  key : Nat
  tier : Tier
  md : Nat
  kind : MoveKind
  hint : Nat
  /-- The master that the work is charged to (Table 12-1). -/
  master : Nat
  /-- The slot whose tile is being evicted for this request (R57). -/
  evict : Option Nat
  waiters : List Waiter
  /-- The tiles whose eviction was asked for this request: none is asked again (R48). -/
  tried : List Nat := []
  /-- True once a move of the same hint has begun: the hint is running, and a later one does not replace it (R56). -/
  begun : Bool := false
  /-- True once the admission point has let the request go (R437). -/
  admitted : Bool := false
  deriving DecidableEq, Repr

/-- A block that a pass coded and that waits for its verify decode or has passed it (R166). -/
structure Coded where
  block : Nat
  bytes : List Byte
  deriving DecidableEq, Repr

/-- A running move, R44. -/
structure Move where
  key : Nat
  kind : MoveKind
  tier : Tier
  md : Nat
  slot : Nat
  pass : Nat
  /-- True while the flip window is open. -/
  window : Bool
  /-- The µs at which the window opened. -/
  sinceUs : Nat
  /-- The master that the work is charged to (Table 12-1). -/
  master : Nat
  /-- True once a staged move has reached a clean flip window (R51). -/
  ready : Bool
  /-- The dirty sectors, 0 to 1,023, rising. -/
  dirty : List Nat
  /-- The sectors the running pass copies; the first pass copies all. -/
  snapshot : List Nat
  /-- Slot and generation that this move codes raw blocks with (R161, R163). -/
  sheet : Option (Nat × Nat)
  coded : List Coded
  waiters : List Waiter
  /-- The governing row codes raw blocks in the destination tier: what a re-encode's raw blocks need (R161, R179). -/
  codesRaw : Bool := true
  deriving DecidableEq, Repr

/-- A running park, R71 to R73. -/
structure Park where
  ext : Nat
  pass : Nat
  window : Bool
  /-- The µs at which the window opened. -/
  sinceUs : Nat
  /-- The master that the work is charged to (Table 12-1). -/
  master : Nat
  /-- True in the commit wait (R72). -/
  committing : Bool
  epr : Nat
  dirty : List Nat
  snapshot : List Nat
  coded : List (Nat × Coded)
  waiters : List Waiter
  /-- Where the chunks of the last pass are staged: superblock, chunk number and count (R71, R73). -/
  staged : Option (Nat × Nat × Nat) := none
  /-- What the governing row gave for each tile when the park started: the sheet, and whether only an ACTIVE bank was wanting
  (R161, R162). -/
  plans : List (Nat × Option (Nat × Nat) × Bool) := []
  /-- The raw blocks, 16 × tile + block, that this park has counted for want of a sheet (R162). -/
  unsheeted : List Nat := []
  /-- The coded blocks, as tile key and block, that the image stores as zeros, being DAMAGED at the clean window (R147, R174). -/
  damaged : List (Nat × Nat) := []
  deriving DecidableEq, Repr

/-- A request on an extent that waits for its turn. -/
structure ExtReq where
  ext : Nat
  /-- 0 unpark, 1 park, 2 drop, 3 hint, 4 move. -/
  act : Nat
  /-- The partition or master that the work is charged to (Table 12-1). -/
  master : Nat
  /-- Target tier of an unpark. -/
  tier : Tier
  /-- The MD named, or none for the device's choice (R75, R278). -/
  md : Option Nat
  /-- The compute die named by a hint or run-ahead load (R75). -/
  cd : Option Nat
  hint : Nat
  /-- The tile touched first (R78). -/
  touched : Nat
  waiters : List Waiter
  /-- True once the admission point has let the request go (R437). -/
  admitted : Bool := false
  deriving DecidableEq, Repr

/-- A running unpark, R74. -/
structure Unpark where
  req : ExtReq
  epr : Nat
  /-- The tiles still PARKED, in the order of their reads (R411). -/
  remaining : List Nat
  /-- Those that a touch moved to the front (R78). -/
  urgent : List Nat := []
  /-- The image chunks that have been read so far, the header's and those of tiles that came (R411). -/
  read : List Nat := []
  /-- The tiles whose eviction was asked for its landings, with their slots: none is asked again (R48, R75). -/
  evicts : List (Nat × Nat) := []
  /-- µs at which its reads were asked for (R443). -/
  sinceUs : Nat := 0
  deriving DecidableEq, Repr

/-- Who made a host access. -/
structure HostReq where
  port : Nat
  ld : Nat
  tag : Nat
  part : Nat
  dpa : Nat
  deriving DecidableEq, Repr

/-- An access the directory MD holds: in a flip window, on a PARKED tile, or for want of a slot. -/
structure Held where
  key : Nat
  sector : Nat
  req : HostReq
  /-- None for a load; the byte enables, the bytes and Poison of a store. -/
  store : Option (BitVec 64 × List Byte × Bool)
  /-- True when it waits on a PARKED tile (R79, R80). -/
  onPark : Bool
  /-- True when it waits for a home slot (R64). -/
  onSlot : Bool
  /-- True once it has counted in the tile's HEAT (R61). -/
  counted : Bool := false
  /-- True once it has counted as a wait on a PARKED tile (Table 2-9). -/
  waited : Bool := false
  /-- True of a store that is lost: it has been acknowledged, and poisons its sector once the tile lands (R80). -/
  lost : Bool := false
  deriving DecidableEq, Repr

/-- A sector store gathered for a DAMAGED block (R43). -/
structure DamHeld where
  key : Nat
  sector : Nat
  bytes : List Byte
  enables : BitVec 64
  poison : Bool
  deriving DecidableEq, Repr

/-- A host read forwarded to its home, which has not returned (R23 step 6). -/
structure FwdRead where
  id : Nat
  req : HostReq
  key : Nat
  sector : Nat
  tier : Tier
  md : Nat
  slot : Nat
  /-- BLOCK_LEN, SHEET_SLOT and SHEET_GEN of the block when the read was forwarded. -/
  len : Nat
  sheetSlot : Nat
  sheetGen : Nat
  /-- The µs at which the read was forwarded (R443). -/
  sinceUs : Nat
  /-- True once a write has stored the block raw in this slot (R66, R67). -/
  raw : Bool := false
  deriving DecidableEq, Repr

/-- A write of the device itself that waits for a home slot (R64). -/
structure SlotWait where
  /-- The empty tile. -/
  key : Nat
  /-- Whose write it is: a step of a run (0), a command (1) or an append (2), and which one. -/
  who : List Nat
  /-- True once it has waited UnparkWait: the write is discarded. -/
  late : Bool := false
  deriving DecidableEq, Repr

/-- The tiers: extent map, Tile Directory, slots, memory and the work that moves tiles. -/
structure Tiers where
  /-- Extent-map entries by device extent number; absent is KIND 0 (R26; reset empty). -/
  exts : Map ExtEntry := []
  /-- TDEs by extent × 32 + tile, present while KIND is 1 or 3 (R39; reset empty). -/
  tdes : Map Tde := []
  /-- Directory groups in use, by MD × 2^28 + group: the extent (R26, R567; reset empty). -/
  groups : Map Nat := []
  /-- Tile slots in use, by (tier code × 8 + MD) × 2^28 + slot; absent is free (R46; reset empty). -/
  slots : Map SlotUse := []
  /-- Ridge and Batten bytes by ((tier code × 8 + MD) × 2^28 + slot) × 65,536 + offset; an unlisted byte is 0 (R36, R480; reset empty). -/
  mem : List Host.Cell := []
  /-- Sectors that hold the poison code, by memory address ÷ 64, rising (R82, R383; reset empty). -/
  poison : List Nat := []
  /-- Running moves (R44; reset none). -/
  moves : List Move := []
  /-- Moves that wait for a move slot, in arrival order (Table 2-5; reset none). -/
  moveQueue : List MoveReq := []
  /-- The latest recorded request of a tile whose move runs (R49; reset none). -/
  moveNext : List MoveReq := []
  /-- Running parks (R71; reset none). -/
  parks : List Park := []
  /-- Parks that wait (R56, R71; reset none). -/
  parkQueue : List ExtReq := []
  /-- Running unparks (R74; reset none). -/
  unparks : List Unpark := []
  /-- Unparks that wait (Table 2-5, R567; reset none). -/
  unparkQueue : List ExtReq := []
  /-- Accesses held at directory MDs, in arrival order (R44, R79, R80, R64; reset none). -/
  held : List Held := []
  /-- Stores gathered for DAMAGED blocks, in arrival order (R43; reset none). -/
  damHeld : List DamHeld := []
  /-- Writes of the device itself that wait for a home slot of an empty tile (R64; reset none). -/
  slotWaits : List SlotWait := []
  /-- Host reads forwarded to a home (R23; reset none). -/
  reads : List FwdRead := []
  /-- The number the next forwarded read takes; the model's own (reset 0). -/
  nextRead : Nat := 0
  /-- Requests on extents in transit, which take effect after the work that runs (R56; reset none). -/
  deferred : List ExtReq := []
  /-- Extents hinted COLD, which go first in the park order (R63; reset none). -/
  coldFirst : List Nat := []
  /-- Endings that waiters have not been told yet; the model's own (reset none). -/
  notices : List Notice := []
  /-- Extents that have lost a tile, the image or the entry and whose owners have not been told; the model's own (R85, R122, R126;
  reset none). -/
  lost : List Nat := []
  /-- Those of the extents in `lost` that lost data in Underlay; the model's own (R84, R90, R122; reset none). -/
  lostUnder : List Nat := []
  /-- The count k of R24 (reset 0). -/
  k : Nat := 0
  /-- The directory MDs in ascending order (R24; reset none). -/
  dirMds : List Nat := []
  /-- ExtentMapEntries N (R27; reset 0). -/
  mapEntries : Nat := 0
  /-- Trained Batten tiles of each MD (R28; reset none). -/
  battenTiles : List Nat := []
  /-- Tiles of each MD's Batten that the reserve of R27 takes (R27; reset none). -/
  battenReserve : List Nat := []
  /-- Bit m is 1 once MDm's Batten has failed (R87; reset 0). -/
  battenDown : BitVec 8 := 0
  /-- Bit m is 1 once HSm has failed (R86; reset 0). -/
  ridgeDown : BitVec 8 := 0
  /-- Extents that answer every access with poison until the next start (R386; reset none). -/
  badEntries : List Nat := []
  deriving DecidableEq, Repr

/-- An Extent Park Record, Table 11-3. EPR_CRC is computed where the record is read out. -/
structure Epr where
  /-- STATE: 1 PARKED, 2 UNPARKING (R405; reset 0). -/
  state : Nat := 1
  part : Nat := 0
  ext : Nat := 0
  seq : Nat := 0
  superblock : Nat := 0
  row : Nat := 0
  chunk : Nat := 0
  chunks : Nat := 0
  parkedAt : Nat := 0
  tileStart : List Nat := []
  /-- Slot, generation and coded blocks of each sheet (R406). -/
  sheets : List (Nat × Nat × Nat) := []
  deriving DecidableEq, Repr, Inhabited

/-- A superblock (R399, R417 to R420). -/
structure Superblock where
  /-- 0 free, 1 open, 2 closed (R403; reset 0). -/
  use : Nat := 0
  /-- The channel offline at its opening (R424; reset none). -/
  offline : Option Nat := Option.none
  /-- Chunks written (R402; reset 0). -/
  nextChunk : Nat := 0
  /-- Chunks that a VALID EPR names (R416; reset 0). -/
  valid : Nat := 0
  /-- Erases of the superblock (R417; reset 0). -/
  erases : Nat := 0
  /-- The erases of the superblock before a spare took the place of one of its blocks, by channel × 16 + unit; absent is 0: the block in
  place has been erased that much less often (R417, R421; reset empty). -/
  fresh : Map Nat := []
  /-- The blocks that an erase of it has still to erase, by channel × 16 + unit (R414; reset none). -/
  erasing : List Nat := []
  /-- Retention clock at its first program since the erase (R419; reset none). -/
  firstProgram : Option Nat := Option.none
  /-- Page reads of each of its blocks since the erase, by channel × 16 + unit (R420; reset empty). -/
  reads : Map Nat := []
  /-- True once RELOCATION_OVERDUE has been raised for it (R425; reset false). -/
  overdue : Bool := false
  deriving DecidableEq, Repr, Inhabited

/-- What a flash commit record does when it is durable (Table 11-5). -/
inductive Fcr where
  | park (ext : Nat) (number : Nat) (epr : Epr)
  | release (number : Nat)
  | relocate (number : Nat) (superblock : Nat) (row : Nat) (chunk : Nat)
  | sheet (slot : Nat) (bank : Nat) (state : Nat)
  | exposure (expo : Nat) (sheets : List (Nat × Nat × Nat))
  | superblock (n : Nat) (channel : Nat) (unit : Nat) (spare : Nat) (erases : Nat)
  | checkpoint (seq : Nat)
  deriving DecidableEq, Repr

/-- A record of the log: its SEQ, which it takes as it goes on a log page, the retention clock when it was formed, and what it does
(R407, Table 11-4). -/
structure LogRec where
  seq : Nat := 0
  clock : Nat := 0
  body : Fcr
  deriving DecidableEq, Repr

/-- A relocation whose record is not durable yet (R415). -/
structure Reloc where
  number : Nat
  superblock : Nat
  row : Nat
  chunk : Nat
  deriving DecidableEq, Repr

/-- A sheet bank as the sheet store holds it (R409). -/
structure StoredSheet where
  state : Nat
  owner : Nat
  wide : Bool
  size : Nat
  gen : Nat
  entries : List Nat
  builtAt : Nat
  sampled : Nat
  deriving DecidableEq, Repr

/-- One entry of the tables that the record log keeps, as a record leaves it: none where it is erased. -/
inductive TableEntry where
  | epr (number : Nat) (e : Option Epr)
  | erases (superblock : Nat) (n : Nat)
  | replaced (key : Nat) (spare : Nat)
  | sheet (bank : Nat) (d : Option StoredSheet)
  deriving DecidableEq, Repr

/-- The EPR table, the superblock map and the sheet store as flash holds them at a checkpoint (R410). -/
structure FlashTables where
  /-- SEQ of the last record they include (reset 0). -/
  seq : Nat := 0
  /-- The largest CLOCK among the records they include (reset 0). -/
  clock : Nat := 0
  eprs : Map Epr := []
  erases : Map Nat := []
  replaced : Map Nat := []
  store : Map StoredSheet := []
  deriving DecidableEq, Repr

/-- The Underlay tier. All of it but the work in progress survives power loss (R506). -/
structure Underlay where
  /-- UnderlayState, Table 11-6 (R425; reset 0, which is the Default of Table 11-8). -/
  state : Nat := 0
  /-- ChannelState by UCH: 0 empty, 1 in use, 2 refused, 3 offline (R428; reset 0). -/
  channels : Map Nat := []
  /-- Interface rate in MT/s (R397; reset 0). -/
  rate : Nat := 0
  /-- Chip enables (R428; reset 0). -/
  ces : Nat := 0
  /-- LUNs (R428; reset 0). -/
  luns : Nat := 0
  /-- Planes (R428; reset 0). -/
  planes : Nat := 0
  /-- Pages per block (R428; reset 0). -/
  pages : Nat := 0
  /-- Blocks per plane (R428; reset 0). -/
  blocks : Nat := 0
  /-- Capacity of one chip enable in GiB (Table 1-9; reset 0). -/
  ceGiB : Nat := 0
  /-- OverProvision of the last format (R426, R428; reset 7). -/
  overProvision : Nat := 7
  /-- True once the media has been formatted (R427; reset false. DESIGN CHOICE; log entry 73). -/
  formatted : Bool := false
  /-- Superblocks; absent is a free one with the values of reset (R399; reset empty). -/
  superblocks : Map Superblock := []
  /-- EPRs by number; absent is VALID 0 (R405; reset empty). -/
  eprs : Map Epr := []
  /-- Image bytes by where they lie, superblock × 2^24 + first chunk: a superblock keeps those that no EPR names any more until it is
  erased (R403, R416; reset empty). -/
  images : Map (List Byte) := []
  /-- EPR numbers handed to parks not yet durable (R405; reset none). -/
  reserved : List Nat := []
  /-- Records formed and not yet on a log page, oldest first (R408; reset none). -/
  forming : List LogRec := []
  /-- Records on the log page being programmed (R408; reset none). -/
  programming : List LogRec := []
  /-- SEQ of the last durable record (R407; reset 0). -/
  seq : Nat := 0
  /-- The tables as of the last checkpoint (R410; reset empty). -/
  saved : FlashTables := {}
  /-- The durable records since then, oldest first, each with the table entries as it left them (R410; reset none). -/
  log : List (LogRec × List TableEntry) := []
  /-- Records since the last checkpoint (R410; reset 0). -/
  sinceCheckpoint : Nat := 0
  /-- The largest CLOCK found at mount, H (R418; reset 0). -/
  h : Nat := 0
  /-- What the retention clock has reached, which it never falls below, in ms (R418; reset 0). -/
  clock : Nat := 0
  /-- The largest CLOCK among the durable records (R418; reset 0). -/
  logClock : Nat := 0
  /-- How the mount of this start ended, none before it has (R410; reset none). -/
  mount : Option Bool := Option.none
  /-- Relocations in progress (R414; reset none). -/
  relocs : List Reloc := []
  /-- EPRs whose images are to be relocated and wait for their turn, each with whether garbage collection asks (R416 to R424; reset
  none). -/
  wants : List (Nat × Bool) := []
  /-- The EPRs that each MD has cached, newest first, 32,768 at most (R405; reset empty). -/
  cached : Map (List Nat) := []
  /-- EPRs whose page is being read for an unpark (R405; reset none). -/
  eprReads : List Nat := []
  /-- The first page of the sheet store for each bank that holds pages there, by slot × 2 + bank (R409; reset empty). -/
  sheetAt : Map Nat := []
  /-- Rows whose chunks are all known and that are being programmed, by superblock × 65,536 + row: the channels whose page program has
  not succeeded yet (R402; reset empty). -/
  rows : Map (List Nat) := []
  /-- Codewords found uncorrectable since their erase: ((superblock × 65,536 + row) × 8 + codeword) × 16 + channel (R412, R413; reset
  none). -/
  bad : List Nat := []
  /-- The sheet store, by slot × 2 + bank (R409; reset empty). -/
  store : Map StoredSheet := []
  /-- Spares left by unit, by channel × 512 + unit; absent is the full pool (R421; reset empty). -/
  spares : Map Nat := []
  /-- Copies of system-area pages that cannot be read, by page × 2 + copy: EPR n is page 2n, and page p of the sheet store page
  2p + 1 (R90, R150, R407; reset none). -/
  sysBad : List Nat := []
  /-- The sheet generations, with their coded blocks, that images of parked extents named when a format erased them: they count in
  STORED_BLOCKS until DROP (R147, R180). -/
  wiped : List (Nat × List (Nat × Nat × Nat)) := []
  /-- Blocks replaced, by (channel × 512 + unit) × 2^24 + superblock: the spare (R399; reset empty). -/
  replaced : Map Nat := []
  /-- Retired blocks, under the same numbers, and the spares that are to take their places (R421; reset empty). -/
  retiring : Map Nat := []
  /-- Lost chunks, by EPR × 2,048 + image chunk (R413; reset none). -/
  lost : List Nat := []
  deriving DecidableEq, Repr

/-- A session record, Table 3-1. -/
structure Session where
  /-- SESSION_ID (R97; reset 0). -/
  sessionId : Nat := 0
  /-- STATE, Table 3-2 (R97; reset 0). -/
  state : Nat := 0
  parkLevel : Nat := 0
  cls : Nat := 0
  part : Nat := 0
  binding : Nat := 0
  keyValid : Bool := false
  jobKey : Nat := 0
  expoHeld : Bool := false
  pfx : Option Nat := Option.none
  parkRetries : Nat := 0
  kvBase : Nat := 0
  layerStride : Nat := 0
  logBase : Nat := 0
  logExtents : Nat := 0
  kvTokens : Nat := 0
  logTokens : Nat := 0
  lastTouch : Nat := 0
  inFlight : Nat := 0
  stateSince : Nat := 0
  restoredLayers : Nat := 0
  userTag : Nat := 0
  deriving DecidableEq, Repr, Inhabited

/-- A shared-prefix entry, Table 3-9. -/
structure PrefixEntry where
  ending : Bool := false
  parkLevel : Nat := 0
  cls : Nat := 0
  part : Nat := 0
  binding : Nat := 0
  kvBase : Nat := 0
  layerStride : Nat := 0
  tokens : Nat := 0
  refCount : Nat := 0
  awake : Nat := 0
  idleSince : Nat := 0
  /-- The device extents that its read-only lock was taken on (R123, R300; the model's own). -/
  locked : List Nat := []
  deriving DecidableEq, Repr, Inhabited

/-- A session's park in progress (R112 to R115). -/
structure SessPark where
  entry : Nat
  isPrefix : Bool
  level : Nat
  /-- Device extents whose action has not ended. -/
  todo : List Nat
  /-- Extents whose action aborted and which start again at the next visit (R115). -/
  again : List Nat
  /-- Commands that wait on the park. -/
  cmds : List Nat
  /-- The master that its actions are charged to: the park engine, or the session service (R114). -/
  master : Nat
  deriving DecidableEq, Repr

/-- A session's wake in progress (R116 to R122). -/
structure Wake where
  entry : Nat
  tier : Tier
  /-- True when the KV is rebuilt and not restored (R117). -/
  rebuild : Bool
  /-- Device extents of each layer not yet issued, lowest layer first. -/
  layers : List (Nat × List Nat)
  /-- Layer and device extent issued and not landed. -/
  issued : List (Nat × Nat)
  /-- Log extents, issued after the last layer (R118). -/
  log : List Nat
  logIssued : Bool
  /-- UNPARK, hint or REBUILD commands that wait for the wake. -/
  cmds : List Nat
  startUs : Nat
  /-- The compute die that a HINT HOT names for the tiles (Table 7-5). -/
  cd : Option Nat := none
  /-- The LD of the command that started the wake, as port × 16 + LD (R249). -/
  ld : Option Nat := none
  /-- The ATTEND that caused a rebuild, which ends with it if it fails (R121). -/
  cause : Option Nat := none
  deriving DecidableEq, Repr

/-- The session service. -/
structure Sessions where
  /-- VALID session records by handle; absent is VALID 0 (R95; reset empty). -/
  recs : Map Session := []
  /-- VALID prefix entries by number (R123; reset empty). -/
  prefixes : Map PrefixEntry := []
  /-- Records lost until the next start (R132; reset none). -/
  lostRecs : List Nat := []
  /-- Prefix entries lost until the next start (R132; reset none). -/
  lostPfx : List Nat := []
  /-- Parks in progress (R112; reset none). -/
  parks : List SessPark := []
  /-- Wakes in progress (R116; reset none). -/
  wakes : List Wake := []
  /-- Commands that wait for a rebuild, by record (R121; reset none). -/
  attendWaits : List (Nat × Nat) := []
  /-- Sessions that are being ended, each with the SESSION-END if one ends it: they wait for their runs (R129; reset none). -/
  ends : List (Nat × Option Nat) := []
  deriving DecidableEq, Repr

/-- A sheet bank, Table 4-3. -/
structure Bank where
  /-- STATE, Table 4-4 (R143; reset 0). -/
  state : Nat := 0
  owner : Nat := 0
  /-- WIDTH: true for 16 B vectors. -/
  wide : Bool := false
  size : Nat := 0
  gen : Nat := 0
  /-- The entries in order, each a vector as a number (R144). -/
  entries : List Nat := []
  persisted : Bool := false
  /-- STORED_BLOCKS (R147). -/
  stored : Nat := 0
  builtAt : Nat := 0
  sampled : Nat := 0
  /-- Pins held by decodes and encodes (R148, R177). -/
  pins : Nat := 0
  deriving DecidableEq, Repr, Inhabited

/-- A test strip (R151 to R159). -/
structure Strip where
  cmd : Nat
  slot : Nat
  bank : Nat
  part : Nat
  first : Nat
  last : Nat
  wide : Bool
  size : Nat
  sampleBytes : Nat
  /-- 0 waits for its MD's strip unit, 1 sketches, 2 runs the trial pass, 3 waits for the SHEET record of the other bank (R149). -/
  stage : Nat
  /-- The trial ratio (R155). -/
  ratio : Nat
  /-- The blocks sampled, as extent × 512 + block, in order. -/
  sampledBlocks : List Nat
  winners : List Nat
  /-- True once the admission point has let the reads of the pass go at a rollover (R437). -/
  admitted : Bool := false
  deriving DecidableEq, Repr

/-- Why a block is decoded (R169). -/
inductive DecodeUse where
  /-- A host read of a sector, by the number of its forwarded read. -/
  | host (read : Nat)
  /-- A verify decode of a move's or park's coded block, with the encoder that made it (R166). -/
  | verify (isPark : Bool) (encoder : Nat) (raw : List Byte)
  /-- A coded block that a re-encode or a share rewrite stores afresh (R175, R179, R303). -/
  | recode
  /-- A coded block for a reader inside the device: a step of a run (0), a command (1), a test strip (3) or a digest (4), and which
  read of it; nobody where the reader has gone. -/
  | reader (who : List Nat)
  deriving DecidableEq, Repr

/-- A waiting, queued or running decode (R168, R169, R171). -/
structure DecodeJob where
  id : Nat
  md : Nat
  key : Nat
  block : Nat
  sheetSlot : Nat
  sheetGen : Nat
  bytes : List Byte
  use : DecodeUse
  /-- A coded sector came back poisoned: the decode fails check 0 (Table 4-7). -/
  bad : Bool := false
  /-- 0 waits at the mover, 1 in the MD's queue of 512, 2 a developer group runs it (R169). -/
  stage : Nat := 0
  /-- Deadline-tagged: first in its class (R169). -/
  tagged : Bool := false
  deriving DecidableEq, Repr

/-- A queued or running encode (R165). -/
structure EncodeJob where
  id : Nat
  md : Nat
  encoder : Nat
  key : Nat
  block : Nat
  sheetSlot : Nat
  sheetGen : Nat
  isPark : Bool
  raw : List Byte
  deriving DecidableEq, Repr

/-- A coded block that has been decoded for a reader inside the device, which has not taken it yet (R169). -/
structure Decoded where
  who : List Nat
  key : Nat
  block : Nat
  /-- The raw bytes; none where a check failed. -/
  data : Option (List Byte)
  /-- The coded bytes, with BLOCK_LEN of them, and their sheet's slot and generation (R170). -/
  coded : List Byte
  slot : Nat
  gen : Nat
  deriving DecidableEq, Repr

/-- The contact-sheet codec. -/
structure Codec where
  /-- Sheet banks that are not FREE, by slot × 2 + bank (R143; reset empty). -/
  banks : Map Bank := []
  /-- Encoders out of use, by MD × 16 + encoder (R167; reset none). -/
  encodersOut : List Nat := []
  /-- MDs for which ENCODERS_EXHAUSTED has been raised (R167; reset none). -/
  exhausted : List Nat := []
  /-- Test strips claimed and not ended (R158; reset none). -/
  strips : List Strip := []
  /-- Decodes waiting, queued or running, oldest first (R169; reset none). -/
  decodes : List DecodeJob := []
  /-- Encodes queued or running (R165; reset none). -/
  encodes : List EncodeJob := []
  /-- Blocks decoded for readers inside the device that have not taken them yet (R169; reset none). -/
  decoded : List Decoded := []
  /-- The number the next encode or decode takes; the model's own (reset 0). -/
  nextJob : Nat := 0
  deriving DecidableEq, Repr

/-- A sheet buffer of a frame (R208). -/
structure SheetBuf where
  slot : Nat
  gen : Nat
  /-- The entries in order, each an 8 B vector as a number. -/
  entries : List Nat
  /-- An entry holds an uncorrectable error: the buffer is invalid at its next use (R217). -/
  bad : Bool := false
  deriving DecidableEq, Repr

/-- A frame of a compute die (R187, R218). -/
structure Frame where
  /-- Owner, or none for NONE (R218; reset none). -/
  owner : Option Nat := Option.none
  /-- The partition the frame is reserved for (R220; reset none). -/
  reservedFor : Option Nat := Option.none
  /-- The µs its owner took it, or a table was accepted (R220; reset 0). -/
  sinceUs : Nat := 0
  /-- Out of use until the next start (R223, R510; reset false). -/
  outOfUse : Bool := false
  /-- Ownership epoch (Table 5-10; reset 0). -/
  epoch : Nat := 0
  /-- The incoming owner of a switch in progress; some none switches to NONE (R222; reset none). -/
  switching : Option (Option Nat) := Option.none
  /-- The run that holds the frame (R220; reset none). -/
  run : Option Nat := Option.none
  /-- Tray bytes; an unlisted byte is 0 (R213; reset empty). -/
  tray : List Host.Cell := []
  /-- Poisoned tray bytes by address, rising (R216; reset none). -/
  trayPoison : List Nat := []
  /-- VU register lanes by (VU × 32 + register) × 256 + lane; unlisted is 0 (R211; reset empty). -/
  vregs : Map Nat := []
  /-- Poisoned lanes, rising (R216; reset none). -/
  vregPoison : List Nat := []
  /-- Accumulator words by TE × 131,072 + word; unlisted is 0 (R199; reset empty). -/
  acc : Map Nat := []
  /-- Poisoned accumulator words, rising (R217; reset none). -/
  accPoison : List Nat := []
  /-- Tray bytes that hold a single-bit error, rising: each read corrects them in flight (R215; reset none). -/
  traySingle : List Nat := []
  /-- Product-table words by TE × 16,384 + word; unlisted is 0 (R187, R209; reset empty). -/
  tables : Map Nat := []
  /-- Sheet buffers, at most two, most recently used first (R208; reset none). -/
  sheets : List SheetBuf := []
  /-- Blocks that landed coded, by tray address: BLOCK_LEN, slot and generation (R207; reset none). -/
  codedAt : Map (Nat × Nat × Nat) := []
  deriving DecidableEq, Repr, Inhabited

/-- A piece of a tray: an address, its bytes, and which addresses in it are poisoned. -/
structure TrayPiece where
  addr : Nat
  bytes : List Byte
  poison : List Nat
  deriving DecidableEq, Repr

/-- A step issued and not completed (R241). -/
structure Issued where
  step : Nat
  /-- The step word of 256 bits. -/
  word : Nat
  /-- LOAD-TILE blocks that have not landed: tile key and block, tray address (R247). -/
  waiting : List (Nat × Nat × Nat)
  /-- Tray lines the step still writes, as first line and count (R242). -/
  arrival : Option (Nat × Nat)
  /-- True while poison holds a block (R247). -/
  poisoned : Bool
  /-- The tile of a tile step. -/
  key : Nat
  /-- Bytes of a REMOTE-READ still to come (R346). -/
  toCome : Nat
  /-- What the tray held where a TE, VU, LOAD-TILE or REMOTE-READ step writes it, before it did (R214, R242). -/
  wrote : List TrayPiece := []
  /-- The place of the issue among those of the run, from 1 (R253). -/
  seq : Nat := 0
  deriving DecidableEq, Repr

/-- The sequencer of one logical frame of a run (R241). -/
structure Sequencer where
  /-- The physical frame. -/
  frame : Nat
  pc : Nat := 0
  /-- Loop indices L0 to L3 (R246). -/
  loops : List Nat := [0, 0, 0, 0]
  /-- Open loops, innermost first: level, first step, last step, count. -/
  open_ : List (Nat × Nat × Nat × Nat) := []
  issued : List Issued := []
  /-- True once END has issued. -/
  ended : Bool := false
  /-- A word WAIT in progress: mode and address (R244). -/
  wordWait : Option (Nat × Nat) := Option.none
  /-- The µs the step at pc has been stalled since (R254). -/
  stalledSince : Option Nat := Option.none
  /-- True once the admission point has let the step at pc go at a rollover (R437). -/
  admitted : Bool := false
  /-- Run-ahead moves whose load has not issued: tile keys (R251, R252). -/
  ahead : List Nat := []
  /-- Run-ahead moves whose load has issued and that may still be in progress: tile keys (R251). -/
  aheadUsed : List Nat := []
  deriving DecidableEq, Repr, Inhabited

/-- A run, waiting or running (R239). -/
structure Run where
  id : Nat
  /-- The command served; none for a rebuild that a wake started (R120). -/
  cmd : Option Nat
  part : Nat
  port : Nat
  ld : Nat
  program : Nat
  /-- 0 general, 1 ATTEND, 2 REBUILD. -/
  kind : Nat
  /-- The session of a service run (R258). -/
  session : Option Nat
  args : List Nat
  tokens : Map Nat
  seqs : List Sequencer
  framesWanted : Nat
  oneCd : Bool
  stallLimitUs : Nat
  expiry : Option Nat
  granted : Bool
  grantUs : Nat
  /-- True once a STORE-TILE or REMOTE-WRITE carried poison (R255). -/
  carriedPoison : Bool
  /-- The status a stop was decided with (R256). -/
  stopping : Option Nat
  stallNs : Nat
  scratch : Option Nat
  /-- ATTEND: FIRST_LAYER, APPEND, LAST_GROUP, NEW_KV_ADDR. -/
  attend : Option (Nat × Nat × Bool × Nat)
  /-- True while the append of R259 runs. -/
  appending : Bool
  /-- Pieces of the append that have arrived and are not written yet: DPA, bytes, poison (R259, R346). -/
  copies : List (Nat × List Byte × Bool)
  /-- Bytes of the append still to come. -/
  toCopy : Nat
  /-- True once a piece of the append arrived poisoned (R259, R346). -/
  copyBad : Bool := false
  /-- The place of its command in fetch order (R239). -/
  order : Nat := 0
  /-- Steps issued so far, of all frames (R253). -/
  issues : Nat := 0
  /-- The place of its end among the ends of runs that append (R259). -/
  turn : Nat := 0
  deriving DecidableEq, Repr

/-- A registry entry, Table 6-2, with the parsed image of a program (R229). -/
structure RegEntry where
  /-- 0 REGISTERING, 1 REGISTERED, 2 RELOADING. -/
  state : Nat := 0
  kind : Nat := 0
  part : Nat := 0
  number : Nat := 0
  first : Nat := 0
  extents : Nat := 0
  length : Nat := 0
  at_ : Nat := 0
  digest : List Byte := []
  frames : Nat := 0
  oneCd : Bool := false
  stallLimit : Nat := 0
  /-- The step streams, each step 256 bits. -/
  streams : List (List Nat) := []
  /-- The device extents that its read-only lock was taken on (R229, R300; the model's own). -/
  locked : List Nat := []
  deriving DecidableEq, Repr, Inhabited

/-- A registration whose digest runs (R229). -/
structure RegJob where
  part : Nat
  kind : Nat
  number : Nat
  first : Nat
  extents : Nat
  length : Nat
  digest : List Byte
  /-- True for the re-registration of a RELOADING weight set (R232). -/
  reload : Bool
  /-- The device extents that its read-only lock was taken on (R229, R300; the model's own). -/
  locked : List Nat := []
  /-- True once the admission point has let the reads of the digest go at a rollover (R437). -/
  admitted : Bool := false
  deriving DecidableEq, Repr

/-- The compute dies and programs. -/
structure Compute where
  /-- Frames by number, absent as at reset (R187; reset empty). -/
  frames : Map Frame := []
  /-- Runs waiting and running, in fetch order (R239; reset none). -/
  runs : List Run := []
  /-- The registry: programs by number, weight sets by 65,536 + number (R229; reset empty). -/
  registry : Map RegEntry := []
  /-- Registrations whose digest runs (R229; reset none). -/
  regJobs : List RegJob := []
  /-- The partition served last with pooled frames (R239; reset 63. DESIGN CHOICE; log entry 73). -/
  lastServed : Nat := 63
  /-- The number the next run takes; the model's own (reset 0). -/
  nextRun : Nat := 0
  deriving DecidableEq, Repr

/-- A ring block, Table 7-1, with its gathering time. -/
structure Ring where
  sqBase : Nat := 0
  sqLog2 : Nat := 0
  cqBase : Nat := 0
  cqLog2 : Nat := 0
  irqMode : Nat := 0
  vector : Nat := 0
  irqDelay : Nat := 0
  sqTail : Nat := 0
  cqHead : Nat := 0
  sqHead : Nat := 0
  cqTail : Nat := 0
  /-- STATE: 0 DISABLED, 1 ACTIVE, 2 FROZEN, 3 FAULTED (R265; reset 0). -/
  state : Nat := 0
  fault : Nat := 0
  inFlight : Nat := 0
  /-- PHASE of the pass in progress (R283; reset true). -/
  phase : Bool := true
  /-- True once ENABLE = 0 was written and commands remain (R270; reset false). -/
  disabling : Bool := false
  /-- True while a gathering time runs (R284; reset false). -/
  gathering : Bool := false
  /-- The device extents pinned for the SQ (R266; reset none). -/
  pinned : List Nat := []
  /-- The fetch of the entry at SQ_HEAD: 0 none is in progress, 1 it waits for its sector, 0x30 or 0x31 a freeze met it and its
  descriptor completes with that status (R271; reset 0). -/
  fetch : Nat := 0
  deriving DecidableEq, Repr, Inhabited

/-- A command fetched and not completed. -/
structure Cmd where
  /-- (port × 16 + LD) × 64 + ring. -/
  ring : Nat
  part : Nat
  /-- The 512 bits of the descriptor. -/
  desc : Nat
  slot : Nat
  fetchUs : Nat
  /-- The expiry instant (R286). -/
  expiry : Option Nat
  /-- True once it has reached its started point (Table 7-4). -/
  started : Bool
  /-- True once its row has executed. -/
  begun : Bool
  /-- Statuses met during execution (R285). -/
  met : List Nat
  result0 : Nat
  result1 : Nat
  /-- Subjects not ended: device extents, or tile keys. -/
  todo : List Nat
  /-- The session or prefix that the command names and counts in IN_FLIGHT (R104). -/
  session : Option Nat
  /-- Descriptor order within its ring, for FENCE (R273), and fetch order in all (R239). -/
  order : Nat
  /-- RUN: the two sectors of its argument block, once they have been read (R257). -/
  block : Option (List (List Byte × Bool)) := Option.none
  /-- True when its record is discarded (Table 9-12 event 4). -/
  discard : Bool
  deriving DecidableEq, Repr

/-- Rings and commands. -/
structure Queues where
  /-- Ring blocks by (port × 16 + LD) × 64 + ring; absent as at reset (R264; reset empty). -/
  rings : Map Ring := []
  /-- Commands in flight by number (R269; reset empty). -/
  cmds : Map Cmd := []
  /-- The number the next command takes; the model's own (reset 0). -/
  nextCmd : Nat := 0
  /-- The ring whose turn of fetches it is (R269; reset 0). -/
  turn : Nat := 0
  /-- Descriptors taken from that ring in its turn (R269; reset 0). -/
  taken : Nat := 0
  /-- Records held during freezes, in completion order: ring, command facts as record bytes and IRQ call (R271; reset none). -/
  heldRecords : List (Nat × List Byte × Bool) := []
  deriving DecidableEq, Repr

/-- A staged action of an exposure (Table 8-5). -/
structure Action where
  opcode : Nat
  body : Nat
  /-- The tile keys the action holds. -/
  tiles : List Nat
  /-- The region's tiles of a PUBLISH, or the claim's of a RELEASE, which its participants hold from PREPARE on (R311). -/
  region : List Nat
  /-- Staged slots by tile key, for FILL: slot number of the home's tier and MD. -/
  fills : List (Nat × Tier × Nat × Nat)
  deriving DecidableEq, Repr

/-- An exposure (R307 to R314). -/
structure Expo where
  part : Nat
  /-- Port × 16 + LD. -/
  ld : Nat
  actions : List Action
  /-- 0 open, 1 staging, 2 COMMITTING with PREPARE sent, 3 past the commit point, 4 waiting to send PREPARE again, 5 waiting for
  its record to be durable (R311). -/
  stage : Nat
  /-- True for the exposure of a PUBLISH command (R318). -/
  publish : Bool
  /-- The COMMIT, ADD or PUBLISH command that waits. -/
  cmd : Option Nat
  tries : Nat
  /-- Participants asked, with their answer: 0 none yet, 1 READY, 2 REFUSE, 3 BUSY. -/
  answers : List (Participant × Nat)
  applied : List Participant
  /-- Share rows taken (R311 step 2). -/
  rows : List Nat
  /-- True while the commit waits for a share row another commit holds. -/
  waitsRow : Bool
  touchedUs : Nat
  /-- The actions that the ADD in progress has added: the last ones (R308). -/
  adding : Nat := 0
  /-- The share row of the publish that a participant refused (R311 step 4). -/
  refused : Option Nat := none
  deriving DecidableEq, Repr

/-- A claim (R315). -/
structure Claim where
  part : Nat
  ld : Nat
  /-- The tile keys claimed, in ascending DPA order. -/
  tiles : List Nat
  /-- The tiles a death still has to poison (R322). -/
  dying : Option (List Nat)
  deriving DecidableEq, Repr

/-- A revoke (R323), of a reassignment or of a Range Table write. -/
structure Revoke where
  part : Nat
  reassign : Bool
  /-- The DRAINING rows. -/
  rows : List Nat
  /-- The device extents that no partition maps once the revoke ends. -/
  scrub : List Nat
  /-- The step reached: 1 committed, 3 drained. -/
  stage : Nat
  deriving DecidableEq, Repr

/-- Exposures, claims, revokes and what the scrubs of extents need. -/
structure Shares where
  /-- Open exposures by number (R307; reset empty). -/
  expos : Map Expo := []
  /-- Claims held by CLAIM_ID (R315; reset empty). -/
  claims : Map Claim := []
  /-- Revokes not ended, by number (R323; reset empty). -/
  revokes : Map Revoke := []
  /-- Device extents being scrubbed, each with the partition whose reassignment scrubs it (R299, R323; reset none). -/
  scrubbing : Map Nat := []
  /-- Rows that the device split for a lock or a revoke: partition and bounds (R300; reset none). -/
  splits : List Nat := []
  /-- The number the next revoke takes; the model's own (reset 0). -/
  nextRevoke : Nat := 0
  deriving DecidableEq, Repr

/-- What an outstanding read is for. -/
inductive TagUse where
  /-- A REMOTE-READ step: run, logical frame, step, the place of its issue in the run, tray address of the next byte, and the frame with
  its ownership epoch (R222). -/
  | step (run : Nat) (frame : Nat) (step : Nat) (seq : Nat) (tray : Nat) (phys : Nat) (epoch : Nat)
  /-- A word poll: run and logical frame. -/
  | poll (run : Nat) (frame : Nat)
  /-- An append read of R259: run, DPA of the next byte. -/
  | append (run : Nat) (dpa : Nat)
  deriving DecidableEq, Repr

/-- A tag in use or quarantined (R347, R348). -/
structure Tag where
  ld : Nat
  part : Nat
  use : TagUse
  remaining : Nat
  quarantined : Bool
  deriving DecidableEq, Repr

/-- A request that waits for a tag (R347). -/
structure TagWait where
  ld : Nat
  part : Nat
  use : TagUse
  addr : Nat
  length : Nat
  deriving DecidableEq, Repr

/-- A port and its PF0. -/
structure Port where
  /-- True in L0 and used (R330; reset false). -/
  up : Bool := false
  /-- Rate code of PortLink (R362; reset 0). -/
  rate : Nat := 0
  width : Nat := 0
  mld : Bool := false
  flits : Bool := false
  /-- 14-bit tags (R347; reset true. PRESUMED; log entry 72). -/
  tags14 : Bool := true
  /-- PERST# low after filtering (R551; reset false: the pin is high). -/
  perst : Bool := false
  /-- Containment cause; 0 none (Table 9-6; reset 0). -/
  cause : Nat := 0
  refused : Bool := false
  /-- Interrupt status bits of offset 0x08 (reset 0). -/
  intStatus : BitVec 5 := 0
  intEnable : BitVec 5 := 0
  /-- The mark of R568 (reset false). -/
  mark : Bool := false
  /-- The freeze of R568, which outlasts the mark until L0 (reset false). -/
  markFreeze : Bool := false
  /-- MSI capability of PF0 (R340; reset 0 to all of it. PRESUMED; log entry 72). -/
  msiEnable : Bool := false
  msiMask : Bool := false
  msiAddr : Nat := 0
  msiData : Nat := 0
  msiPending : Bool := false
  /-- Interrupt Disable of PF0 (R340; reset false. PRESUMED; log entry 72). -/
  intDisable : Bool := false
  inta : Bool := false
  ltrEnable : Bool := false
  l1Enable : Bool := false
  /-- True once the port has asked for L1 and has had no work since (R344; reset false). -/
  l1 : Bool := false
  /-- How many outputs the device had sent when the port asked for L1 (the model's own; reset 0; log entry 11). -/
  l1At : Nat := 0
  /-- LTR state last reported, Table 9-9 order 0 to 3, or none (R343; reset none). -/
  ltrSent : Option Nat := Option.none
  /-- True while the 100 µs interval runs (reset false). -/
  ltrWait : Bool := false
  ltrDue : Bool := false
  /-- Tags outstanding or quarantined (R347; reset empty). -/
  tags : Map Tag := []
  tagWaits : List TagWait := []
  /-- AER status of PF0, by error order of Table 9-15 (R360; reset 0). -/
  aer : Nat := 0
  /-- AER mask of PF0 (R361; reset 0. PRESUMED; log entry 72). -/
  aerMask : Nat := 0
  /-- AER severity of PF0, a bit for each error of Table 9-15 that is fatal, errors 11 to 18 by default (R360; reset 0x7F800). -/
  aerSeverity : Nat := 0x7F800
  /-- Uncorrectable CXL RAS status of PF0 (R360; reset 0). -/
  ras : Nat := 0
  /-- CDAT sequence number (R337; reset 0). -/
  cdatSeq : Nat := 0
  /-- The window registers of Table 15-5: OP word, CONTEXT word and OFFSET (reset 0, CONTEXT 0xFF). -/
  winOp : Nat := 0
  winCtx : Nat := 255
  winOffset : Nat := 0
  winOverrun : Bool := false
  winBusy : Bool := false
  winStatus : Nat := 0
  winLen : Nat := 0
  /-- The 1,024 B DATA block; unlisted is 0 (reset empty). -/
  winData : Map Nat := []
  /-- Max Payload Size, Max Read Request Size in bytes and the Completion Timeout code of PF0 (R360; reset 128, 512 and 0. PRESUMED; log
  entry 72). -/
  maxPayload : Nat := 128
  maxRead : Nat := 512
  cplTimeout : Nat := 0
  /-- PF0 is in D3hot (R342; reset false: D0). -/
  d3 : Bool := false
  /-- The address in PF0's BAR0, a multiple of 1 MiB (R332, Table 9-2; reset 0. PRESUMED; log entry 109). -/
  bar0 : Nat := 0
  /-- Errors in PF0's FLIT error log (Table 9-1; reset 0. PRESUMED; log entry 109). -/
  flitErrors : Nat := 0
  deriving DecidableEq, Repr, Inhabited

/-- An HDM decoder, committed and locked (R333). -/
structure Decoder where
  base : Nat
  size : Nat
  skip : Nat
  /-- log2 of the ways. -/
  ways : Nat
  /-- log2 of the granularity. -/
  grain : Nat
  /-- Locked by Lock On Commit (R333; log entry 109). -/
  locked : Bool
  deriving DecidableEq, Repr

/-- The primary mailbox of a function (R339). -/
structure Mailbox where
  /-- Opcode of the Command register (reset 0. PRESUMED; log entry 109). -/
  op : Nat := 0
  /-- Return code of the last command (reset 0. PRESUMED; log entry 109). -/
  code : Nat := 0
  /-- Payload bytes (reset none. PRESUMED; log entry 109). -/
  payload : List Byte := []
  deriving DecidableEq, Repr, Inhabited

/-- A logical device. -/
structure Ld where
  /-- Bus Master Enable (R349; reset false). -/
  bme : Bool := false
  d3 : Bool := false
  /-- An FLR in progress (R350; reset false). -/
  flr : Bool := false
  /-- Committed HDM decoders by number (R333; reset empty). -/
  decoders : Map Decoder := []
  /-- True if a commit ended with Error Not Committed, by decoder (R333; reset none). -/
  notCommitted : List Nat := []
  memEnable : Bool := false
  msixEnable : Bool := false
  functionMask : Bool := false
  /-- MSI-X entries by vector: address, data, mask; absent is masked zeros (R341; reset empty. PRESUMED; log entry 72). -/
  msixTable : Map (Nat × Nat × Bool) := []
  /-- Pending vectors, rising (R341; reset none). -/
  pba : List Nat := []
  /-- AER status, mask and severity of the LD, whose own errors are none of them fatal by default (R360, Table 9-15; reset 0.
  PRESUMED for the mask; log entry 72). -/
  aer : Nat := 0
  aerMask : Nat := 0
  aerSeverity : Nat := 0
  cdatSeq : Nat := 0
  cdatLen : Nat := 0
  /-- As for PF0 (R360; reset 128, 512 and 0. PRESUMED; log entry 72). -/
  maxPayload : Nat := 128
  maxRead : Nat := 512
  cplTimeout : Nat := 0
  /-- The address in BAR0, a multiple of 128 KiB (R332, Table 9-2; reset 0. PRESUMED; log entry 109). -/
  bar0 : Nat := 0
  deriving DecidableEq, Repr, Inhabited

/-- One direction of a purlin link (R18). -/
structure Purlin where
  /-- Frames sent and not acknowledged (R18; reset none). -/
  replay : List (List Byte) := []
  /-- Consecutive failed replays of the frame in hand (R18; reset 0). -/
  fails : Nat := 0
  /-- Frames taken whole (R18; reset 0). -/
  taken : Nat := 0
  deriving DecidableEq, Repr, Inhabited

/-- The ports, their functions and the purlin links. -/
structure Links where
  /-- Ports by number; absent as at reset (R328; reset empty). -/
  ports : Map Port := []
  /-- LDs by port × 16 + n; absent as at reset (R331; reset empty). -/
  lds : Map Ld := []
  /-- Primary mailboxes by function number: a port's PF0, or 16 + 16 × port + LD (R339; reset empty). -/
  mailboxes : Map Mailbox := []
  /-- Purlin directions by bridge × 2 + direction (R18; reset empty). -/
  purlins : Map Purlin := []
  /-- Bridges whose link has failed (R18; reset none). -/
  failed : List Nat := []
  deriving DecidableEq, Repr

/-- A request queued at a DRAM controller (R373). -/
structure DramReq where
  id : Nat
  port : DramPort
  isWrite : Bool
  /-- The sector of the channel or stack (R366, R368). -/
  sector : Nat
  /-- The rank, or the pseudo-channel. -/
  place : Nat
  /-- The bank, with all that it lies in. -/
  bank : Nat
  row : Nat
  /-- The bytes of a write, which the controller has acknowledged (R374, R376). -/
  data : List Byte
  /-- The bytes that a read has returned at its first issue (R374, R376). -/
  got : Option (List Byte)
  starved : Bool
  deriving DecidableEq, Repr

/-- A DRAM controller. -/
structure DramCtl where
  /-- ChannelState or StackState: 0 empty, 1 in use, 2 untrained, 3 refused, 4 failed (R393; reset 0). -/
  state : Nat := 0
  /-- Queued requests, oldest first (R373; reset none). -/
  queue : List DramReq := []
  /-- True while writes drain from 48 to 16 (R374; reset false). -/
  draining : Bool := false
  /-- The open row of each bank; absent is closed (R373, R376; reset empty: DESIGN CHOICE, log entry 65). -/
  openRows : Map Nat := []
  /-- The retry buffer: the last 64 commands issued, oldest first, with their data (R376; reset empty). -/
  retry : List DramReq := []
  /-- True in self-refresh (R378; reset false). -/
  selfRefresh : Bool := false
  /-- Pseudo-channels in power-down (R379; reset none). -/
  powerDown : List Nat := []
  /-- True from an alert to the end of the replay: issuing is held (R376; reset false). -/
  alert : Bool := false
  /-- Replays of the episode, failed ones included (R377; reset 0). -/
  episode : Nat := 0
  /-- Calibration items that fell due during self-refresh, with what each blocks (R371; reset none). -/
  calDue : List (CalItem × Nat) := []
  /-- Items that run: each with what it blocks, and the µs in which it has ended (R371; reset none). -/
  blocked : List (CalItem × Nat × Nat) := []
  /-- Banks of a pseudo-channel, by the stack's device ID (R366; reset 1. DESIGN CHOICE; log entry 73). -/
  banks : Nat := 1
  /-- DIMMs fitted on a channel (R393; reset 0). -/
  fitted : Nat := 0
  /-- Ranks in doubled refresh (R372; reset none). -/
  doubled : List Nat := []
  /-- Refreshes postponed by rank (R372; reset empty). -/
  postponed : Map Nat := []
  /-- Refreshes done (R372; reset 0). -/
  refreshes : Nat := 0
  /-- The µs at which each new uncorrectable sector of the last second was found (R388; reset none). -/
  ueTimes : List Nat := []
  deriving DecidableEq, Repr, Inhabited

/-- A SQUEEGEE pass in progress (R389 to R391). -/
structure Scrub where
  cmd : Nat
  part : Nat
  first : Nat
  length : Nat
  summary : Nat
  /-- The DPA of the next sector: those before it have been scrubbed. -/
  pos : Nat
  read : Nat := 0
  corrected : Nat := 0
  uncorrectable : Nat := 0
  poisoned : Nat := 0
  skipped : Nat := 0
  /-- DPA and tier code of the new uncorrectable sectors, in pass order. -/
  listed : List (Nat × Nat) := []
  /-- True once a channel or stack that holds part of the range has failed (R391). -/
  failed : Bool := false
  /-- The status with which the pass has stopped, while its summary waits for the LD to master again (R345, R391). -/
  stopped : Option Nat := Option.none
  /-- True once the admission point has let the pass go on (R437). -/
  admitted : Bool := false
  deriving DecidableEq, Repr

/-- The DRAM controllers. -/
structure Dram where
  /-- Controllers: BCHn at n, HSm at 16 + m; absent as at reset (R365; reset empty). -/
  ctls : Map DramCtl := []
  /-- BattenGrainInForce (R393; reset 4,096, the Default). -/
  grain : Nat := 4096
  /-- RefreshModeInForce (R393; reset 1, the Default). -/
  mode : Nat := 1
  /-- BattenRate in MT/s (R393; reset 0). -/
  rate : Nat := 0
  /-- DIMMs per channel (R29; reset 0). -/
  dpc : Nat := 0
  /-- GiB of one DIMM (R29; reset 0). -/
  dimmGiB : Nat := 0
  /-- Package ranks of a DIMM (R368; reset 1. DESIGN CHOICE; log entry 73). -/
  ranks : Nat := 1
  /-- Dies of a 3DS stack (R368; reset 1. DESIGN CHOICE; log entry 73). -/
  dies : Nat := 1
  /-- Bits in error of the stored copies of sectors of Ridge and Batten, as a burst, by home-slot number × 1,024 + sector; absent is
  none (R384; reset empty). -/
  dirty : Map (List Byte) := []
  /-- Reserved sectors that hold the poison code, by sector × 16 + MD × 2, and 1 for Batten (R383, R386; reset none). -/
  lostReserve : List Nat := []
  /-- ScrubReserveState (R392; reset 0). -/
  reserveScrub : Nat := 0
  /-- True once the MDs' admission points have let the reserve scrub go on (R437; reset false). -/
  reserveGo : Bool := false
  /-- SQUEEGEE passes in progress (R389; reset none). -/
  scrubs : List Scrub := []
  /-- True while any rank or stack is in doubled refresh (R372; reset false). -/
  rateHigh : Bool := false
  nextReq : Nat := 0
  deriving DecidableEq, Repr

/-- The bandwidth regulator. -/
structure Regulator where
  /-- Charges by master × 4 + tier, in sectors of the window (R434; reset empty). -/
  charges : Map Nat := []
  /-- Tiers congested, by tier code (R436; reset none). -/
  congested : List Nat := []
  /-- Guaranteeable figures in MB/s: Ridge, Batten, Underlay, XP0 to XP3 (R440; reset 0). -/
  figures : List Nat := [0, 0, 0, 0, 0, 0, 0]
  /-- The scale factor G / S of a tier that is scaled, as numerator and denominator (R442; reset none). -/
  scaled : Map (Nat × Nat) := []
  /-- The µs at which each master's window began, absent where it began at start (R434; reset empty). -/
  began : Map Nat := []
  /-- Requests held, by master: host accesses in arrival order (R437; reset none). -/
  held : List (Nat × Instr) := []
  deriving DecidableEq, Repr

/-- The stage of the start sequence. -/
inductive Stage where
  /-- No VDD_AON. -/
  | off
  /-- GRST# low, or a rail out of its window (R506, R556). -/
  | held
  /-- S1: the strapped delay runs (R494). -/
  | oscDelay
  /-- S1: the CMON judges LOSC (R494). -/
  | judging
  /-- S1: LOSC accepted; fuses and PLLs (R508). -/
  | fuses
  /-- S2 (R508). -/
  | image
  /-- S3 (R508). -/
  | train
  /-- S4 (R511). -/
  | lit
  | safelight
  /-- The retry delay after a failed start (R513). -/
  | retry
  /-- After a thermal trip, until every sensor is at 95 °C or less (R562). -/
  | tripped
  deriving DecidableEq, Repr

/-- Clocks, resets and the start sequence. -/
structure Start where
  /-- Stage of the start sequence (R508; reset oscDelay, the beginning of S1). -/
  stage : Stage := .oscDelay
  /-- StartPhase (R508; reset 1: S1 has begun). -/
  phase : Nat := 1
  /-- SafelightReason (R515; reset 0). -/
  reason : Nat := 0
  /-- Bits of factory fuse fields that some copy reads wrong, as this start read them (R447, R448; reset none). -/
  upsets : List FuseUpset := []
  /-- ConsecutiveFailures in the AON start record (R512; reset 0). -/
  failures : Nat := 0
  /-- LastFailReason (R516; reset 0). -/
  lastFail : Nat := 0
  /-- The last eight start outcomes, newest first: reason, phase, ms (R507, R516; reset none). -/
  log : List (Nat × Nat × Nat) := []
  /-- LastResetCause (R516; reset 0, power-on). -/
  cause : Nat := 0
  /-- OscDelayStrap (R495; reset 0. DESIGN CHOICE; log entry 73). -/
  strap : BitVec 3 := 0
  /-- The µs at which this start entered S1 (R511; reset 0). -/
  startUs : Nat := 0
  /-- StartTimeMs (R511; reset 0). -/
  startMs : Nat := 0
  /-- LoscHealthy (R498; reset false: LOSC is not yet judged). -/
  losc : Bool := false
  /-- ReferenceInUse: 0 SOSC, 1 LOSC, 2 RCLK (R492; reset 0). -/
  refInUse : Nat := 0
  /-- RclkPort (R516; reset none, 0xFF). -/
  rclkPort : Option Nat := Option.none
  /-- RclkOffsetPpm (R516; reset 0). -/
  rclkPpm : Int := 0
  /-- The candidate port under its 10 ms check (R496; reset none). -/
  candidate : Option Nat := Option.none
  /-- True for 1 s after a fallback (R497; reset false). -/
  holdoff : Bool := false
  /-- FrameClockEnable (R501; reset all ones). -/
  frameEnable : BitVec 36 := BitVec.allOnes 36
  /-- FrameClockOpen (R501; reset all ones). -/
  frameOpen : BitVec 36 := BitVec.allOnes 36
  /-- DdrClockEnable (R501; reset 0xFFFF). -/
  ddrEnable : BitVec 16 := 0xFFFF
  /-- OnfiClockEnable (R501; reset 0xFFFF). -/
  onfiEnable : BitVec 16 := 0xFFFF
  /-- HbmClockEnable (R501; reset 0xFF). -/
  hbmEnable : BitVec 8 := 0xFF
  /-- Gates closed of DDR, ONFI and HBM blocks, by kind × 32 + block (R504; reset none). -/
  gatesClosed : List Nat := []
  /-- Events that wait for MGMT's first run: code and detail (R518; reset none). -/
  owed : List (Nat × Nat) := []
  deriving DecidableEq, Repr

/-- The calendar (R110) and the device's own count of time. -/
structure Time where
  /-- µs since start, from which deadlines and periods count (R286, Table 15-15; reset 0). -/
  us : Nat := 0
  /-- The calendar in µs (R110; reset 0). -/
  calUs : Nat := 0
  /-- CalendarSet (R111; reset false). -/
  set_ : Bool := false
  /-- CalendarLastStep in s (R111; reset 0). -/
  lastStep : Int := 0
  deriving DecidableEq, Repr

/-- The fuses burned in service, each as its three copies (R447). The factory fields are in Config. -/
structure Fuses where
  /-- SVN_FLOOR (R447; reset 0, as manufactured). -/
  svn : List (BitVec 64) := [0, 0, 0]
  /-- TREE_FUSES (R447; reset 0, as manufactured). -/
  trees : List (BitVec 1024) := [0, 0, 0]
  /-- DEBUG_CLOSE (R447; reset false, as manufactured). -/
  debugClose : List Bool := [false, false, false]
  deriving DecidableEq, Repr

/-- A counter record (R458). -/
structure CounterRec where
  tree : Nat
  reservedTo : Nat
  seq : Nat
  deriving DecidableEq, Repr

/-- A persisted record (R529, Table 15-7). -/
structure PersistRec where
  index : Nat
  sub : Nat
  type : Nat
  /-- The value's bytes. -/
  bytes : List Byte
  seq : Nat
  /-- The CRC-32C over the header's first 12 bytes and the value. -/
  crc : Nat := 0
  deriving DecidableEq, Repr

/-- The image flash, which survives every reset (R450, R506). -/
structure Flash where
  /-- Image slot 0's bytes (R450; reset empty, an erased slot. DESIGN CHOICE; log entry 73). -/
  slot0 : List Byte := []
  /-- Image slot 1's bytes (R450; reset empty, an erased slot. DESIGN CHOICE; log entry 73). -/
  slot1 : List Byte := []
  /-- The factory area's certificate chain (R466; reset empty. DESIGN CHOICE; log entry 73). -/
  chain : List Byte := []
  /-- Counter records of 32 B, oldest first, at most one in each half (R458; reset none. DESIGN CHOICE; log entry 73). -/
  counters : List (List Byte) := []
  /-- The persisted records of the active half, oldest first (R529; reset none. DESIGN CHOICE; log entry 73). -/
  store : List PersistRec := []
  /-- The active half of the persisted store (R529; reset 0). -/
  half : Nat := 0
  /-- SEQ of the last persisted record (R529; reset 0). -/
  seq : Nat := 0
  deriving DecidableEq, Repr

/-- A secured session (R463, R467). -/
structure SecSession where
  at_ : SpdmAt
  /-- The shared secret, followed by the hash of the exchange's transcript (R465). -/
  secret : List Byte
  /-- The key generation, advanced by KEY_UPDATE (R463). -/
  keyGen : Nat
  /-- The next requester sequence number (R473). -/
  seq : Nat
  /-- True once FINISH has completed. -/
  established : Bool
  deriving DecidableEq, Repr

/-- An SPDM responder's progress at one place (R463, R464). -/
structure Responder where
  version : Bool := false
  capabilities : Bool := false
  algorithms : Bool := false
  hss : Bool := false
  mlkem : Bool := false
  /-- The transcript of the messages so far. -/
  transcript : List Byte := []
  deriving DecidableEq, Repr, Inhabited

/-- A request that waits for a signature (R461). -/
structure SignWait where
  at_ : SpdmAt
  /-- Response code: 0x03 CHALLENGE_AUTH, 0x60 MEASUREMENTS, 0x64 KEY_EXCHANGE_RSP. -/
  kind : Nat
  message : List Byte
  /-- KEY_EXCHANGE: the requester's session half and its key. -/
  exchange : Option (Nat × List Byte)
  deriving DecidableEq, Repr

/-- A Key Table entry (R472). -/
structure KeyEntry where
  k1 : List Byte
  k2 : List Byte
  loadedAt : Nat
  deriving DecidableEq, Repr

/-- A direction of link encryption: keys of the two sets, and the set in use (R470). -/
structure IdeKeys where
  key0 : Option (List Byte) := Option.none
  key1 : Option (List Byte) := Option.none
  active : Option Nat := Option.none
  deriving DecidableEq, Repr, Inhabited

/-- Identity, attestation, keys and debug access -/
structure Security where
  /-- RunningSlot, none before an image runs (R489; reset none). -/
  slot : Option Nat := Option.none
  /-- RunningSvn (R489; reset 0). -/
  svn : Nat := 0
  /-- DciDigest (R451; reset empty, which reads as zeros). -/
  digest : List Byte := []
  /-- VERSION_STRING (R451; reset empty, which reads as zeros). -/
  version : List Byte := []
  /-- The open lower tree, none while one is being opened or none is left (R460; reset none). -/
  tree : Option Nat := Option.none
  /-- Next index q (R458; reset 0). -/
  q : Nat := 0
  /-- RESERVED_TO of the last durable record (R459; reset 0). -/
  reservedTo : Nat := 0
  /-- The tree being opened (R460; reset none). -/
  opening : Option Nat := Option.none
  /-- True while a reservation record is being programmed (R459; reset false). -/
  reserving : Bool := false
  /-- True once tree 1,023 is exhausted (R462; reset false). -/
  exhausted : Bool := false
  /-- True once SIGNATURES_LOW has been raised (R462; reset false). -/
  lowRaised : Bool := false
  /-- Signatures the rate allows at once (R461; reset 64, SignBurst). -/
  allowance : Nat := 64
  /-- Requests that wait for a signature, oldest first (R461; reset none). -/
  waits : List SignWait := []
  /-- Secured sessions by session ID (R467; reset empty). -/
  sessions : Map SecSession := []
  /-- Responders by place code (R463; reset empty). -/
  responders : Map Responder := []
  /-- VALID Key Table entries (R472; reset empty). -/
  keys : Map KeyEntry := []
  /-- Link keys by port × 4 + protocol × 2 + direction (R470; reset empty). -/
  ide : Map IdeKeys := []
  /-- DebugState: 0 locked, 1 unlocked, 2 closed (R486; reset 0). -/
  debug : Nat := 0
  /-- The challenge in force (R486; reset none). -/
  challenge : Option (List Byte) := Option.none
  /-- True once debug was unlocked since the start (R487; reset false). -/
  wasUnlocked : Bool := false
  /-- Draws made from the entropy source (R465, R486; reset 0). -/
  draws : Nat := 0
  deriving DecidableEq, Repr

/-- A TABLE object (R536, R537). -/
structure TableObj where
  kind : Nat := 0
  /-- Access code 1 RO, 2 RW, 3 RWP. -/
  access : Nat := 2
  rowBytes : Nat := 8
  rows : Nat := 0
  /-- OWNER_BIT; 0xFFFF none. -/
  ownerBit : Nat := 65535
  version : Nat := 0
  /-- Rows that differ from `fill`, each a little-endian number. -/
  data : Map Nat := []
  /-- The value of every other row. -/
  fill : Nat := 0
  deriving DecidableEq, Repr, Inhabited

/-- An open block transfer (R531). -/
structure Xfer where
  road : Road
  index : Nat
  total : Nat
  version : Nat
  /-- Staged rows of a table. -/
  rows : Map Nat
  /-- Bytes of an image received so far. -/
  image : List Byte
  /-- True until the slot's erase ends (R532). -/
  erasing : Bool
  /-- The TAG of a COMMIT that waits for verification (R532). -/
  verifying : Option Nat
  deriving DecidableEq, Repr

/-- A READ snapshot (R525). -/
structure Snapshot where
  road : Road
  index : Nat
  sub : Nat
  bytes : List Byte
  deriving DecidableEq, Repr

/-- A write whose flash program runs (R530). -/
structure PersistJob where
  road : Road
  op : Nat
  tag : Nat
  index : Nat
  sub : Nat
  xfer : Nat
  /-- False for a record of the device's own, which answers no road. -/
  answers : Bool
  rec_ : PersistRec
  deriving DecidableEq, Repr

/-- A message of the object dictionary, by its operation (Table 15-3). -/
inductive OdMsg where
  | read (tag index sub ctx offset length : Nat)
  | write (secured : Bool) (tag index sub ctx : Nat) (bytes : List Byte)
  | describe (tag index sub : Nat)
  | open_ (tag index sub total : Nat)
  | data (tag xfer offset : Nat) (bytes : List Byte)
  | commit (tag xfer : Nat)
  | abort (tag xfer : Nat)
  /-- A write of DebugToken: the scope and the signature (R486). -/
  | token (scope : Nat) (signature : List Byte)
  /-- A write of SvnCommit, with how the burn ends (R454). -/
  | svn (secured : Bool) (value : Nat) (burned : Bool)
  /-- An operation that Table 15-3 reserves. -/
  | other (op index sub xfer offset : Nat)
  deriving DecidableEq, Repr

/-- The object dictionary. -/
structure Dict where
  /-- Scalar and blob objects that software writes, by index × 256 + sub, where they differ from their Default (R528; reset empty). -/
  vals : Map Nat := []
  /-- The registration objects of 0x2A10, by partition × 256 + sub, where they differ from their Default (R228; reset empty). -/
  regVals : Map Nat := []
  /-- Diag selectors by road code × 2^24 + index × 256 + sub (R526; reset empty). -/
  diag : Map Nat := []
  /-- Snapshots held (R525; reset none). -/
  snapshots : List Snapshot := []
  /-- Open transfers by XFER_ID (R531; reset empty). -/
  xfers : Map Xfer := []
  /-- Persisted writes whose program runs, oldest first (R530; reset none). -/
  persisting : List PersistJob := []
  /-- TABLE objects by index (R536; reset empty: no image has been loaded). -/
  tables : Map TableObj := []
  /-- OD messages that wait at their endpoint for the response in progress on their road, oldest first (R524; reset none). -/
  waits : List (Road × OdMsg) := []
  /-- The I3C dynamic address (R519; reset none). -/
  i3c : Option (BitVec 7) := Option.none
  deriving DecidableEq, Repr

/-- An event log entry, Table 15-13. -/
structure Event where
  code : Nat
  part : Option Nat
  seq : Nat
  calendar : Nat
  detail : Nat
  deriving DecidableEq, Repr

/-- An event log: two banks (R545). -/
structure EventLog where
  /-- The fill bank, newest first (R545; reset none). -/
  fill : List Event := []
  /-- The drain bank, oldest first (R545; reset none). -/
  drain : List Event := []
  seq : Nat := 0
  lost : Nat := 0
  /-- Entries lost since the last EVENTS_LOST entry. -/
  lostNow : Nat := 0
  deriving DecidableEq, Repr, Inhabited

/-- A light-meter sample, Table 15-15. -/
structure Sample where
  time : Nat
  probe : Nat
  absent : Bool
  value : Nat
  deriving DecidableEq, Repr

/-- The event logs and the light meter. -/
structure Logs where
  /-- Logs by partition, the fabric manager's at 64; absent as at reset (R543; reset empty). -/
  events : Map EventLog := []
  /-- The light meter's fill bank, newest first (R546; reset none). -/
  lmFill : List Sample := []
  /-- The light meter's drain bank, oldest first (R546; reset none). -/
  lmDrain : List Sample := []
  /-- LmLost (R546; reset 0). -/
  lmLost : Nat := 0
  /-- Partitions for which a tier event has been raised since they last became FREE (Table 9-8; reset none). -/
  tierEvents : List Nat := []
  deriving DecidableEq, Repr

/-- Pins, rails, sensors and derating. -/
structure Package where
  /-- Rails out of their window (R556; reset none). -/
  railsBad : List Nat := []
  /-- GRST# low after filtering (R551; reset false). -/
  grst : Bool := false
  /-- The hottest reading of each of 24 dies in 0.1 °C (R558; reset none. DESIGN CHOICE; log entry 73). -/
  temps : List Int := []
  /-- The hottest DIMM in 0.1 °C (R559; reset 0. DESIGN CHOICE; log entry 73). -/
  dimm : Int := 0
  /-- Rail powers in mW (R564; reset none. DESIGN CHOICE; log entry 73). -/
  rails : List Nat := []
  /-- f_c, f_r, f_b and f_p in per mille (R559, R560; reset 1,000 each). -/
  fc : Nat := 1000
  fr : Nat := 1000
  fb : Nat := 1000
  fp : Nat := 1000
  /-- True while derating lasts (R561; reset false). -/
  derating : Bool := false
  /-- Sensors failed, by die × 16 + sensor (R558; reset none). -/
  sensorsFailed : List Nat := []
  /-- THERMTRIP_N driven low (R562; reset false). -/
  thermtrip : Bool := false
  /-- ALERT_N driven low (R561; reset false). -/
  alert : Bool := false
  /-- True once the hottest die has been below 40 °C (R542; reset true. DESIGN CHOICE; log entry 73). -/
  cool : Bool := true
  /-- The TAP's instruction (R563; reset IDCODE. PRESUMED: Test-Logic-Reset of IEEE 1149.1; log entry 72). -/
  jtag : JtagInstr := .idcode
  deriving DecidableEq, Repr

/-- Counters. -/
structure Counters where
  /-- U64 counters by index × 256 + sub; absent is 0 (R93 and the counter rules of each chapter; reset empty). -/
  vals : Map Nat := []
  /-- Lifetime objects by subindex, and TempBandHours by 256 + 8 × die + band; bytes in place of MiB, and hours of a band in µs
  (R542; reset StartAttempts 1, all else 0). -/
  life : Map Nat := []
  deriving DecidableEq, Repr

/-- The state of the block. -/
structure State where
  /-- Commands that wait, first in first out; the model's own (reset empty). -/
  pending : List Instr
  /-- How many free values have been used; the model's own (reset 0). -/
  fresh : Nat
  /-- What has gone out, newest first; the model's own (reset none). -/
  out : List Emission
  time : Time
  start : Start
  fuses : Fuses
  flash : Flash
  sec : Security
  od : Dict
  ctr : Counters
  logs : Logs
  tier : Tiers
  und : Underlay
  sess : Sessions
  codec : Codec
  cmp : Compute
  queue : Queues
  share : Shares
  link : Links
  dram : Dram
  regul : Regulator
  pkg : Package
  deriving DecidableEq, Repr

/-- The block right after a power-on reset, as S1 begins (R506, R508). -/
def State.reset : State :=
  { pending := [], fresh := 0, out := []
    time := {}, start := {}, fuses := {}, flash := {}, sec := {}, od := {}, ctr := { life := [(4, 1)] }, logs := {}
    tier := {}, und := {}, sess := {}, codec := {}, cmp := {}, queue := {}, share := {}, link := {}
    dram := {}, regul := {}, pkg := {} }

/-- Reasons for which a step could stop with a fault. No meaning of this model answers one: the manual
gives every command an effect or lets it do nothing (safe). -/
inductive Fault where
  /-- Raised by no command; it stands so that the type is not empty (safe). -/
  | unreachable
  deriving DecidableEq, Repr

/-- Reasons for which a command could be refused. -/
inductive Refusal where
  /-- The command has no meaning in the model yet; raised by Dispatch alone (safe). -/
  | notModelled (mnemonic : String)
  deriving DecidableEq, Repr

/-- The state with `pending` replaced. -/
def State.setPending (s : State) (x : List Instr) : State := { s with pending := x }

/-- The state with `fresh` replaced. -/
def State.setFresh (s : State) (x : Nat) : State := { s with fresh := x }

/-- The state with `out` replaced. -/
def State.setOut (s : State) (x : List Emission) : State := { s with out := x }

/-- The state with `time` replaced. -/
def State.setTime (s : State) (x : Time) : State := { s with time := x }

/-- The state with `start` replaced. -/
def State.setStart (s : State) (x : Start) : State := { s with start := x }

/-- The state with `fuses` replaced. -/
def State.setFuses (s : State) (x : Fuses) : State := { s with fuses := x }

/-- The state with `flash` replaced. -/
def State.setFlash (s : State) (x : Flash) : State := { s with flash := x }

/-- The state with `sec` replaced. -/
def State.setSec (s : State) (x : Security) : State := { s with sec := x }

/-- The state with `od` replaced. -/
def State.setOd (s : State) (x : Dict) : State := { s with od := x }

/-- The state with `ctr` replaced. -/
def State.setCtr (s : State) (x : Counters) : State := { s with ctr := x }

/-- The state with `logs` replaced. -/
def State.setLogs (s : State) (x : Logs) : State := { s with logs := x }

/-- The state with `tier` replaced. -/
def State.setTier (s : State) (x : Tiers) : State := { s with tier := x }

/-- The state with `und` replaced. -/
def State.setUnd (s : State) (x : Underlay) : State := { s with und := x }

/-- The state with `sess` replaced. -/
def State.setSess (s : State) (x : Sessions) : State := { s with sess := x }

/-- The state with `codec` replaced. -/
def State.setCodec (s : State) (x : Codec) : State := { s with codec := x }

/-- The state with `cmp` replaced. -/
def State.setCmp (s : State) (x : Compute) : State := { s with cmp := x }

/-- The state with `queue` replaced. -/
def State.setQueue (s : State) (x : Queues) : State := { s with queue := x }

/-- The state with `share` replaced. -/
def State.setShare (s : State) (x : Shares) : State := { s with share := x }

/-- The state with `link` replaced. -/
def State.setLink (s : State) (x : Links) : State := { s with link := x }

/-- The state with `dram` replaced. -/
def State.setDram (s : State) (x : Dram) : State := { s with dram := x }

/-- The state with `regul` replaced. -/
def State.setRegul (s : State) (x : Regulator) : State := { s with regul := x }

/-- The state with `pkg` replaced. -/
def State.setPkg (s : State) (x : Package) : State := { s with pkg := x }

end Sys2Proof.Machine
end

