-- ==== Sys2Proof/Machine/Ops.lean ====
section
/-! DEFINITION. The named operations that every chapter uses: outputs, free values, counters, events,
scalar objects, table rows, partitions, and the Host Identity and Range Table look-ups. -/

namespace Sys2Proof.Machine

open Sys2Proof

/-! ### Outputs, free values, time -/

/-- Something goes out. -/
def emit (k : Out) (args : List Nat) (data : List Byte) (s : State) : State :=
  s.setOut (⟨k, args, data⟩ :: s.out)

/-- The free value in turn (log entry 1). -/
def freeValue (s : State) : Nat := Config.freeNat s.fresh

/-- The state after the free value in turn has been used. (DESIGN CHOICE, log entry 1.) -/
def used (s : State) : State := s.setFresh (s.fresh + 1)

/-- The calendar in ms (R110). -/
def calMs (s : State) : Nat := s.time.calUs / 1000

/-- µs since start. -/
def nowUs (s : State) : Nat := s.time.us

/-- True in S4. -/
def isLit (s : State) : Bool := s.start.stage == .lit

/-! ### Counters and events -/

/-- A counter's value (R93). -/
def counter (s : State) (index sub : Nat) : Nat := MapOps.getD (index * 256 + sub) 0 s.ctr.vals

/-- Adds to a U64 counter. -/
def countBy (index sub n : Nat) (s : State) : State :=
  s.setCtr { s.ctr with vals := MapOps.put (index * 256 + sub) 0 ((counter s index sub + n) % two64) s.ctr.vals }

/-- Adds 1 to a counter. -/
def count (index sub : Nat) (s : State) : State := countBy index sub 1 s

/-- Adds 1 to a partition's counter: subindex p + 1. -/
def countFor (index part : Nat) (s : State) : State := countBy index (part + 1) 1 s

/-- Raises a counter that keeps a largest value. -/
def countMax (index sub v : Nat) (s : State) : State :=
  if counter s index sub < v then
    s.setCtr { s.ctr with vals := MapOps.insert (index * 256 + sub) v s.ctr.vals } else s

/-- A lifetime object's value (R542). -/
def life (s : State) (sub : Nat) : Nat := MapOps.getD sub 0 s.ctr.life

/-- Adds to a lifetime object. -/
def lifeBy (sub n : Nat) (s : State) : State :=
  s.setCtr { s.ctr with life := MapOps.put sub 0 (life s sub + n) s.ctr.life }

/-- An event log's key: a partition, or 64 for the fabric manager. -/
def logOf (s : State) (key : Nat) : EventLog := MapOps.getD key {} s.logs.events

/-- Enters an event in a log's fill bank; a full bank loses it (R545). (DEDUCED, log entry 59.) -/
def EventLog.enter (l : EventLog) (code : Nat) (part : Option Nat) (cal detail : Nat) : EventLog :=
  if l.fill.length < 1024 then
    { l with fill := ⟨code, part, (l.seq + 1) % 2 ^ 32, cal, detail⟩ :: l.fill, seq := l.seq + 1 }
  else { l with seq := l.seq + 1, lost := l.lost + 1, lostNow := l.lostNow + 1 }

/-- Exchanges a log's banks; a loss makes EVENTS_LOST the new bank's first entry (R545). -/
def EventLog.swap (l : EventLog) (part : Option Nat) (cal : Nat) : EventLog :=
  let l' := { l with fill := [], drain := l.fill.reverse, lostNow := 0 }
  if l.lostNow == 0 then l' else l'.enter 0x0F01 part cal l.lostNow

/-- Enters an event in one log of the state. -/
def enterLog (key code : Nat) (part : Option Nat) (detail : Nat) (s : State) : State :=
  s.setLogs { s.logs with events := MapOps.insert key ((logOf s key).enter code part (calMs s) detail) s.logs.events }

/-! ### Scalar objects, tables and rows -/

/-- The value of a scalar object that software writes, from its Default where nothing was written. -/
def scalar (s : State) (index sub dflt : Nat) : Nat := MapOps.getD (index * 256 + sub) dflt s.od.vals

/-- Gives a scalar object a value. -/
def setScalar (index sub v : Nat) (s : State) : State :=
  s.setOd { s.od with vals := MapOps.insert (index * 256 + sub) v s.od.vals }

/-- A registration object of a partition (R228). -/
def regObj (s : State) (part sub dflt : Nat) : Nat := MapOps.getD (part * 256 + sub) dflt s.od.regVals

/-- Gives a registration object of a partition a value. -/
def setRegObj (part sub v : Nat) (s : State) : State :=
  s.setOd { s.od with regVals := MapOps.insert (part * 256 + sub) v s.od.regVals }

/-- The header and rows that a TABLE object has before anything is written to it: the three partition
tables (R298, R299, R301) and the tables whose Default the manual gives row by row (R107, R219, R433, R559, R560). -/
def builtinTable (index : Nat) : TableObj :=
  if index == 0x2110 then { rowBytes := 8, rows := 4096 }
  else if index == 0x2120 then { rowBytes := 16, rows := 8192 }
  else if index == 0x2130 then { rowBytes := 32, rows := 512 }
  else if index == 0x5030 then
    { access := 3, rowBytes := 32, rows := 16
      fill := 10 + put 120 32 32 + put 1800 32 64 + put 2 2 128 + put 1 2 131 }
  else if index == 0x5053 then { access := 3, rows := 64, fill := put 36 6 6 + put 15 4 12 + put 1000 16 16 }
  else if index == 0x5070 then { access := 3, rowBytes := 16, rows := 130, fill := 99 }
  else if index == 0x5080 then
    { kind := 1, access := 3, rows := 64
      data := [(0, 950 + put 1000 32 32), (1, 1050 + put 500 32 32), (2, 1100 + put 100 32 32)] }
  else if index == 0x5081 then
    { kind := 1, access := 3, rows := 64, data := [(0, 950 + put 1000 32 32), (1, 1050 + put 600 32 32)] }
  else if index == 0x5082 then
    { kind := 1, access := 3, rows := 64, data := [(0, 850 + put 1000 32 32), (1, 950 + put 500 32 32)] }
  else if index == 0x5083 then
    { access := 3, rowBytes := 16, rows := 1, fill := 1700 + put 10 16 16 + put 50 10 32 + put 100 10 42 }
  else {}

/-- A TABLE object of the state. -/
def tableOf (s : State) (index : Nat) : TableObj := MapOps.getD index (builtinTable index) s.od.tables

/-- A row of a TABLE object. -/
def TableObj.row (t : TableObj) (n : Nat) : Nat := MapOps.getD n t.fill t.data

/-- A TABLE object with one row replaced. -/
def TableObj.setRow (t : TableObj) (n v : Nat) : TableObj := { t with data := MapOps.put n t.fill v t.data }

/-- A row of a table of the state. -/
def tableRow (s : State) (index n : Nat) : Nat := (tableOf s index).row n

/-- Replaces a table of the state. -/
def setTable (index : Nat) (t : TableObj) (s : State) : State :=
  s.setOd { s.od with tables := MapOps.insert index t s.od.tables }

/-- Replaces a row of a table, without advancing VERSION. -/
def setTableRow (index n v : Nat) (s : State) : State := setTable index ((tableOf s index).setRow n v) s

/-- Advances a table's VERSION (R534). -/
def bumpVersion (index : Nat) (s : State) : State :=
  setTable index { tableOf s index with version := ((tableOf s index).version + 1) % 2 ^ 32 } s

/-! ### Partitions -/

/-- The 16 B entry of a partition (Table 8-1). -/
def partEntry (s : State) (p : Nat) : Nat := scalar s 0x2101 (p + 1) 0

/-- STATE of a partition: 0 FREE, 1 ASSIGNED, 2 SCRUBBING. -/
def partState (s : State) (p : Nat) : Nat := field (partEntry s p) 1 0

/-- LD_MASK of a partition. -/
def ldMask (s : State) (p : Nat) : Nat := field (partEntry s p) 127 64

/-- The partition to which an LD is bound (R332). -/
def ldPart (s : State) (port ld : Nat) : Option Nat :=
  (List.range 64).find? fun p => bitAt (ldMask s p) (16 * port + ld)

/-- The LDs of a partition, as port × 16 + LD. -/
def ldsOf (s : State) (p : Nat) : List Nat := (List.range 64).filter fun i => bitAt (ldMask s p) i

/-- Raises an event: in the fabric manager's log, in the named partition's log while it is not FREE, and in
every such log for sources 0x0E and 0x10 that name none (R543). (DEDUCED, log entry 59.) -/
def raise (code : Nat) (part : Option Nat) (detail : Nat) (s : State) : State :=
  let s1 := enterLog 64 code part detail s
  match part with
  | some p =>
    let s2 := if code / 256 == 2 then s1.setLogs { s1.logs with tierEvents := setInsert p s1.logs.tierEvents } else s1
    if partState s p == 0 then s2 else enterLog p code part detail s2
  | none =>
    if code / 256 == 0x0E || code / 256 == 0x10 then
      ((List.range 64).filter fun p => partState s p != 0).foldl (fun t p => enterLog p code none detail t) s1
    else s1

/-- Raises an event once for each partition of a list. -/
def raiseEach (code : Nat) (parts : List Nat) (detail : Nat) (s : State) : State :=
  parts.foldl (fun t p => raise code (some p) detail t) s

/-! ### The Range Table and the Host Identity Table -/

/-- A Range Table row is VALID (Table 8-3). -/
def rtValid (r : Nat) : Bool := bitAt r 0
def rtDraining (r : Nat) : Bool := bitAt r 1
def rtRead (r : Nat) : Bool := bitAt r 2
def rtWrite (r : Nat) : Bool := bitAt r 3
def rtKeyValid (r : Nat) : Bool := bitAt r 4
def rtKey (r : Nat) : Nat := field r 16 5
def rtPart (r : Nat) : Nat := field r 22 17
def rtLocks (r : Nat) : Nat := field r 30 23
def rtDpaFirst (r : Nat) : Nat := field r 62 32
def rtDevFirst (r : Nat) : Nat := field r 91 64
def rtExtents (r : Nat) : Nat := field r 123 96

/-- A Range Table row covers a DPA extent of a partition. -/
def rtCovers (r part ext : Nat) : Bool :=
  rtValid r && rtPart r == part && rtDpaFirst r ≤ ext && ext < rtDpaFirst r + rtExtents r

/-- A Range Table row covers a device extent. -/
def rtHolds (r dev : Nat) : Bool := rtValid r && rtDevFirst r ≤ dev && dev < rtDevFirst r + rtExtents r

/-- The rows of the Range Table that are not zero, by row number. -/
def rtRows (s : State) : Map Nat := (tableOf s 0x2120).data

/-- The VALID row, not DRAINING, that maps a DPA extent of a partition, with its number. -/
def rtFind (s : State) (part ext : Nat) : Option (Nat × Nat) :=
  (rtRows s).find? fun p => rtCovers p.2 part ext && ! rtDraining p.2

/-- The status of naming a DPA extent that is not mapped: REVOKED while a revoke drains it (R323), else UNMAPPED. -/
def goneStatus (s : State) (part ext : Nat) : Nat :=
  if (rtRows s).any fun p => rtCovers p.2 part ext && rtDraining p.2 then 0x13 else 0x12

/-- The device extent that a DPA extent of a partition maps to (R23 step 3). -/
def devOf (s : State) (part ext : Nat) : Option Nat :=
  (rtFind s part ext).map fun p => rtDevFirst p.2 + (ext - rtDpaFirst p.2)

/-- The DPA extent at which a partition maps a device extent. -/
def dpaExtOf (s : State) (part dev : Nat) : Option Nat :=
  ((rtRows s).find? fun p => rtPart p.2 == part && rtHolds p.2 dev).map fun p =>
    rtDpaFirst p.2 + (dev - rtDevFirst p.2)

/-- The partitions that map a device extent, ascending. -/
def mappers (s : State) (dev : Nat) : List Nat :=
  (List.range 64).filter fun q => (rtRows s).any fun p => rtPart p.2 == q && rtHolds p.2 dev

/-- Reads allowed on a DPA extent of a partition (R304 step 4). -/
def canRead (s : State) (part ext : Nat) : Bool :=
  match rtFind s part ext with | some (_, r) => rtRead r | none => false

/-- Writes allowed on a DPA extent of a partition: WRITE = 1 and LOCKS = 0 (R304 step 4). -/
def canWrite (s : State) (part ext : Nat) : Bool :=
  match rtFind s part ext with | some (_, r) => rtWrite r && rtLocks r == 0 | none => false

/-- The Key Table entry of a DPA extent's protected region (R299). -/
def keyOf (s : State) (part ext : Nat) : Option Nat :=
  match rtFind s part ext with | some (_, r) => if rtKeyValid r then some (rtKey r) else none | none => none

/-- The Host Identity Table row that matches a request (R298, Table 8-2). -/
def hitFind (s : State) (port ld spid : Nat) : Option Nat :=
  ((tableOf s 0x2110).data.find? fun p =>
    bitAt p.2 0 && field p.2 2 1 == port && field p.2 6 3 == ld && field p.2 19 8 == spid).map (·.2)

/-- The requester's partition by steps 1 and 2 of R304, for CXL.mem (mem) or CXL.io requests. -/
def requester (s : State) (port ld spid : Nat) (mem : Bool) : Option Nat :=
  match hitFind s port ld spid with
  | some r => if (if mem then bitAt r 26 else bitAt r 27) && partState s (field r 25 20) == 1
              then some (field r 25 20) else none
  | none => none

/-- The VALID share row that covers a device extent, with its number (Table 8-4). -/
def shareFind (s : State) (dev : Nat) : Option (Nat × Nat) :=
  (tableOf s 0x2130).data.find? fun p =>
    bitAt p.2 0 && field p.2 35 8 ≤ dev && dev < field p.2 35 8 + field p.2 63 36

/-- The partition written into an extent's map entry and TDEs: the share row's OWNER, or the one that
maps it (R301). -/
def ownerOf (s : State) (dev : Nat) : Nat :=
  match shareFind s dev with
  | some (_, r) => field r 6 1
  | none => (mappers s dev).headD 0

/-! ### Link encryption (R470, R471) -/

/-- IDE is active on a protocol of a port (0 CXL.io, 1 CXL.mem): both directions have a key set in use. -/
def ideActive (s : State) (port proto : Nat) : Bool :=
  [0, 1].all fun d => (MapOps.getD (4 * port + 2 * proto + d) {} s.sec.ide).active.isSome

/-- A port must refuse a protocol's requests for want of IDE (R471). -/
def ideRefuses (s : State) (port proto : Nat) : Bool :=
  bitAt (scalar s 0x2800 0x11 0) port && ! ideActive s port proto

/-- Which of several lists' members appear once, in order. -/
def dedup (l : List Nat) : List Nat := l.foldl (fun acc x => if acc.contains x then acc else acc ++ [x]) []

end Sys2Proof.Machine
end

