-- ==== Sys2Proof/Machine/RegulOps.lean ====
section
/-! DEFINITION. Charges, budgets in force, congestion, DevLoad and the guaranteeable figures (chapter 12). -/

namespace Sys2Proof.Machine

open Sys2Proof

/-- The master of BACKGROUND work (Table 12-1). (DEDUCED, log entry 43.) -/
def backgroundMaster : Nat := 130

/-- A controller's data: BCHn at n, HSm at 16 + m. -/
def ctlOf (s : State) (n : Nat) : DramCtl := MapOps.getD n {} s.dram.ctls

/-- BCHn is trained and in use: its controller is, and its MD's Batten has not failed (R87). -/
def channelInUse (s : State) (n : Nat) : Bool :=
  (ctlOf s n).state == 1 && ! bitAt s.tier.battenDown.toNat (n / 2)

/-- HSm is in use. -/
def stackInUse (s : State) (m : Nat) : Bool := (ctlOf s (16 + m)).state == 1

/-- Channels in use. -/
def channelsInUse (s : State) : Nat := ((List.range 16).filter (channelInUse s)).length

/-- Stacks in use. -/
def stacksInUse (s : State) : Nat := ((List.range 8).filter (stackInUse s)).length

/-- Underlay channels populated and not in use (R423, R424). -/
def underlayOffline (s : State) : Nat := (s.und.channels.filter fun p => p.2 == 2 || p.2 == 3).length

/-- The current rate of a tier in MB/s (R440), by tier code. -/
def tierRate (s : State) (t : Nat) : Nat :=
  if t == 0 then 819200 * stacksInUse s * s.pkg.fr / 1000
  else if t == 1 then s.dram.rate * 8 * channelsInUse s * s.pkg.fb / 1000
  else if s.und.state == 0 || s.und.state == 5 then 0 else (15 - underlayOffline s) * s.und.rate

/-- Pct_T of R440. -/
def tierPct (s : State) (t : Nat) : Nat :=
  if t == 0 then scalar s 0x2500 5 80 else if t == 1 then scalar s 0x2500 6 70 else scalar s 0x2500 7 60

/-- The trained raw rate of a port in one direction, in MB/s: 2, 4 or 8 GB/s a lane. -/
def portRate (s : State) (p : Nat) : Nat :=
  let q := MapOps.getD p {} s.link.ports
  if q.up && q.rate != 0 then q.width * 1000 * 2 ^ q.rate else 0

/-- The seven figures of R440. (DEDUCED, log entry 69.) -/
def guaranteeable (s : State) : List Nat :=
  ((List.range 3).map fun t => tierRate s t * (tierPct s t - 2) / 100)
    ++ (List.range 4).map fun p => portRate s p * scalar s 0x2500 8 80 / 100

/-- A budget row of Table 12-2. -/
def budgetRow (s : State) (m : Nat) : Nat := tableRow s 0x5070 m

/-- A window's length in µs. -/
def rowWindow (r : Nat) : Nat := field r 9 0 + 1

/-- A row's configured budget in a tier. -/
def rowBudget (r t : Nat) : Nat := field r (63 + 32 * t) (32 + 32 * t)

/-- A row's guarantee bit in a tier. -/
def rowGuaranteed (r t : Nat) : Bool := bitAt r (10 + t)

/-- The sum of two fractions of naturals, each a numerator and a denominator. -/
def addFrac (a b : Nat × Nat) : Nat × Nat :=
  let n := a.1 * b.2 + b.1 * a.2
  let d := a.2 * b.2
  let g := Nat.gcd n d
  if g == 0 then (n, d) else (n / g, d / g)

/-- A row's guaranteed rate in a tier, B × 64 ÷ W in MB/s (R441). -/
def rowRate (r t : Nat) : Nat × Nat := if rowGuaranteed r t then (rowBudget r t * 64, rowWindow r) else (0, 1)

/-- The sum of a tier's guaranteed rates, S_T. -/
def guaranteedSum (tb : TableObj) (t : Nat) : Nat × Nat :=
  (List.range 130).foldl (fun a m => if rowGuaranteed (tb.row m) t then addFrac a (rowRate (tb.row m) t) else a) (0, 1)

/-- The ports on which a partition's LDs lie. -/
def portsOf (s : State) (p : Nat) : List Nat := dedup ((ldsOf s p).map (· / 16))

/-- The guaranteed sum of a port under R441: each PARTITION master's rates over the three tiers, in equal parts. -/
def portSum (s : State) (tb : TableObj) (port : Nat) : Nat × Nat :=
  (List.range 64).foldl (fun a p =>
    let ports := portsOf s p
    if ports.contains port then
      let r := (List.range 3).foldl (fun b t => addFrac b (rowRate (tb.row p) t)) (0, 1)
      addFrac a (r.1, r.2 * ports.length)
    else a) (0, 1)

/-- The budget in force of a master in a tier (R433, R442). -/
def budgetInForce (s : State) (m t : Nat) : Nat :=
  if m == backgroundMaster then tierRate s t / 32
  else
    let b := rowBudget (budgetRow s m) t
    match MapOps.get? t s.regul.scaled with
    | some (n, d) => if b == 0 then 0 else max 1 (b * n / d)
    | none => b

/-- The charge count of a master in a tier (R434). -/
def chargeOf (s : State) (m t : Nat) : Nat := MapOps.getD (m * 4 + t) 0 s.regul.charges

/-- Charges a master in a tier (R432). -/
def charge (m t n : Nat) (s : State) : State :=
  s.setRegul { s.regul with charges := MapOps.put (m * 4 + t) 0 (chargeOf s m t + n) s.regul.charges }

/-- Charges the tier of a home, by its code; code 3 charges nothing. -/
def chargeTier (m : Nat) (t : Tier) (n : Nat) (s : State) : State :=
  match t with
  | .ridge => charge m 0 n s
  | .batten => charge m 1 n s
  | .underlay => charge m 2 n s
  | .none => s

/-- Over budget in a tier (R434). -/
def overBudget (s : State) (m t : Nat) : Bool := budgetInForce s m t ≤ chargeOf s m t

/-- A tier is congested (R436). -/
def congested (s : State) (t : Nat) : Bool := s.regul.congested.contains t

/-- A calibration item runs, or waits for the end of a self-refresh: other background work yields to it (R371, R437). -/
def calibrating (s : State) : Bool :=
  s.dram.ctls.any fun q => ! q.2.calDue.isEmpty || q.2.blocked.any fun b => decide (nowUs s < b.2.2)

/-- An admission point holds the master (R437). BACKGROUND is judged only in tiers that have a rate. (DEDUCED, log entry 43.) -/
def heldMaster (s : State) (m : Nat) : Bool :=
  ((List.range 3).any fun t =>
    if m == backgroundMaster then tierRate s t != 0 && overBudget s m t else overBudget s m t && congested s t)
  || (m == backgroundMaster && calibrating s)

/-! ### Figures and acceptance (R435, R440 to R442) -/

/-- A budget table may be accepted against the figures in force (R435, R441): MB/s that no row reserves, GUAR bits on
budgets, and reserved fields clear. -/
def budgetOk (s : State) (tb : TableObj) : Bool :=
  (List.range 130).all (fun m => field (tb.row m) 31 13 == 0
    && (List.range 3).all fun t => ! rowGuaranteed (tb.row m) t || rowBudget (tb.row m) t != 0)
  && (List.range 3).all (fun t =>
    let x := guaranteedSum tb t
    decide (x.1 ≤ s.regul.figures.getD t 0 * x.2))
  && (List.range 4).all fun p =>
    let x := portSum s tb p
    decide (x.1 ≤ s.regul.figures.getD (3 + p) 0 * x.2)

/-- The partition that a master acts for. (DEDUCED, log entry 43.) -/
def masterPart (m : Nat) : Option Nat := if m < 64 then some m else if m < 128 then some (m - 64) else none

/-- Partitions with a guaranteed budget in a tier, ascending. -/
def guaranteedParts (s : State) (t : Nat) : List Nat :=
  (dedup (((List.range 130).filter fun m => rowGuaranteed (budgetRow s m) t).filterMap masterPart)).mergeSort (· ≤ ·)

/-- Scales or restores a tier's budgets by its figure (R442). (DEDUCED, log entry 69.) -/
def rescale (t : Nat) (s : State) : State :=
  let x := guaranteedSum (tableOf s 0x5070) t
  let g := (guaranteeable s).getD t 0
  let was := MapOps.get? t s.regul.scaled
  if g * x.2 < x.1 then
    let now := (g * x.2, x.1)
    if was == some now then s
    else
      raiseEach 0x0C01 (guaranteedParts s t) (t + 256 * (1000 * g * x.2 / x.1))
        (count 0x30C0 4 (s.setRegul { s.regul with scaled := MapOps.insert t now s.regul.scaled }))
  else if was.isSome then
    raiseEach 0x0C02 (guaranteedParts s t) t (s.setRegul { s.regul with scaled := MapOps.erase t s.regul.scaled })
  else s

/-- A port whose figure has fallen below its guaranteed sum (R442). -/
def judgePort (p : Nat) (s : State) : State :=
  let x := portSum s (tableOf s 0x5070) p
  let g := (guaranteeable s).getD (3 + p) 0
  if g * x.2 < x.1 && g < s.regul.figures.getD (3 + p) 0 then raise 0x0C03 none p s else s

/-- Recomputes every figure, and scales and restores by them (R440, R442). (DEDUCED, log entry 69.) -/
def recompute (s : State) : State :=
  let s1 := (List.range 4).foldl (fun u p => judgePort p u) ((List.range 3).foldl (fun u t => rescale t u) s)
  s1.setRegul { s1.regul with figures := guaranteeable s }

/-- A budget table has been accepted: all windows begin together (R434, R435). -/
def budgetsAccepted (s : State) : State :=
  recompute (s.setRegul { s.regul with charges := [], began := (List.range 131).map fun m => (m, nowUs s) })

/-- A superblock. -/
def sbOf (s : State) (n : Nat) : Superblock := MapOps.getD n {} s.und.superblocks

/-- Chunks of a row: 120, or 112 in a superblock opened with a channel offline (R401, R424). -/
def rowChunks (b : Superblock) : Nat := if b.offline.isSome then 112 else 120

/-- The channel of a row's parity page (R400, R424). -/
def parityChannel (s : State) (sb row : Nat) : Nat :=
  match (sbOf s sb).offline with
  | none => (sb + row) % 16
  | some q => ((List.range 16).filter (· != q)).getD ((sb + row) % 15) 0

/-- The channel that holds chunk j of a row (R400, R401, R424). -/
def chunkChannel (s : State) (sb row j : Nat) : Nat :=
  match (sbOf s sb).offline with
  | none => (parityChannel s sb row + 1 + j % 15) % 16
  | some q =>
    let c := (List.range 16).filter (· != q)
    c.getD (((sb + row) % 15 + 1 + j % 14) % 15) 0

/-- The image chunks that an unpark reads for a tile: from its TILE_START to that of the next tile with blocks (R411). -/
def readChunks (e : Epr) (t : Nat) : List Nat :=
  let a := e.tileStart.getD t 2047
  if a == 2047 then []
  else
    let b := ((e.tileStart.drop (t + 1)).find? (· != 2047)).getD (e.chunks - 1)
    span a (b + 1 - a)

/-- The channels of a row (R400, R424). -/
def rowChannels (s : State) (sb : Nat) : List Nat :=
  match (sbOf s sb).offline with
  | none => List.range 16
  | some q => (List.range 16).filter (· != q)

/-- The chunk number of the first chunk of an image in its superblock (R403). -/
def imageStart (s : State) (e : Epr) : Nat := rowChunks (sbOf s e.superblock) * e.row + e.chunk

/-- The bytes of the image that an EPR names (R403, R405). -/
def imageAt (s : State) (number : Nat) : List Byte :=
  let e := MapOps.getD number {} s.und.eprs
  MapOps.getD (e.superblock * 2 ^ 24 + imageStart s e) [] s.und.images

/-- The chunks of an image's header and poison list (R403). -/
def headChunks (img : List Byte) : Nat := ceilDiv (1024 + 16 * field (ofBytes (img.take 12)) 89 80) 2048

/-- The pages that reading some chunks of an image takes, as row × 16 + channel: for a chunk on a channel that is not in use, those of the
row's other channels (R411, R412). -/
def chunkPages (s : State) (e : Epr) (cs : List Nat) : List Nat :=
  let pr := rowChunks (sbOf s e.superblock)
  let x := imageStart s e
  cs.foldl (fun l c =>
    let row := (x + c) / pr
    let ch := chunkChannel s e.superblock row ((x + c) % pr)
    if MapOps.getD ch 0 s.und.channels == 1 then setInsert (row * 16 + ch) l
    else ((rowChannels s e.superblock).filter (· != ch)).foldl (fun m q => setInsert (row * 16 + q) m) l) []

/-- The image chunks that a running unpark has still to read: those of the header and poison list, and of the tiles that have not landed
(R411). -/
def chunksToRead (s : State) (u : Unpark) : List Nat :=
  let e := MapOps.getD u.epr {} s.und.eprs
  (List.range (headChunks (imageAt s u.epr)) ++ u.remaining.flatMap fun k => readChunks e (k % 32)).filter fun c => ! u.read.contains c

/-- The pages that a running unpark has still to read. -/
def pagesToRead (s : State) (u : Unpark) : List Nat := chunkPages s (MapOps.getD u.epr {} s.und.eprs) (chunksToRead s u)

/-- A request of a master to a tier has waited in a controller queue since before its window began (R443): a forwarded host read of a
PARTITION master, or the page reads that a running unpark still owes. (DEDUCED, log entry 18.) -/
def waitedLong (s : State) (m t : Nat) : Bool :=
  let began := MapOps.getD m 0 s.regul.began
  if t == 2 then s.tier.unparks.any fun u => u.req.master == m && decide (u.sinceUs < began) && ! (pagesToRead s u).isEmpty
  else s.tier.reads.any fun r => r.req.part == m && r.tier == (if t == 0 then Tier.ridge else .batten) && decide (r.sinceUs < began)

/-- A window of a master is short in a tier (R443): its guaranteed budget is unspent while one of its requests has waited so. -/
def shortWindow (s : State) (m t : Nat) : Bool :=
  rowGuaranteed (budgetRow s m) t && decide (chargeOf s m t < budgetInForce s m t) && waitedLong s m t

/-- A master's window rolls over (R434, R443). -/
def rollover (m : Nat) (s : State) : State :=
  let n := ((List.range 3).filter (shortWindow s m)).length
  let s1 := match masterPart m with
    | some p => if n != 0 then countBy 0x30C4 (p + 1) n s else s
    | none => s
  s1.setRegul { s1.regul with
    charges := s1.regul.charges.filter (fun q => q.1 / 4 != m), began := MapOps.insert m (nowUs s) s1.regul.began }

/-- The operation slots in use of the ONFI controller of UCHn, of 64: page reads of unparks and of relocations on their way, EPR page
reads, page programs and erases (R436). (DEDUCED, log entry 68.) -/
def onfiSlots (s : State) (n : Nat) : Nat :=
  let on := fun (l : List Nat) => (l.filter fun p => p % 16 == n).length
  let reads := (s.tier.unparks.map fun u => on (pagesToRead s u)).sum
  let moved := (s.und.relocs.map fun r =>
    let e := MapOps.getD r.number {} s.und.eprs
    on (chunkPages s e (List.range e.chunks))).sum
  let eprs := (s.und.eprReads.filter fun e => 2 * e % 8 == n).length
  let programs := (s.und.rows.filter fun p => p.2.contains n).length
  let erases := (s.und.superblocks.map fun p => (p.2.erasing.filter fun k => k / 16 == n).length).sum
  min 64 (reads + moved + eprs + programs + erases)

/-- The level of a controller in percent (R436): UCHn is controller 24 + n. -/
def ctlLevel (s : State) (n : Nat) : Nat :=
  if n < 24 then (ctlOf s n).queue.length * 100 / (if n < 16 then 128 else 256) else onfiSlots s (n - 24) * 100 / 64

/-- The controllers of a tier. -/
def ctlsOf (t : Nat) : List Nat := if t == 0 then span 16 8 else if t == 1 then List.range 16 else span 24 16

/-- The fullest controller of a tier. -/
def tierLevel (s : State) (t : Nat) : Nat := (ctlsOf t).foldl (fun a n => max a (ctlLevel s n)) 0

/-- Decides congestion of each tier anew (R436). -/
def judge (s : State) : State :=
  let hi := scalar s 0x2500 1 75
  let lo := scalar s 0x2500 2 50
  let f := fun t => if tierLevel s t ≥ hi then true else congested s t && decide (tierLevel s t ≥ lo)
  s.setRegul { s.regul with congested := (List.range 3).filter f }

/-- The DevLoad of a partition for a response served by tier t (Table 12-4). -/
def devLoad (s : State) (part t : Nat) : Nat :=
  if scalar s 0x2500 4 0 == 1 then
    let b := budgetInForce s part t
    let c := chargeOf s part t
    if b == 0 then 1 else if 100 * c < 50 * b then 0 else if 100 * c < 75 * b then 1 else if c < b then 2 else 3
  else if congested s t then (if overBudget s part t then 3 else 2)
  else if tierLevel s t < scalar s 0x2500 2 50 then 0 else 1

end Sys2Proof.Machine
end

