-- ==== Sys2Proof/Machine/TierOps.lean ====
section
/-! DEFINITION. Memory, slots, the extent map, TDEs, sheet banks' counts, and what reading and writing a
sector or a block of a tile does to them (chapters 1, 2, 4 and 10). -/

namespace Sys2Proof.Machine

open Sys2Proof

/-! ### Memory in its canonical form -/

/-- A byte of Ridge or Batten; an unlisted byte is 0 (R480; DESIGN CHOICE, log entry 3). -/
def memAt (m : List Host.Cell) (a : Nat) : Byte := MapOps.getD a 0 m

/-- The cells of n bytes from an address. -/
def memRange (m : List Host.Cell) (a n : Nat) : List Host.Cell := m.filter fun c => decide (a ≤ c.1 ∧ c.1 < a + n)

/-- n bytes from an address. -/
def memRead (m : List Host.Cell) (a n : Nat) : List Byte :=
  let w := memRange m a n
  (List.range n).map fun i => memAt w (a + i)

/-- The cells that bytes at an address need: none for a zero byte. -/
def cellsOf : Nat → List Byte → List Host.Cell
  | _, [] => []
  | a, b :: bs => if b == 0 then cellsOf (a + 1) bs else (a, b) :: cellsOf (a + 1) bs

/-- Memory below an address. -/
def memBelow (m : List Host.Cell) (a : Nat) : List Host.Cell := m.filter fun c => decide (c.1 < a)

/-- Memory at or above an address. -/
def memFrom (m : List Host.Cell) (a : Nat) : List Host.Cell := m.filter fun c => decide (a ≤ c.1)

/-- Bytes stored at an address. (DESIGN CHOICE, log entry 3.) -/
def memStore (m : List Host.Cell) (a : Nat) (bs : List Byte) : List Host.Cell :=
  memBelow m a ++ (cellsOf a bs ++ memFrom m (a + bs.length))

/-- True of memory in canonical form: addresses strictly rising, and no zero byte listed. (DESIGN CHOICE, log entry 3.) -/
def Memory.wf (m : List Host.Cell) : Bool := MapOps.sorted m && m.all fun c => c.2 != 0

/-- The poisoned sectors of a range. -/
def poisonIn (p : List Nat) (lo n : Nat) : List Nat := p.filter fun x => lo ≤ x && x < lo + n

/-- The poison list without a range. -/
def poisonClear (p : List Nat) (lo n : Nat) : List Nat := p.filter fun x => x < lo || lo + n ≤ x

/-! ### Slots -/

/-- A tier's code (Table 2-1). -/
def tierCode : Tier → Nat
  | .ridge => 0
  | .batten => 1
  | .underlay => 2
  | .none => 3

/-- A tier by its code. -/
def tierOf (n : Nat) : Tier := if n == 0 then .ridge else if n == 1 then .batten else if n == 2 then .underlay else .none

/-- The number under which a slot of a tier of an MD is kept. -/
def slotKey (t : Tier) (md slot : Nat) : Nat := (tierCode t * 8 + md) * 2 ^ 28 + slot

/-- Ridge tile slots of a stack: 24 GiB less its reserve (Table 3-6, log entry 4). -/
def ridgeSlots : Nat := 393151

/-- An MD's Batten or stack takes no new slot (R86, R87). -/
def tierDown (s : State) (t : Tier) (md : Nat) : Bool :=
  match t with
  | .ridge => bitAt s.tier.ridgeDown.toNat md
  | .batten => bitAt s.tier.battenDown.toNat md
  | _ => true

/-- Tile slots of a tier of an MD, free or in use. -/
def slotCount (s : State) (t : Tier) (md : Nat) : Nat :=
  match t with
  | .ridge => ridgeSlots
  | .batten => s.tier.battenTiles.getD md 0 - s.tier.battenReserve.getD md 0
  | _ => 0

/-- The slots in use of a tier of an MD, ascending. -/
def slotsUsed (s : State) (t : Tier) (md : Nat) : List Nat :=
  (MapOps.range (slotKey t md 0) (slotKey t md 0 + 2 ^ 28) s.tier.slots).map fun p => p.1 - slotKey t md 0

/-- Free slots of a tier of an MD. -/
def freeSlots (s : State) (t : Tier) (md : Nat) : Nat :=
  if tierDown s t md then 0 else slotCount s t md - (slotsUsed s t md).length

/-- The r-th number that is not in a rising list. -/
def nthFree (l : List Nat) (r : Nat) : Nat := l.foldl (fun c u => if u ≤ c then c + 1 else c) r

/-- Takes a free slot of a tier of an MD: which one is a free value (R44, R46). -/
def allocSlot (s : State) (t : Tier) (md : Nat) (u : SlotUse) : Option (Nat × State) :=
  if freeSlots s t md == 0 then none
  else
    let slot := nthFree (slotsUsed s t md) (freeValue s % freeSlots s t md)
    some (slot, (used s).setTier { s.tier with slots := MapOps.insert (slotKey t md slot) u s.tier.slots })

/-- The MD of most free slots of a tier, the lower-numbered on a tie (R37, R75). -/
def mostFree (s : State) (t : Tier) : Option Nat :=
  (List.range 8).foldl (fun a m =>
    match a with
    | none => if freeSlots s t m == 0 then none else some m
    | some b => if freeSlots s t b < freeSlots s t m then some m else some b) none

/-- The MD in which a Batten slot is taken for an extent whose directory MD is d (R37). -/
def battenFor (s : State) (d : Nat) : Option Nat :=
  if freeSlots s .batten d == 0 then mostFree s .batten else some d

/-- Which of a compute die's two MDs has more free Ridge slots (R75, Table 2-6). -/
def stackOfDie (s : State) (cd : Nat) : Nat :=
  if freeSlots s .ridge (2 * cd) < freeSlots s .ridge (2 * cd + 1) then 2 * cd + 1 else 2 * cd

/-- The reads forwarded to a slot that have not returned. -/
def readsOf (s : State) (k : Nat) : Nat := (s.tier.reads.filter fun r => slotKey r.tier r.md r.slot == k).length

/-- Makes a slot free-pending (R46). -/
def releaseSlot (k : Nat) (s : State) : State :=
  s.setTier { s.tier with slots := MapOps.insert k (.freePending (readsOf s k)) s.tier.slots }

/-- Frees a destination slot that never was a home. -/
def freeSlot (k : Nat) (s : State) : State := s.setTier { s.tier with slots := MapOps.erase k s.tier.slots }

/-! ### The extent map and the Tile Directory -/

/-- The directory MD of a device extent (R24); MD0 where k is 0. (DESIGN CHOICE, log entry 81.) -/
def dirMd (s : State) (ext : Nat) : Nat := s.tier.dirMds.getD (ext % s.tier.k) 0

/-- An extent-map entry. -/
def entryOf (s : State) (ext : Nat) : ExtEntry := MapOps.getD ext {} s.tier.exts

/-- KIND of an extent. -/
def kindOf (s : State) (ext : Nat) : Nat := (entryOf s ext).kind

/-- The directory MD of an extent has lost its Batten, or the extent's entry is lost (R87, R386). -/
def extGone (s : State) (ext : Nat) : Bool :=
  bitAt s.tier.battenDown.toNat (dirMd s ext) || s.tier.badEntries.contains ext

/-- A session record whose stack or sector is lost until the next start (R132). -/
def recLost (s : State) (h : Nat) : Bool := s.sess.lostRecs.contains h || bitAt s.tier.ridgeDown.toNat (h % 8)

/-- A prefix entry whose stack or sector is lost until the next start (R132). -/
def pfxLost (s : State) (n : Nat) : Bool := s.sess.lostPfx.contains n || bitAt s.tier.ridgeDown.toNat (n % 8)

/-- The LINK of an extent whose image is lost (R90). -/
def lostLink : Nat := 0xFFFFFFFFFF

/-- Writes an extent-map entry's KIND and LINK; MAP_GEN advances on a change of KIND (R26). -/
def setKind (ext kind link : Nat) (s : State) : State :=
  let e := entryOf s ext
  let g := if e.kind == kind then e.mapGen else (e.mapGen + 1) % 64
  s.setTier { s.tier with exts := MapOps.insert ext { kind := kind, part := ownerOf s ext, mapGen := g, link := link } s.tier.exts }

/-- The directory groups of an MD, 32 TDEs each: one TDE for each 64 KiB of its trained Batten (R28). -/
def groupCount (s : State) (md : Nat) : Nat := s.tier.battenTiles.getD md 0 / 32

/-- The groups in use of an MD. -/
def groupsUsed (s : State) (md : Nat) : List Nat :=
  (MapOps.range (md * 2 ^ 28) ((md + 1) * 2 ^ 28) s.tier.groups).map fun p => p.1 - md * 2 ^ 28

/-- Takes a free directory group for an extent: which one is a free value. -/
def allocGroup (s : State) (ext : Nat) : Option (Nat × State) :=
  let md := dirMd s ext
  let n := groupCount s md - (groupsUsed s md).length
  if n == 0 || bitAt s.tier.battenDown.toNat md then none
  else
    let g := nthFree (groupsUsed s md) (freeValue s % n)
    some (g, (used s).setTier { s.tier with groups := MapOps.insert (md * 2 ^ 28 + g) ext s.tier.groups })

/-- Frees the directory group of an extent. -/
def freeGroup (ext : Nat) (s : State) : State :=
  s.setTier { s.tier with groups := s.tier.groups.filter fun p => p.2 != ext }

/-- The key of a tile. -/
def tileKey (ext tile : Nat) : Nat := ext * 32 + tile

/-- The extent of a tile's key. -/
def extOf (key : Nat) : Nat := key / 32

/-- The 32 keys of an extent. -/
def tilesOf (ext : Nat) : List Nat := span (ext * 32) 32

/-- A TDE. -/
def tdeOf (s : State) (key : Nat) : Tde := MapOps.getD key {} s.tier.tdes

/-- Writes a TDE. -/
def setTde (key : Nat) (t : Tde) (s : State) : State :=
  s.setTier { s.tier with tdes := MapOps.insert key t s.tier.tdes }

/-- Changes a TDE. -/
def modTde (key : Nat) (f : Tde → Tde) (s : State) : State := setTde key (f (tdeOf s key)) s

/-- True of a tier that has tile slots. -/
def isHome (t : Tier) : Bool := t == .ridge || t == .batten

/-- The slot of a tile's home, if it has one. -/
def homeOf (t : Tde) : Option Nat := if isHome t.tier then some (slotKey t.tier t.homeMd t.homeSlot) else none

/-- Tiles homed in Ridge or Batten, of the extents of one directory MD. (DEDUCED, log entry 5.) -/
def homedOf (s : State) (md : Nat) : Nat :=
  (s.tier.tdes.filter fun p => isHome p.2.tier && dirMd s (extOf p.1) == md).length

/-- Free TDE homes of a directory MD: TDEs that name no home (R28, R63; DEDUCED, log entry 5). -/
def freeHomesOf (s : State) (md : Nat) : Nat := s.tier.battenTiles.getD md 0 - homedOf s md

/-- The number of a tier state (Table 2-3). -/
def stateCode : TileState → Nat
  | .resident => 0
  | .moving => 1
  | .parked => 2
  | .poisoned => 3
  | .damaged => 4

/-- The block lengths of a TDE, in order. -/
def blockLen (t : Tde) (b : Nat) : Nat := MapOps.getD b 0 t.blockLen

/-- The 64 B of a TDE as software sees it (Table 2-2). -/
def tdeBytes (key : Nat) (t : Tde) : List Byte :=
  let low := stateCode t.state + put (tierCode t.tier) 2 3 + put t.homeMd 3 5 + put t.homeSlot 28 8
    + put (if t.state == .moving then tierCode t.destTier else 0) 2 36 + put t.destMd 3 38 + put t.pass 3 41
    + put t.part 6 44 + put t.sheetSlot 6 50 + put t.flipGen 8 56 + put t.destSlot 28 64 + put t.sheetGen 10 92
    + put (key % 32) 5 102 + put (ofBool t.claimed) 1 107 + put (ofBool t.expoHeld) 1 108 + put t.expoId 8 109
    + put t.lastHint 3 117 + put t.heat 8 120 + put (extOf key) 28 128 + put t.poisonMap.toNat 16 156
    + put t.damageMap.toNat 16 172
    + t.blockLen.foldl (fun a p => a + put p.2 12 (192 + 12 * p.1)) 0
  let b := toBytes 60 low
  b ++ toBytes 4 (crc32 b)

/-- The 8 B of an extent-map entry (Table 1-7). -/
def entryWord (e : ExtEntry) : Nat :=
  put e.link 40 0 + put e.mapGen 6 48 + put e.part 6 56 + put e.kind 2 62

/-- The state that a TDE has when it neither moves nor waits: by its DAMAGE_MAP (R44). -/
def settled (t : Tde) : TileState := if t.damageMap == 0 then .resident else .damaged

/-- A TDE after its DAMAGE_MAP or block lengths changed: RESIDENT and DAMAGED follow the map, and a tile without
coded blocks names no sheet (Table 2-4, R145, R163). -/
def tidy (t : Tde) : Tde :=
  let st := if t.state == .resident || t.state == .damaged then settled t else t.state
  if t.blockLen.isEmpty then { t with state := st, sheetSlot := 0, sheetGen := 0 } else { t with state := st }

/-- The fields of a move cleared (R44 steps 5 and 7). -/
def noDest (t : Tde) : Tde := { t with destTier := .ridge, destMd := 0, destSlot := 0, pass := 0 }

/-- A row of fresh TDEs for an extent (R37, R74). -/
def newTdes (ext : Nat) (t : Tde) (s : State) : State :=
  (tilesOf ext).foldl (fun u k => setTde k { t with part := ownerOf s ext } u) s

/-- Makes an unused extent resident with every tile empty (R37), if a directory group is free. (DEDUCED, log entry 15.) -/
def mapExtent (ext : Nat) (s : State) : Option State :=
  match allocGroup s ext with
  | none => none
  | some (g, t) => some (newTdes ext {} (setKind ext 1 g t))

/-- An access counts in a tile's HEAT, at most once a µs (R61). (DEDUCED, log entry 15.) (DEDUCED, log entry 83.) -/
def touchTile (key : Nat) (s : State) : State :=
  let t := tdeOf s key
  if t.heatUs == nowUs s + 1 then s
  else setTde key { t with heat := min 255 (t.heat + 1), heatUs := nowUs s + 1 } s

/-! ### Paths (R12, R16, R18) -/

/-- The bridges between two compute dies. -/
def cdPath (a b : Nat) : List Nat :=
  (if a % 2 == b % 2 then [] else if a / 2 == 0 then [0] else [3])
    ++ (if a / 2 == b / 2 then [] else if b % 2 == 0 then [1] else [2])

/-- The compute die of a die's row and column: MDm is die m, CDn die 8 + n, IODn die 12 + n. -/
def dieCd (d : Nat) : Nat := if d < 8 then d / 2 else (d - 8) % 4

/-- The bridge between a die and its compute die (Table 1-2). -/
def dieBridge (d : Nat) : List Nat := if d < 8 then [4 + d] else if d < 12 then [] else [d]

/-- The bridges between two dies. -/
def diePath (a b : Nat) : List Nat :=
  if a == b then [] else dieBridge a ++ cdPath (dieCd a) (dieCd b) ++ dieBridge b

/-- No bridge of a path has failed. -/
def pathUp (s : State) (p : List Nat) : Bool := p.all fun b => ! s.link.failed.contains b

/-- Work between several dies can proceed. -/
def diesUp (s : State) (ms : List Nat) : Bool := ms.all fun a => ms.all fun b => pathUp s (diePath a b)

/-- The directory MD of a tile and the MD of its home. -/
def tileDies (s : State) (key : Nat) : List Nat :=
  dirMd s (extOf key) :: if isHome (tdeOf s key).tier then [(tdeOf s key).homeMd] else []

/-- A tile's directory MD can reach its home (R18): forwarding to it does not wait. -/
def tileUp (s : State) (key : Nat) : Bool := diesUp s (tileDies s key)

/-- The dies that a write to a tile needs: an empty tile's home is taken in an MD of R37. -/
def writeDies (s : State) (key : Nat) : List Nat :=
  if isHome (tdeOf s key).tier then tileDies s key
  else dirMd s (extOf key) :: (battenFor s (dirMd s (extOf key))).toList

/-- The directory MD of an extent and the homes of its tiles can reach each other (R18): a DROP does not wait. -/
def extUp (s : State) (ext : Nat) : Bool := s.link.failed.isEmpty || diesUp s (dedup ((tilesOf ext).flatMap (tileDies s)))

/-! ### Sheet banks -/

/-- A sheet bank, by slot × 2 + bank. -/
def bankOf (s : State) (k : Nat) : Bank := MapOps.getD k {} s.codec.banks

/-- Writes a sheet bank; a bank as at reset is FREE and not kept. -/
def setBank (k : Nat) (b : Bank) (s : State) : State :=
  s.setCodec { s.codec with banks := MapOps.put k {} b s.codec.banks }

/-- The ACTIVE or RETIRING bank that holds a generation of a slot. -/
def bankFind (s : State) (slot gen : Nat) : Option Nat :=
  [2 * slot, 2 * slot + 1].find? fun k => (bankOf s k).gen == gen && ((bankOf s k).state == 2 || (bankOf s k).state == 3)

/-- The ACTIVE bank of a slot. -/
def activeBank (s : State) (slot : Nat) : Option Nat :=
  [2 * slot, 2 * slot + 1].find? fun k => (bankOf s k).state == 2

/-- What a decode needs of a bank: width, size class and entries. -/
def bankView (s : State) (slot gen : Nat) : Option (Bool × Nat × List Nat) :=
  (bankFind s slot gen).map fun k => ((bankOf s k).wide, (bankOf s k).size, (bankOf s k).entries)

/-- Underlay can be read and written: its state is neither ABSENT, MOUNTING nor FAILED (Table 11-6). -/
def underlayUp (s : State) : Bool := s.und.state == 2 || s.und.state == 3 || s.und.state == 4

/-- The retention clock (R418). -/
def retention (s : State) : Nat := max s.und.clock (max (calMs s) (s.und.h + nowUs s / 1000))

/-- Appends a record to those that wait for a log page (R408). -/
def formRecord (r : Fcr) (s : State) : State :=
  s.setUnd { s.und with forming := s.und.forming ++ [{ clock := retention s, body := r }] }

/-- A record that a test picks waits for its log page, or is on one that is being programmed. -/
def recordWaits (f : Fcr → Bool) (s : State) : Bool := (s.und.forming ++ s.und.programming).any fun r => f r.body

/-- Records that a test picks, and that are on no log page yet, mean nothing any more. -/
def dropRecords (f : Fcr → Bool) (s : State) : State :=
  s.setUnd { s.und with forming := s.und.forming.filter fun r => ! f r.body }

/-- The frames that hold a generation in a sheet buffer hold it no more: its bank is FREE (R148, R208). -/
def dropBuffers (slot gen : Nat) (s : State) : State :=
  s.setCmp { s.cmp with frames := s.cmp.frames.map fun q =>
    (q.1, { q.2 with sheets := q.2.sheets.filter fun x => ! (x.slot == slot && x.gen == gen) }) }

/-- A bank's entries are cleared, in every MD and in the frames' buffers (R148). -/
def clearBank (k : Nat) (s : State) : State := dropBuffers (k / 2) (bankOf s k).gen (setBank k {} s)

/-- A bank becomes FREE: its entries are cleared, and SHEET_RETIRED is raised for the owner (R148, R181). -/
def freeBank (k : Nat) (s : State) : State := raise 0x0404 (some (bankOf s k).owner) 0 (clearBank k s)

/-- A RETIRING bank that nothing names or pins. The banks of a partition in its scrub stay as they are (R148, R182). -/
def retirable (k : Nat) (s : State) : Bool :=
  let b := bankOf s k
  b.state == 3 && b.stored == 0 && b.pins == 0 && partState s b.owner != 2

/-- A SHEET record of a bank is on its way to the sheet store (R149). -/
def sheetPending (k : Nat) (s : State) : Bool :=
  recordWaits (fun f => match f with | .sheet slot bank _ => 2 * slot + bank == k | _ => false) s

/-- A bank's state is, or is about to be, in the sheet store, so that a change of it is written there first (R149). -/
def storedSheet (k : Nat) (s : State) : Bool := ((bankOf s k).persisted || sheetPending k s) && underlayUp s

/-- Frees a RETIRING bank without stored blocks or pins. A persisted bank's change is first written to the sheet
store, unless Underlay cannot take it (R148, R149). -/
def retireCheck (k : Nat) (s : State) : State :=
  if retirable k s then
    if storedSheet k s then
      if recordWaits (· == .sheet (k / 2) (k % 2) 0) s then s
      else formRecord (.sheet (k / 2) (k % 2) 0) s
    else freeBank k s
  else s

/-- Adds to STORED_BLOCKS of a generation (R147). -/
def storedUp (slot gen n : Nat) (s : State) : State :=
  match bankFind s slot gen with
  | none => s
  | some k => setBank k { bankOf s k with stored := (bankOf s k).stored + n } s

/-- Takes from STORED_BLOCKS of a generation (R147). -/
def storedDown (slot gen n : Nat) (s : State) : State :=
  match bankFind s slot gen with
  | none => s
  | some k => retireCheck k (setBank k { bankOf s k with stored := (bankOf s k).stored - n } s)

/-- Takes a pin on a generation (R148). -/
def pin (slot gen : Nat) (s : State) : State :=
  match bankFind s slot gen with
  | none => s
  | some k => setBank k { bankOf s k with pins := (bankOf s k).pins + 1 } s

/-- Releases a pin (R148). -/
def unpin (slot gen : Nat) (s : State) : State :=
  match bankFind s slot gen with
  | none => s
  | some k => retireCheck k (setBank k { bankOf s k with pins := (bankOf s k).pins - 1 } s)

/-! ### Sectors and blocks -/

/-- The sector number in memory of sector i (0 to 1,023) of a slot. -/
def sectorNo (k i : Nat) : Nat := k * 1024 + i

/-- Where a sector lies: the tile whose home holds it, if one does. -/
def homeAt (s : State) (tier : Tier) (md slot : Nat) : Option Nat :=
  match MapOps.get? (slotKey tier md slot) s.tier.slots with
  | some (.home k) => some k
  | _ => none

/-- BCHn took part in the MD's Batten at the last start: it trained, whatever became of it since. -/
def channelTrained (s : State) (n : Nat) : Bool := (ctlOf s n).state == 1 || (ctlOf s n).state == 4

/-- The channel that holds a byte of an MD's Batten (R367). -/
def channelAt (s : State) (md a : Nat) : Nat :=
  if channelTrained s (2 * md) && channelTrained s (2 * md + 1) then 2 * md + a / s.dram.grain % 2
  else if channelTrained s (2 * md) then 2 * md else 2 * md + 1

/-- The controller that holds a sector of a slot: BCHn at n, HSm at 16 + m. -/
def ctlAt (s : State) (tier : Tier) (md slot i : Nat) : Nat :=
  if tier == .batten then channelAt s md (65536 * slot + 64 * i) else 16 + md

/-- Counts a correction by its place (R387). -/
def countCorrected (tier : Tier) (md slot i : Nat) (s : State) : State :=
  let s1 := if tier == .batten then count 0x30A1 (ctlAt s tier md slot i + 1) (count 0x30A0 1 s)
    else count 0x30A2 (md + 1) (count 0x30A0 2 s)
  match homeAt s tier md slot with
  | some k => countFor 0x30A3 (tdeOf s k).part s1
  | none => s1

/-- A sector is written clean: its stored copy has no bit in error any more (R384). -/
def cleanSectors (n count : Nat) (s : State) : State :=
  if s.dram.dirty.isEmpty then s
  else s.setDram { s.dram with dirty := s.dram.dirty.filter fun p => ! (decide (n ≤ p.1) && decide (p.1 < n + count)) }

/-- Sectors of a slot, n from sector i, whose stored copies have bits in error. -/
def dirtyIn (s : State) (k i n : Nat) : List Nat :=
  (s.dram.dirty.filter fun p => decide (sectorNo k i ≤ p.1) && decide (p.1 < sectorNo k i + n)).map fun p => p.1 % 1024

/-- The device reads n sectors of a slot from sector i: it counts a correction at each whose stored copy has bits in error, which
stays as it is (R384, R387). -/
def countDirty (k i n : Nat) (s : State) : State :=
  (dirtyIn s k i n).foldl (fun u j =>
    countCorrected (if k / 2 ^ 31 == 0 then .ridge else .batten) (k / 2 ^ 28 % 8) (k % 2 ^ 28) j u) s

/-- The stored bytes of a sector. -/
def sectorBytes (s : State) (k i : Nat) : List Byte := memRead s.tier.mem (sectorNo k i * 64) 64

/-- A sector holds the poison code. -/
def sectorPoisoned (s : State) (k i : Nat) : Bool := s.tier.poison.contains (sectorNo k i)

/-- Bytes written to a slot count in the lifetime of its tier (Table 15-12), kept in bytes. -/
def countWritten (k n : Nat) (s : State) : State := lifeBy (if k / 2 ^ 31 == 0 then 0x0A else 0x0B) n s

/-- Stores a sector of a slot: data, or the poison code (R82, R383). -/
def storeSector (k i : Nat) (bytes : List Byte) (poison : Bool) (s0 : State) : State :=
  let n := sectorNo k i
  let s := countWritten k 64 (cleanSectors n 1 s0)
  if poison then
    s.setTier { s.tier with mem := memStore s.tier.mem (n * 64) (zeros 64), poison := setInsert n s.tier.poison }
  else
    s.setTier { s.tier with mem := memStore s.tier.mem (n * 64) (slice bytes 0 64 0), poison := setErase n s.tier.poison }

/-- Stores many bytes from sector i of a slot, clearing poison there. -/
def storeRun (k i : Nat) (bytes : List Byte) (s0 : State) : State :=
  let s := countWritten k bytes.length (cleanSectors (sectorNo k i) (ceilDiv bytes.length 64) s0)
  s.setTier { s.tier with
    mem := memStore s.tier.mem (sectorNo k i * 64) bytes
    poison := poisonClear s.tier.poison (sectorNo k i) (ceilDiv bytes.length 64) }

/-- The clear pattern in every sector of a slot (R479, R480). -/
def clearSlot (k : Nat) (s : State) : State := storeRun k 0 (zeros 65536) s

/-- The move of a tile that is staged and ready, whose destination also takes every write (R51). -/
def stagedMove (s : State) (key : Nat) : Option Move :=
  s.tier.moves.find? fun m => m.key == key && m.ready

/-- Copies a block between slots with its poison (R47). -/
def copyBlock (src dst b : Nat) (s : State) : State :=
  (poisonIn s.tier.poison (sectorNo src (64 * b)) 64).foldl
    (fun u n => u.setTier { u.tier with poison := setInsert (n - src * 1024 + dst * 1024) u.tier.poison })
    (storeRun dst (64 * b) (memRead s.tier.mem (sectorNo src (64 * b) * 64) 4096) (countDirty src (64 * b) 64 s))

/-- Marks a sector dirty for a running move or park (R44 step 3, R71). -/
def markDirty (key i : Nat) (s : State) : State :=
  s.setTier { s.tier with
    moves := s.tier.moves.map fun m => if m.key == key && ! m.ready then { m with dirty := setInsert i m.dirty } else m
    parks := s.tier.parks.map fun p =>
      if p.ext == extOf key then { p with dirty := setInsert (key % 32 * 1024 + i) p.dirty } else p }

/-- The block that a staged move would place newly coded is coded no more: the destination takes it raw, as it now stands at
the home (R51, R67). -/
def stagedRaw (m : Move) (k b : Nat) (s : State) : State :=
  copyBlock k (slotKey m.tier m.md m.slot) b (s.setTier { s.tier with
    moves := s.tier.moves.map fun q => if q.key == m.key then { q with coded := q.coded.filter (·.block != b) } else q })

/-- A sector of a tile is written at its home, and at a staged move's destination. -/
def putSector (key i : Nat) (bytes : List Byte) (poison : Bool) (s : State) : State :=
  let t := tdeOf s key
  match homeOf t with
  | none => s
  | some k =>
    let s1 := markDirty key i (storeSector k i bytes poison s)
    let s2 := match stagedMove s key with
      | some m => if m.coded.any (·.block == i / 64) then stagedRaw m k (i / 64) s1
        else storeSector (slotKey m.tier m.md m.slot) i bytes poison s1
      | none => s1
    if poison then modTde key (fun u => { u with poisonMap := u.poisonMap ||| BitVec.ofNat 16 (2 ^ (i / 64)) }) s2 else s2

/-- POISON_MAP of a block from the sectors of its home (R82). -/
def refreshPoison (key b : Nat) (s : State) : State :=
  let t := tdeOf s key
  match homeOf t with
  | none => s
  | some k =>
    let bad := ! (poisonIn s.tier.poison (sectorNo k (64 * b)) 64).isEmpty
    let bit := BitVec.ofNat 16 (2 ^ b)
    setTde key { t with poisonMap := if bad then t.poisonMap ||| bit else t.poisonMap &&& (~~~ bit) } s

/-- The reads forwarded to a block's slot find it raw (R66). -/
def markRaw (key b : Nat) (s : State) : State :=
  let here := fun (r : FwdRead) => r.key == key && r.sector / 64 == b && homeOf (tdeOf s key) == some (slotKey r.tier r.md r.slot)
  s.setTier { s.tier with reads := s.tier.reads.map fun r => if here r then { r with raw := true } else r }

/-- A block's coding ends: BLOCK_LEN 0, and its generation's count falls (R67, R147). -/
def uncode (key b : Nat) (s : State) : State :=
  let t := tdeOf s key
  if blockLen t b == 0 then s
  else storedDown t.sheetSlot t.sheetGen 1 (setTde key (tidy { t with blockLen := MapOps.erase b t.blockLen }) (markRaw key b s))

/-- Writes a whole block raw: each sector's data or poison; DAMAGE_MAP's bit clears (R43, R173). -/
def writeWhole (key b : Nat) (secs : List (List Byte × Bool)) (s : State) : State :=
  let s1 := uncode key b s
  let s2 := secs.zipIdx.foldl (fun u p => putSector key (64 * b + p.2) p.1.1 p.1.2 u) s1
  let s3 := modTde key (fun t => tidy { t with damageMap := t.damageMap &&& (~~~ BitVec.ofNat 16 (2 ^ b)) }) s2
  refreshPoison key b s3

/-- The stored bytes of a coded block, and whether any of its coded sectors is poisoned. -/
def codedBytes (s : State) (k b len : Nat) : List Byte × Bool :=
  (memRead s.tier.mem (sectorNo k (64 * b) * 64) len,
   ! (poisonIn s.tier.poison (sectorNo k (64 * b)) (ceilDiv (min len 4096) 64)).isEmpty)

/-- Decodes a stored coded block, with the bits that arrive otherwise than stored; every check of Table 4-7. -/
def decodeStored (s : State) (key b : Nat) (error : List Byte) : Except Nat (List Byte) :=
  let t := tdeOf s key
  match homeOf t with
  | none => .error 0
  | some k =>
    let c := codedBytes s k b (blockLen t b)
    if c.2 then .error 0
    else decodeBlock (blockLen t b) t.sheetSlot t.sheetGen (bankView s t.sheetSlot t.sheetGen)
      (slice (xorBytes c.1 error) 0 c.1.length 0)

/-- A stored block becomes DAMAGED for a check of Table 4-7 (R83, R172). -/
def damageBlock (key b check : Nat) (s : State) : State :=
  let t := tdeOf s key
  let s1 := setTde key (tidy { t with damageMap := t.damageMap ||| BitVec.ofNat 16 (2 ^ b) }) s
  raise 0x0401 (some t.part) check
    (count 0x3040 6 (countFor 0x3041 t.part (count 0x3043 (check + 1) s1)))

/-- A block is DAMAGED. -/
def isDamaged (t : Tde) (b : Nat) : Bool := bitAt t.damageMap.toNat b

/-- The sectors of a raw block as stored. -/
def rawSectors (s : State) (k b : Nat) : List (List Byte × Bool) :=
  (List.range 64).map fun i => (sectorBytes s k (64 * b + i), sectorPoisoned s k (64 * b + i))

/-- Sectors from the bytes of a decoded block. -/
def sectorsOf (raw : List Byte) : List (List Byte × Bool) :=
  (List.range 64).map fun i => (slice raw (64 * i) 64 0, false)

/-- 64 poisoned sectors. -/
def allPoison : List (List Byte × Bool) := List.replicate 64 (zeros 64, true)

/-- 64 empty sectors. -/
def allZero : List (List Byte × Bool) := List.replicate 64 (zeros 64, false)

/-- What a reader inside the device gets of a block, as stored bytes (ciphertext where the region is protected),
with the marks that a failed decode makes: zeros of an empty tile, poison of a POISONED tile or DAMAGED block.
(DESIGN CHOICE, log entry 88.) -/
def readBlock (key b : Nat) (s : State) : List (List Byte × Bool) × State :=
  let t := tdeOf s key
  if t.state == .poisoned then (allPoison, s)
  else match homeOf t with
  | none => (allZero, s)
  | some k =>
    if isDamaged t b then (allPoison, s)
    else if blockLen t b == 0 then (rawSectors s k b, countDirty k (64 * b) 64 s)
    else
      let s1 := countDirty k (64 * b) (ceilDiv (blockLen t b) 64) s
      match decodeStored s key b [] with
      | .ok raw => (sectorsOf raw, count 0x3040 5 s1)
      | .error e => (allPoison, damageBlock key b e (count 0x3040 5 s1))

/-- A master is charged for sectors written to a tile: at its home, and at a staged move's destination (R51, R432). -/
def chargeWrite (master key n : Nat) (s : State) : State :=
  let s1 := chargeTier master (tdeOf s key).tier n s
  match stagedMove s key with
  | some m => chargeTier master m.tier n s1
  | none => s1

/-- A coded block that is written in part is decoded and stored raw for a master (R67), which pays for the block's read and for
the write of its 64 sectors (R432); one that fails is DAMAGED (R173). -/
def rewriteRaw (master key b : Nat) (s0 : State) : State :=
  let t := tdeOf s0 key
  if blockLen t b == 0 || isDamaged t b then s0
  else
    let n := ceilDiv (blockLen t b) 64
    let s := match homeOf t with
      | some k => countDirty k (64 * b) n (chargeTier master t.tier n s0)
      | none => s0
    match decodeStored s key b [] with
    | .error e => damageBlock key b e (count 0x3040 5 s)
    | .ok raw =>
      let s1 := countFor 0x3024 t.part (count 0x3020 0x0A (count 0x3040 5 s))
      chargeWrite master key 64 (writeWhole key b (sectorsOf raw) s1)

/-- A write to part of a block meets it coded, and is merged into what R67 stores (R385). -/
def mergesCoded (s : State) (key b : Nat) : Bool := blockLen (tdeOf s key) b != 0 && ! isDamaged (tdeOf s key) b

/-- Merges bytes by their enables. -/
def mergeBytes (enables : BitVec 64) (new old : List Byte) : List Byte :=
  old.zipIdx.map fun p => if bitAt enables.toNat p.2 then new.getD p.2 0 else p.1

/-- A write of one sector of a raw block: whole, or a read-merge-write (R385), or with Poison (R359). (DEDUCED, log entry 15.) -/
def writeSector (key i : Nat) (enables : BitVec 64) (bytes : List Byte) (poison : Bool) (s : State) : State :=
  let t := tdeOf s key
  match homeOf t with
  | none => s
  | some k =>
    if poison then putSector key i (zeros 64) true s
    else if enables == BitVec.allOnes 64 then putSector key i bytes false s
    else
      let s1 := countDirty k i 1 (count 0x30A0 7 (countFor 0x30A5 t.part s))
      if sectorPoisoned s k i then count 0x30A0 0x0C s1
      else putSector key i (mergeBytes enables bytes (sectorBytes s k i)) false s1

/-- Gives an empty tile a Batten home (R37), with the clear pattern in it (R479). -/
def giveHome (key : Nat) (s : State) : Option State :=
  match battenFor s (dirMd s (extOf key)) with
  | none => none
  | some md =>
    match allocSlot s .batten md (.home key) with
    | none => none
    | some (slot, s1) =>
      some (clearSlot (slotKey .batten md slot)
        (modTde key (fun t => { t with tier := .batten, homeMd := md, homeSlot := slot }) s1))

/-- Writes discarded under R43. (DEDUCED, log entry 83.) -/
def discardWrites (n : Nat) (s : State) : State := countBy 0x3020 0x0E n s

/-- One sector is written for a master, which pays for it unless the write merges into a block that R67 has just stored (R385, R432). -/
def storeSectorFor (master key i : Nat) (e : BitVec 64) (bytes : List Byte) (poison merges : Bool) (s : State) : State :=
  if ! merges then
    writeSector key i e bytes poison (chargeTier master (tdeOf s key).tier (if poison || e == BitVec.allOnes 64 then 0 else 1)
      (chargeWrite master key 1 s))
  else
    let old := match homeOf (tdeOf s key) with | some k => sectorBytes s k i | none => zeros 64
    writeSector key i (BitVec.allOnes 64) (mergeBytes e bytes old) poison s

/-- One sector is written for a master with bytes that it has merged itself, under the keys of its region (R385, R432, R478). A partial
write of a raw block is a read-merge-write, which a poisoned sector discards. -/
def mergedSector (master key i : Nat) (partly : Bool) (bytes : List Byte) (merges : Bool) (s : State) : State :=
  let t := tdeOf s key
  if merges then writeSector key i (BitVec.allOnes 64) bytes false s
  else
    let s1 := chargeTier master t.tier (ofBool partly) (chargeWrite master key 1 s)
    let s2 := if ! partly then s1
      else
        let u := count 0x30A0 7 (countFor 0x30A5 t.part s1)
        match homeOf t with | some k => countDirty k i 1 u | none => u
    if partly && (homeOf t).any (fun k => sectorPoisoned s k i) then count 0x30A0 0x0C s2
    else writeSector key i (BitVec.allOnes 64) bytes false s2

/-- The device writes sectors of one block for a master (R43, R67): sector within the block, data, poison.
Fewer than 64 sectors of a DAMAGED block are discarded; a POISONED tile takes nothing. -/
def writeBlock (master key b : Nat) (secs : List (Nat × List Byte × Bool)) (s : State) : State :=
  let t := tdeOf s key
  if t.state == .poisoned then discardWrites secs.length s
  else if secs.length == 64 then chargeWrite master key 64 (writeWhole key b (secs.map (·.2)) s)
  else
    let s1 := rewriteRaw master key b s
    if isDamaged (tdeOf s1 key) b then discardWrites secs.length s1
    else secs.foldl (fun u p => putSector key (64 * b + p.1) p.2.1 p.2.2 u)
      (if mergesCoded s key b then s1 else chargeWrite master key secs.length s1)

/-- The Underlay image of a parked extent is lost to it (R90). -/
def imageLost (s : State) (ext : Nat) : Bool := kindOf s ext == 2 && (entryOf s ext).link == lostLink

end Sys2Proof.Machine
end

