-- ==== Sys2Proof/Machine/CodecOps.lean ====
section
/-! DEFINITION. Which blocks a move or a park codes, and the encodes and decodes that do it (R160 to R178). -/

namespace Sys2Proof.Machine

open Sys2Proof

/-- The codec policy table in force (R160). -/
def codecPolicy (s : State) : TableObj := tableOf s (scalar s 0x2300 1 0x5040)

/-- The row that governs a tile of a partition at a DPA extent (R161). -/
def governs (r part dpa : Nat) : Bool :=
  bitAt r 0 && field r 6 1 == part && field r 62 32 ≤ dpa && dpa ≤ field r 94 64

/-- The lowest-numbered VALID row that governs a tile. -/
def governRow (s : State) (part ext : Nat) : Option Nat :=
  match dpaExtOf s part ext with
  | none => none
  | some dpa =>
    let t := codecPolicy s
    match t.data.find? (fun p => governs p.2 part dpa) with
    | some p => some p.2
    | none => if governs t.fill part dpa && decide (t.data.length < t.rows) then some t.fill else none

/-- An extent lies in a protected region of its partition (R69). -/
def isProtected (s : State) (part ext : Nat) : Bool :=
  match dpaExtOf s part ext with
  | none => false
  | some dpa => (keyOf s part dpa).isSome

/-- A block holds a poisoned sector. -/
def hasPoison (s : State) (t : Tde) (b : Nat) : Bool :=
  match homeOf t with
  | none => false
  | some k => ! (poisonIn s.tier.poison (sectorNo k (64 * b)) 64).isEmpty

/-- The blocks of a tile that may be coded: raw, sound, unpoisoned and unprotected (R162). -/
def eligible (s : State) (t : Tde) (ext : Nat) : List Nat :=
  if isProtected s t.part ext || (shareFind s ext).isSome then []
  else (List.range 16).filter fun b => blockLen t b == 0 && ! isDamaged t b && ! hasPoison s t b

/-- The sheet with which a move into a tier codes a tile's raw blocks (R161 to R163, R302), by the row's CODE bit
(0 Ridge, 1 Batten, 2 Underlay). The second part tells whether only the want of an ACTIVE bank of the owner forbids it. -/
def codePlan (s : State) (key bit : Nat) : Option (Nat × Nat) × Bool :=
  let t := tdeOf s key
  match governRow s t.part (extOf key) with
  | none => (none, false)
  | some r =>
    if ! bitAt r (7 + bit) then (none, false)
    else match activeBank s (field r 15 10) with
      | none => (none, true)
      | some k =>
        if (bankOf s k).owner != t.part then (none, true)
        else if t.blockLen.isEmpty then (some (field r 15 10, (bankOf s k).gen), false)
        else if (activeBank s t.sheetSlot).any (fun j => (bankOf s j).gen == t.sheetGen) then
          (some (t.sheetSlot, t.sheetGen), false)
        else (none, false)

/-- The encoders of an MD in use. (DESIGN CHOICE, log entry 26.) -/
def encodersOf (s : State) (md : Nat) : List Nat :=
  (List.range 16).filter fun e => ! s.codec.encodersOut.contains (md * 16 + e)

/-- Queues the encode of one block; with no encoder left it stays raw, and the first time an event tells (R167).
(DESIGN CHOICE, log entry 26.) -/
def startEncode (key b md : Nat) (sheet : Nat × Nat) (isPark : Bool) (raw : List Byte) (s : State) : State :=
  let es := encodersOf s md
  if es.isEmpty then s
  else
    let e := es.getD (freeValue s % es.length) 0
    let j : EncodeJob :=
      { id := s.codec.nextJob, md := md, encoder := e, key := key, block := b
        sheetSlot := sheet.1, sheetGen := sheet.2, isPark := isPark, raw := raw }
    pin sheet.1 sheet.2 ((used s).setCodec { s.codec with encodes := s.codec.encodes ++ [j], nextJob := s.codec.nextJob + 1 })

/-- Queues encodes of several blocks of a tile from their stored bytes. -/
def startEncodes (key md : Nat) (sheet : Nat × Nat) (isPark : Bool) (bs : List Nat) (s : State) : State :=
  match homeOf (tdeOf s key) with
  | none => s
  | some k => bs.foldl (fun u b => startEncode key b md sheet isPark (memRead u.tier.mem (sectorNo k (64 * b) * 64) 4096) u) s

/-- A decode that a move, or a park, of its tile asked for. -/
def DecodeJob.ofWork (j : DecodeJob) (isPark : Bool) : Bool :=
  match j.use with
  | .verify p _ _ => p == isPark
  | .recode => ! isPark
  | .host _ => false
  | .reader _ => false

/-- Encodes and decodes of a tile's move or park that are not done. -/
def coding (s : State) (key : Nat) (isPark : Bool) : Bool :=
  (s.codec.encodes.any fun j => j.key == key && j.isPark == isPark)
    || s.codec.decodes.any fun j => j.key == key && j.ofWork isPark

/-! ### The developers of an MD (R168, R169) -/

/-- The order in which developers take requests (R169): by class, and within it the deadline-tagged ones first. -/
def DecodeJob.rank (j : DecodeJob) : Nat :=
  2 * (match j.use with
    | .host _ => 0
    | .reader who => if who.head? == some 3 then 2 else 0
    | .verify _ _ _ => 1
    | .recode => 2) + ofBool (! j.tagged)

/-- The decodes of an MD at a stage. -/
def decodesAt (s : State) (md stage : Nat) : List DecodeJob := s.codec.decodes.filter fun j => j.md == md && j.stage == stage

/-- Moves a decode to a stage. -/
def stageDecode (id stage : Nat) (s : State) : State :=
  s.setCodec { s.codec with decodes := s.codec.decodes.map fun j => if j.id == id then { j with stage := stage } else j }

/-- The queue of an MD takes the oldest request that waits at the mover, if it has room (R169). -/
def admitDecode (md : Nat) (s : State) : State :=
  match decodesAt s md 0 with
  | [] => s
  | j :: _ => if (decodesAt s md 1).length < 512 then stageDecode j.id 1 s else s

/-- The queued decode that a free developer group of an MD takes next (R169). -/
def nextDecode (s : State) (md : Nat) : Option DecodeJob :=
  (List.range 6).findSome? fun r => (decodesAt s md 1).find? (·.rank == r)

/-- The developer groups of an MD that are free take requests (R168, R169). -/
def pumpDecodes (md : Nat) : Nat → State → State
  | 0, s => s
  | n + 1, s =>
    let s1 := admitDecode md s
    if 8 ≤ (decodesAt s1 md 2).length then s1
    else match nextDecode s1 md with
      | none => s1
      | some j => pumpDecodes md n (stageDecode j.id 2 s1)

/-- The developers of an MD look at their queue: a freed group takes a request, and the queue one that waits. -/
def turnDecodes (md : Nat) (s : State) : State := pumpDecodes md 10 s

/-- A block is to be decoded: the request waits at the mover while the MD's queue is full (R169). -/
def queueDecode (j : DecodeJob) (s : State) : State :=
  turnDecodes j.md (s.setCodec { s.codec with
    decodes := s.codec.decodes ++ [{ j with id := s.codec.nextJob }], nextJob := s.codec.nextJob + 1 })

/-- A decode has ended, and leaves its developer group. -/
def decodeOver (j : DecodeJob) (s : State) : State :=
  turnDecodes j.md (s.setCodec { s.codec with decodes := s.codec.decodes.filter (·.id != j.id) })

/-- A command with a deadline waits for a move or a park (R286): its decodes are deadline-tagged. -/
def taggedBy (ws : List Waiter) (s : State) : Bool :=
  ws.any fun w => match w with
    | .cmd id => (MapOps.get? id s.queue.cmds).any fun c => c.expiry.isSome
    | _ => false

/-- What a decode gives, with the bits that arrive otherwise than stored (R171). -/
def DecodeJob.result (j : DecodeJob) (error : List Byte) (s : State) : Except Nat (List Byte) :=
  if j.bad then .error 0
  else decodeBlock j.bytes.length j.sheetSlot j.sheetGen (bankView s j.sheetSlot j.sheetGen)
    (slice (xorBytes j.bytes error) 0 j.bytes.length 0)

/-- Drops the encodes and verify decodes of a tile's move, or of its extent's park, with their pins. -/
def dropCoding (key : Nat) (isPark : Bool) (s : State) : State :=
  let es := s.codec.encodes.filter fun j => j.key == key && j.isPark == isPark
  let isV := fun (j : DecodeJob) => j.key == key && j.ofWork isPark
  let ds := s.codec.decodes.filter isV
  let s1 := s.setCodec { s.codec with
    encodes := s.codec.encodes.filter fun j => ! (j.key == key && j.isPark == isPark)
    decodes := s.codec.decodes.filter fun j => ! isV j }
  let s2 := ds.foldl (fun u j => unpin j.sheetSlot j.sheetGen u) (es.foldl (fun u j => unpin j.sheetSlot j.sheetGen u) s1)
  (dedup (ds.map (·.md))).foldl (fun u md => turnDecodes md u) s2

/-- Gives a move or a park the coded bytes of a block; 4,096 bytes stand for a block stored raw anew. -/
def giveCoded (key b : Nat) (isPark : Bool) (bytes : List Byte) (s : State) : State :=
  if isPark then
    s.setTier { s.tier with
      parks := s.tier.parks.map fun p =>
        if p.ext == extOf key then
          { p with coded := p.coded.filter (fun c => ! (c.1 == key && c.2.block == b)) ++ [(key, ⟨b, bytes⟩)] } else p }
  else
    s.setTier { s.tier with
      moves := s.tier.moves.map fun m =>
        if m.key == key then { m with coded := m.coded.filter (·.block != b) ++ [⟨b, bytes⟩] } else m }

/-- The move of a tile. -/
def moveOf (s : State) (key : Nat) : Option Move := s.tier.moves.find? (·.key == key)

/-- A re-encode's block that does not code is stored raw (R179). -/
def keepRaw (j : EncodeJob) (s : State) : State :=
  if ! j.isPark && (moveOf s j.key).any (fun m => m.kind == .reencode) && blockLen (tdeOf s j.key) j.block != 0
  then giveCoded j.key j.block false j.raw s else s

/-- An encode ends (R165, R166): a block of more than 4,080 B stays raw, another goes to its verify decode.
(DESIGN CHOICE, log entry 26.) -/
def encodeEnd (j : EncodeJob) (error : List Byte) (s : State) : State :=
  let s1 := s.setCodec { s.codec with encodes := s.codec.encodes.filter (·.id != j.id) }
  let r := match bankView s j.sheetSlot j.sheetGen with
    | none => none
    | some (wide, size, entries) => encodeBlock j.sheetSlot j.sheetGen size wide entries j.raw
  match r with
  | none => keepRaw j (count 0x3040 2 (unpin j.sheetSlot j.sheetGen s1))
  | some bytes =>
    let ws := if j.isPark then (s.tier.parks.filter (·.ext == extOf j.key)).flatMap (·.waiters)
      else (s.tier.moves.filter (·.key == j.key)).flatMap (·.waiters)
    queueDecode
      { id := 0, md := j.md, key := j.key, block := j.block
        sheetSlot := j.sheetSlot, sheetGen := j.sheetGen, bytes := slice (xorBytes bytes error) 0 bytes.length 0
        use := .verify j.isPark j.encoder j.raw, tagged := taggedBy ws s } s1

/-- An encode whose encoder went out of use goes to another of its MD; with none left its block stays raw (R167). -/
def handEncode (j : EncodeJob) (s : State) : State :=
  let es := encodersOf s j.md
  if es.isEmpty then
    keepRaw j (unpin j.sheetSlot j.sheetGen (s.setCodec { s.codec with encodes := s.codec.encodes.filter (·.id != j.id) }))
  else
    let e := es.getD (freeValue s % es.length) 0
    (used s).setCodec { s.codec with
      encodes := s.codec.encodes.map fun q => if q.id == j.id then { q with encoder := e } else q }

/-- A failed read-after-encode check (R167): the encoder goes out of use, with the encodes that wait for it. -/
def encoderFails (md e : Nat) (s : State) : State :=
  let s0 := raise 0x0402 none 0
    (count 0x3040 4 (s.setCodec { s.codec with encodersOut := setInsert (md * 16 + e) s.codec.encodersOut }))
  let s1 := (s0.codec.encodes.filter fun j => j.md == md && j.encoder == e).foldl (fun u j => handEncode j u) s0
  if (encodersOf s1 md).isEmpty && ! s1.codec.exhausted.contains md then
    raise 0x0406 none 0 (s1.setCodec { s1.codec with exhausted := setInsert md s1.codec.exhausted })
  else s1

/-- A verify decode ends (R166, R167, R176). -/
def verifyEnd (j : DecodeJob) (isPark : Bool) (encoder : Nat) (raw : List Byte) (error : List Byte) (s : State) : State :=
  let ok := match j.result error s with
    | .ok r => r == raw
    | .error _ => false
  let s2 := count 0x3040 5 (decodeOver j s)
  let s3 := if ok then giveCoded j.key j.block isPark j.bytes s2
    else
      let u := encoderFails j.md encoder s2
      if ! isPark && blockLen (tdeOf u j.key) j.block != 0 then giveCoded j.key j.block false raw u else u
  unpin j.sheetSlot j.sheetGen s3

/-- Counts blocks that stay raw for want of a sheet (R162). -/
def countNoSheet (want : Bool) (n : Nat) (s : State) : State := if want then countBy 0x3040 3 n s else s

/-- The row by which the ageing process re-encodes a tile (R179), none of a tile that it leaves. A tile of an extent with a share row is
left (R302), and one of a protected region (R69). Where a coded block is DAMAGED the tile's coded blocks stay as they are, since that
block does (R41, R147, R175; DEDUCED, log entry 89). -/
def reencodeRow (s : State) (key : Nat) : Option Nat :=
  let t := tdeOf s key
  if ! isHome t.tier || t.blockLen.isEmpty || ! (t.state == .resident || t.state == .damaged) || t.blockLen.any (fun p => isDamaged t p.1)
      || isProtected s t.part (extOf key) || (shareFind s (extOf key)).isSome then none
  else match governRow s t.part (extOf key) with
    | none => none
    | some r =>
      if bitAt r 16 && field r 15 10 == t.sheetSlot
          && (bankFind s t.sheetSlot t.sheetGen).any (fun k => (bankOf s k).state == 3 && (bankOf s k).owner == t.part)
          && (activeBank s t.sheetSlot).isSome then some r else none

/-- True of a tile that the ageing process re-encodes (R179). (DEDUCED, log entry 89.) -/
def wantsReencode (s : State) (key : Nat) : Bool := (reencodeRow s key).isSome

/-! ### Blocks that a move stores afresh (R175, R179, R303) -/

/-- A re-encode leaves its tile's coded blocks as they are (R41, R175; DEDUCED, log entry 89): it copies them, and codes nothing. -/
def keepSheet (key : Nat) (s : State) : State :=
  let s1 := dropCoding key false s
  s1.setTier { s1.tier with
    moves := s1.tier.moves.map fun m => if m.key == key then { m with sheet := none, codesRaw := false, coded := [] } else m }

/-- A block that failed a decode for a move is DAMAGED if it is still stored as it was read (R172, R175). -/
def recodeFails (j : DecodeJob) (check : Nat) (s : State) : State :=
  let t := tdeOf s j.key
  if blockLen t j.block == j.bytes.length && (t.sheetSlot, t.sheetGen) == (j.sheetSlot, j.sheetGen) && ! isDamaged t j.block
  then damageBlock j.key j.block check s else s

/-! ### Decodes for readers inside the device (R169, R170) -/

/-- A command with a deadline is served by what a reader reads: its decodes are deadline-tagged (R169). -/
def readerTagged (who : List Nat) (s : State) : Bool :=
  match who with
  | 0 :: id :: _ => s.cmp.runs.any fun r => r.id == id && r.expiry.isSome
  | 1 :: id :: _ => (MapOps.get? id s.queue.cmds).any fun c => c.expiry.isSome
  | _ => false

/-- A block that has been decoded for a reader. -/
def decodedFor (s : State) (who : List Nat) (key b : Nat) : Option Decoded :=
  s.codec.decoded.find? fun d => d.who == who && d.key == key && d.block == b

/-- A decode for a reader has not ended. -/
def decodingFor (s : State) (who : List Nat) (key b : Nat) : Bool :=
  s.codec.decodes.any fun j => j.use == .reader who && j.key == key && j.block == b

/-- The home of a coded block queues its decode for a reader, with the pin on its generation (R148, R169): the sectors of the block are
read for a master. -/
def askDecode (who : List Nat) (master key b : Nat) (s : State) : State :=
  let t := tdeOf s key
  match homeOf t with
  | none => s
  | some k =>
    let c := codedBytes s k b (blockLen t b)
    queueDecode
      { id := 0, md := t.homeMd, key := key, block := b, sheetSlot := t.sheetSlot, sheetGen := t.sheetGen, bytes := c.1
        use := .reader who, bad := c.2, tagged := readerTagged who s }
      (pin t.sheetSlot t.sheetGen (chargeTier master t.tier (ceilDiv (blockLen t b) 64) s))

/-- A decode for a reader ends (R171, R172). -/
def readerEnd (j : DecodeJob) (who : List Nat) (error : List Byte) (s : State) : State :=
  let s1 := unpin j.sheetSlot j.sheetGen (count 0x3040 5 (decodeOver j s))
  let r := j.result error s
  let s2 := match r with | .ok _ => s1 | .error e => recodeFails j e s1
  if who.isEmpty then s2
  else s2.setCodec { s2.codec with
    decoded := s2.codec.decoded ++ [⟨who, j.key, j.block, r.toOption, j.bytes, j.sheetSlot, j.sheetGen⟩] }

/-- Readers take nothing more: what has been decoded for them is dropped, and decodes that run for them end for nobody. -/
def forgetReads (f : List Nat → Bool) (s : State) : State :=
  let gone := fun (u : DecodeUse) => match u with | .reader who => f who | _ => false
  s.setCodec { s.codec with
    decoded := s.codec.decoded.filter fun d => ! f d.who
    decodes := s.codec.decodes.map fun j => if gone j.use then { j with use := .reader [] } else j }

/-- The reads of a command, or of a run, are over, and so are the waits of its writes for home slots. -/
def forgetWork (kind id : Nat) (s : State) : State :=
  let mine := fun (who : List Nat) => who.take 2 == [kind, id]
  let t := forgetReads mine s
  t.setTier { t.tier with slotWaits := t.tier.slotWaits.filter fun w => ! mine w.who }

/-- The decode of a block that a move stores afresh ends: the block goes to an encoder, or is kept raw by a share rewrite or where no
encoder is left (R167, R179, R303). One that fails is left as it was by a re-encode, and is zeros to a share rewrite (R174, R175). -/
def recodeEnd (j : DecodeJob) (error : List Byte) (s : State) : State :=
  let s1 := unpin j.sheetSlot j.sheetGen (count 0x3040 5 (decodeOver j s))
  match moveOf s1 j.key, j.result error s with
  | none, _ => s1
  | some m, .ok raw =>
    (match m.kind, m.sheet with
      | .reencode, some sh =>
        if (encodersOf s1 j.md).isEmpty then giveCoded j.key j.block false raw s1
        else startEncode j.key j.block j.md sh false raw s1
      | .reencode, none => s1
      | _, _ => giveCoded j.key j.block false raw s1)
  | some m, .error e =>
    let s2 := recodeFails j e s1
    if m.kind == .reencode then keepSheet j.key s2 else giveCoded j.key j.block false (zeros 4096) s2

end Sys2Proof.Machine
end

