-- ==== Sys2Proof/Machine/UnderOps.lean ====
section
/-! DEFINITION. The geometry of Underlay, superblocks, extent images and park records (chapter 11). -/

namespace Sys2Proof.Machine

open Sys2Proof

/-! ### Geometry and capacity -/

/-- N: units of a channel (chapter 11, before R398). -/
def unitsAll (s : State) : Nat := s.und.ces * s.und.luns * s.und.planes

/-- U of R398. -/
def unitsUsed (s : State) : Nat :=
  let n := unitsAll s
  if n ≤ 16 then n
  else (List.range 17).foldl (fun a d => if d != 0 && n % d == 0 then d else a) 1

/-- G of R398. -/
def unitGroups (s : State) : Nat := unitsAll s / unitsUsed s

/-- Where unit n of a channel lies: chip enable, LUN and plane (R398). -/
def unitPlace (s : State) (n : Nat) : Nat × Nat × Nat :=
  (n % max 1 s.und.ces, n / max 1 s.und.ces % max 1 s.und.luns, n / max 1 (s.und.ces * s.und.luns))

/-- The page of a row in its blocks (R399). -/
def rowPage (s : State) (row : Nat) : Nat := row / max 1 (unitsUsed s)

/-- The unit of a row of a superblock (R398, R399). -/
def unitOf (s : State) (sb row : Nat) : Nat := sb % max 1 (unitGroups s) * unitsUsed s + row % max 1 (unitsUsed s)

/-- The block of a superblock in a unit of a channel: the spare that has taken its place, or that of R399. -/
def blockOf (s : State) (sb channel unit : Nat) : Nat :=
  (MapOps.get? ((channel * 512 + unit) * 2 ^ 24 + sb) s.und.replaced).getD (sb / max 1 (unitGroups s))

/-- Rows of a superblock (R399). -/
def sbRows (s : State) : Nat := unitsUsed s * s.und.pages

/-- Superblocks for images: all but the 2 % of the system area (R426; DESIGN CHOICE, log entry 6). -/
def sbTotal (s : State) : Nat := unitGroups s * s.und.blocks * 98 / 100

/-- Chunks of a superblock. -/
def sbChunks (s : State) (b : Superblock) : Nat := sbRows s * rowChunks b

/-- Raw capacity in bytes (Table 1-9). -/
def rawCapacity (s : State) : Nat := (s.und.channels.filter (fun p => p.2 != 0)).length * s.und.ces * s.und.ceGiB * 2 ^ 30

/-- Usable capacity in bytes (R426). (DESIGN CHOICE, log entry 6.) -/
def usableCapacity (s : State) : Nat :=
  let raw := rawCapacity s
  (raw * 15 * (100 - s.und.overProvision) / 1600 - raw * 2 / 100) / 2097152 * 2097152

/-- EPR numbers (R405). -/
def eprCount (s : State) : Nat := min (2 * (usableCapacity s / 2097152)) (2 ^ 28)

/-- Writes a superblock. -/
def setSb (n : Nat) (b : Superblock) (s : State) : State :=
  s.setUnd { s.und with superblocks := MapOps.put n {} b s.und.superblocks }

/-- Parks can run (Table 11-6). -/
def underlayParks (s : State) : Bool := s.und.state == 2 || s.und.state == 3

/-- No usable Underlay: every channel offline, none populated, or the mount failed (R90, Table 11-6). -/
def noUnderlay (s : State) : Bool := s.und.state == 0 || s.und.state == 5

/-- The channel that is offline while Underlay is DEGRADED. -/
def offlineChannel (s : State) : Option Nat := (s.und.channels.find? fun p => p.2 == 2 || p.2 == 3).map (·.1)

/-- The superblocks that are not free. -/
def sbUsed (s : State) : List Nat := (s.und.superblocks.filter fun p => p.2.use != 0).map (·.1)

/-- Free superblocks. -/
def sbFree (s : State) : Nat := sbTotal s - (sbUsed s).length

/-- The erases of one block of a superblock, by channel × 16 + unit (R417). -/
def blockErases (b : Superblock) (k : Nat) : Nat := b.erases - MapOps.getD k 0 b.fresh

/-- The erases of all blocks of a superblock: its mean erase count times the number of its blocks (R417). -/
def sbWear (s : State) (b : Superblock) : Nat := 16 * unitsUsed s * b.erases - (b.fresh.map (·.2)).sum

/-- A retired block of a superblock has not been replaced yet (R421). -/
def sbRetiring (s : State) (sb : Nat) : Bool := s.und.retiring.any fun p => p.1 % 2 ^ 24 == sb

/-- The free superblocks of lowest mean erase count (R417): those that were erased, and those never used. -/
def sbCandidates (s : State) : List Nat :=
  let known := s.und.superblocks.filter fun p => p.2.use == 0 && p.1 < sbTotal s && ! sbRetiring s p.1
  let fresh := nthFree (s.und.superblocks.map (·.1)) 0
  let c := (known.map fun p => (p.1, sbWear s p.2)) ++ (if fresh < sbTotal s then [(fresh, 0)] else [])
  let low := c.foldl (fun a p => match a with | none => some p.2 | some e => some (min e p.2)) (none : Option Nat)
  (c.filter fun p => some p.2 == low).map (·.1)

/-- Opens a superblock (R417, R424): which of those of lowest erase count is a free value. A SUPERBLOCK record tells of the
channel that is offline. (DESIGN CHOICE, log entry 113.) -/
def openSb (s : State) : Option (Nat × State) :=
  let c := sbCandidates s
  if c.isEmpty then none
  else
    let n := c.getD (freeValue s % c.length) 0
    let b := { sbOf s n with use := 1, offline := offlineChannel s, nextChunk := 0, valid := 0, firstProgram := none, reads := []
                             overdue := false }
    let s1 := setSb n b (used s)
    some (n, match b.offline with
      | some q => formRecord (.superblock n q 0 (blockOf s n q 0) b.erases) s1
      | none => s1)

/-- A superblock that has no chunk left takes no further image. -/
def closeFull (s : State) (b : Superblock) : Superblock := if sbChunks s b ≤ b.nextChunk then { b with use := 2 } else b

/-- The rows of a superblock that chunks up to a number complete: their data are held while their pages are programmed (R402). -/
def rowsKnown (n lo hi : Nat) (s : State) : State :=
  let pr := rowChunks (sbOf s n)
  s.setUnd { s.und with
    rows := (span (lo / pr) (hi / pr - lo / pr)).foldl (fun m r => MapOps.insert (n * 65536 + r) (rowChannels s n) m) s.und.rows }

/-- Chunks of a superblock become known up to a number, all but some of them of images (R402, R403). -/
def takeChunks (n hi valid : Nat) (s : State) : State :=
  let b := sbOf s n
  rowsKnown n b.nextChunk hi (setSb n (closeFull s { b with nextChunk := hi, valid := b.valid + valid }) s)

/-- The place of an image of n chunks: superblock and chunk number x (R403). -/
def placeImage (n : Nat) (s : State) : Option (Nat × Nat × State) :=
  let take := fun (u : State) (m : Nat) =>
    let x := (sbOf u m).nextChunk
    some (m, x, takeChunks m (x + n) n u)
  match s.und.superblocks.find? (fun p => p.2.use == 1 && p.2.nextChunk + n ≤ sbChunks s p.2) with
  | some p => take s p.1
  | none =>
    match openSb s with
    | none => none
    | some (m, s1) => if n ≤ sbChunks s1 (sbOf s1 m) then take s1 m else none

/-- An image is handed to the rows that hold its chunks (R402, R403). -/
def putImage (sb x : Nat) (img : List Byte) (s : State) : State :=
  s.setUnd { s.und with images := MapOps.insert (sb * 2 ^ 24 + x) img s.und.images }

/-- Gives chunks of a superblock up: they are stale (R416). -/
def staleChunks (n chunks : Nat) (s : State) : State := setSb n { sbOf s n with valid := (sbOf s n).valid - chunks } s

/-! ### Images -/

/-- Bytes padded with zeros to a multiple of 16 (R70). -/
def pad16 (bs : List Byte) : List Byte := bs ++ zeros ((16 - bs.length % 16) % 16)

/-- Bytes of the image that a block of this length mark takes (R70, R404). -/
def imageBlock (len : Nat) : Nat := if len == 0 || len == 4095 then 4096 else (len + 15) / 16 * 16

/-- One tile of an image: its flag, sheet, block marks and bytes, and its poison entries (R403, R404). -/
structure ImageTile where
  flag : Nat
  sheet : Nat × Nat
  lens : List Nat
  bytes : List Byte
  poison : List (Nat × Nat)
  /-- Coded blocks. -/
  coded : Nat
  deriving DecidableEq, Repr

/-- The mask of the poisoned sectors of a block. -/
def poisonMask (s : State) (k b : Nat) : Nat :=
  (List.range 64).foldl (fun a i => if sectorPoisoned s k (64 * b + i) then a + 2 ^ i else a) 0

/-- A tile as a park packs it. -/
def packTile (s : State) (p : Park) (key : Nat) : ImageTile :=
  let t := tdeOf s key
  if t.state == .poisoned then ⟨2, (0, 0), List.replicate 16 0, [], [], 0⟩
  else match homeOf t with
  | none => ⟨1, (0, 0), List.replicate 16 0, [], [], 0⟩
  | some k =>
    let mine := p.coded.filter fun c => c.1 == key
    let part := fun b : Nat =>
      if isDamaged t b then (4095, zeros 4096)
      else match mine.find? (fun c => c.2.block == b) with
        | some c => (c.2.bytes.length, pad16 c.2.bytes)
        | none =>
          if blockLen t b == 0 then (0, memRead s.tier.mem (sectorNo k (64 * b) * 64) 4096)
          else (blockLen t b, pad16 (codedBytes s k b (blockLen t b)).1)
    let parts := (List.range 16).map part
    let coded := (parts.filter fun q => q.1 != 0 && q.1 != 4095).length
    let sheet := if coded == 0 then (0, 0)
      else if ! t.blockLen.isEmpty then (t.sheetSlot, t.sheetGen)
      else match mine.head? with
        | some c => ((codedFacts c.2.bytes).slot, (codedFacts c.2.bytes).gen)
        | none => (0, 0)
    ⟨0, sheet, parts.map (·.1), parts.flatMap (·.2),
      (List.range 16).filterMap (fun b => if isDamaged t b || poisonMask s k b == 0 then none
        else some (16 * (key % 32) + b, poisonMask s k b)), coded⟩

/-- A value per place laid into a number: width bits each from a low bit. -/
def laid (vs : List Nat) (width lo : Nat) : Nat := vs.zipIdx.foldl (fun a p => a + put p.1 width (lo + width * p.2)) 0

/-- The image of an extent (Table 11-2, R404). -/
def imageBytes (ext part : Nat) (ts : List ImageTile) : List Byte :=
  let plist := ts.flatMap (·.poison)
  let pb := plist.flatMap fun q => toBytes 2 q.1 ++ zeros 6 ++ toBytes 8 q.2
  let data := ts.flatMap (·.bytes)
  let len := 1024 + pb.length + data.length
  let h := 0x554C5859 + put ext 28 32 + put part 6 64 + put plist.length 10 80 + put len 22 96
    + laid (ts.map fun t => t.sheet.1 + 64 * t.sheet.2) 16 128 + laid (ts.map (·.flag)) 2 640
    + laid (ts.flatMap (·.lens)) 12 704
  let hb := toBytes 1020 h
  hb ++ toBytes 4 (crc32c (hb ++ pb)) ++ pb ++ data

/-- The image byte at which each tile begins, by the sizes of those before it. -/
def tileOffsets : Nat → List ImageTile → List (Option Nat)
  | _, [] => []
  | o, t :: ts => (if t.bytes.isEmpty then none else some o) :: tileOffsets (o + t.bytes.length) ts

/-- TILE_START of each tile (R405). -/
def tileStarts (ts : List ImageTile) : List Nat :=
  (tileOffsets (1024 + 16 * (ts.flatMap (·.poison)).length) ts).map fun o => match o with | some b => b / 2048 | none => 2047

/-- The sheet generations that an image names, with their coded blocks (R406). -/
def sheetsOf (ts : List ImageTile) : List (Nat × Nat × Nat) :=
  ts.foldl (fun a t =>
    if t.coded == 0 then a
    else if a.any (fun q => q.1 == t.sheet.1 && q.2.1 == t.sheet.2) then
      a.map fun q => if q.1 == t.sheet.1 && q.2.1 == t.sheet.2 then (q.1, q.2.1, q.2.2 + t.coded) else q
    else a ++ [(t.sheet.1, t.sheet.2, t.coded)]) []

/-- The header of an image as a number. -/
def imageHeader (img : List Byte) : Nat := ofBytes (img.take 1024)

/-- TILE_FLAGS of a tile. -/
def imageFlag (h t : Nat) : Nat := field h (640 + 2 * t + 1) (640 + 2 * t)

/-- BLOCK_LEN of block i of an image. -/
def imageLen (h i : Nat) : Nat := field h (704 + 12 * i + 11) (704 + 12 * i)

/-- SHEET_SLOT and SHEET_GEN of a tile of an image. -/
def imageSheet (h t : Nat) : Nat × Nat := (field h (128 + 16 * t + 5) (128 + 16 * t), field h (128 + 16 * t + 15) (128 + 16 * t + 6))

/-- The image byte at which block i begins. -/
def imageOffset (h i : Nat) : Nat :=
  (List.range i).foldl (fun a j => if imageFlag h (j / 16) == 0 then a + imageBlock (imageLen h j) else a)
    (1024 + 16 * field h 89 80)

/-- The mask of poisoned sectors that an image's poison list gives for block i. -/
def imagePoison (img : List Byte) (i : Nat) : Nat :=
  let n := field (imageHeader img) 89 80
  (List.range n).foldl (fun a j =>
    let e := ofBytes ((img.drop (1024 + 16 * j)).take 16)
    if field e 15 0 == i then field e 127 64 else a) 0

/-- The image chunks that hold bytes of a tile, as first and last; none for a tile without blocks. -/
def tileChunks (h t : Nat) : Option (Nat × Nat) :=
  let a := imageOffset h (16 * t)
  let b := imageOffset h (16 * t + 16)
  if a == b then none else some (a / 2048, (b - 1) / 2048)

/-- An image has lost what a tile needs: the header or poison list, or a chunk of the tile (R413). -/
def tileLost (s : State) (number : Nat) (img : List Byte) (t : Nat) : Bool :=
  let h := imageHeader img
  let lost := fun c => s.und.lost.contains (number * 2048 + c)
  ((List.range (ceilDiv (1024 + 16 * field h 89 80) 2048)).any lost) ||
    match tileChunks h t with
    | none => false
    | some (a, b) => (span a (b + 1 - a)).any lost

/-! ### Park records -/

/-- The 128 B of an EPR (Table 11-3). -/
def eprBytes (e : Epr) : List Byte :=
  let sh := e.sheets.map fun q => 1 + put q.1 6 1 + put q.2.1 10 7 + put q.2.2 10 17
  let w := 1 + put e.state 2 1 + put e.part 6 3 + put e.ext 28 9 + put e.seq 64 64 + put e.superblock 24 128
    + put e.row 16 152 + put e.chunk 7 168 + put e.chunks 11 175 + put e.parkedAt 48 192
    + laid e.tileStart 11 256 + laid sh 32 640
  let b := toBytes 124 w
  b ++ toBytes 4 (crc32c b)

/-- A channel is offline (R423). -/
def chanOffline (s : State) (c : Nat) : Bool := MapOps.getD c 0 s.und.channels == 2 || MapOps.getD c 0 s.und.channels == 3

/-- Pages of the sheet store that a bank's descriptor and entries take (R409). -/
def sheetPages (wide : Bool) (entries : Nat) : Nat := ceilDiv (32 + entries * (if wide then 16 else 8)) 16384

/-- Neither copy of a page of the system area can be read (R407). (DESIGN CHOICE, log entry 86.) -/
def pageUnreadable (s : State) (page : Nat) : Bool :=
  [0, 1].all fun c => s.und.sysBad.contains (2 * page + c) || chanOffline s (page % 8 + 8 * c)

/-- The MD that keeps an EPR in its cache: the directory MD of its extent (R405). -/
def eprMd (s : State) (number : Nat) : Nat := dirMd s (MapOps.getD number {} s.und.eprs).ext

/-- An EPR is in its MD's cache. -/
def eprCached (s : State) (number : Nat) : Bool := (MapOps.getD (eprMd s number) [] s.und.cached).contains number

/-- An EPR enters its MD's cache: of more than 32,768 the one that has been there longest leaves. (DESIGN CHOICE, log entry 114.) -/
def cacheEpr (number : Nat) (s : State) : State :=
  let m := eprMd s number
  let l := number :: (MapOps.getD m [] s.und.cached).filter (· != number)
  s.setUnd { s.und with cached := MapOps.insert m (l.take 32768) s.und.cached, eprReads := s.und.eprReads.filter (· != number) }

/-- Takes a free EPR number: which one is a free value (R405). -/
def newEpr (s : State) : Option (Nat × State) :=
  let taken := (s.und.eprs.map (·.1)).foldl (fun a n => setInsert n a) s.und.reserved
  let n := eprCount s - taken.length
  if n == 0 then none
  else
    let r := nthFree taken (freeValue s % n)
    some (r, (used s).setUnd { s.und with
      reserved := setInsert r s.und.reserved, sysBad := s.und.sysBad.filter fun p => p != 4 * r && p != 4 * r + 1 })

/-- An EPR ends: its image is gone and its chunks are stale (R408, R416). -/
def dropEpr (number : Nat) (s : State) : State :=
  match MapOps.get? number s.und.eprs with
  | none => s
  | some e =>
    staleChunks e.superblock e.chunks (s.setUnd { s.und with
      eprs := MapOps.erase number s.und.eprs
      cached := s.und.cached.map fun q => (q.1, q.2.filter (· != number))
      lost := s.und.lost.filter fun x => x / 2048 != number })

/-- A relocation that is not durable is abandoned (R415). -/
def abandonReloc (number : Nat) (s : State) : State :=
  match s.und.relocs.find? (·.number == number) with
  | none => s
  | some r =>
    staleChunks r.superblock ((MapOps.getD number {} s.und.eprs).chunks)
      (dropRecords (fun f => match f with | .relocate n _ _ _ => n == number | _ => false)
        (s.setUnd { s.und with relocs := s.und.relocs.filter (·.number != number) }))

/-- Releases the image of an extent: its RELEASE record waits to be durable (R74, Table 11-5). -/
def releaseEpr (number : Nat) (s : State) : State :=
  formRecord (.release number) (abandonReloc number s)

/-- Free superblocks are below GcUrgent (R416). -/
def gcUrgent (s : State) : Bool := decide (sbFree s * 100 < sbTotal s * scalar s 0x2700 0x12 2)

/-- The masters for which a relocation may run now: the background's and, for garbage collection below GcUrgent, those of the parks that
wait for it (R416); none that its admission point holds, unless it lets the background's go (R437). -/
def relocMasters (gc go : Bool) (s : State) : List Nat :=
  let parks := if gc && gcUrgent s then dedup ((s.tier.parks.filter fun p => p.window && ! p.committing).map (·.master)) else []
  (parks ++ [backgroundMaster]).filter fun m => (go && m == backgroundMaster) || ! heldMaster s m

/-- The master that a relocation is charged to: those that it may run for take turns. (DESIGN CHOICE, log entry 113.) -/
def relocMaster (gc go : Bool) (s : State) : Option Nat :=
  let l := relocMasters gc go s
  l[s.und.relocs.length % max 1 l.length]?

/-- The sectors charged for programming n chunks from chunk x of a superblock of pr chunks a row: the chunks, and the
eight parity chunks of each row that they complete (R432; DEDUCED, log entry 33). -/
def programCost (pr x n : Nat) : Nat := 32 * (n + 8 * ((x + n) / pr - x / pr))

/-- The MDs whose Underlay channels take images: those of the channels in use. -/
def underlayMds (s : State) : List Nat := dedup ((s.und.channels.filter fun p => p.2 == 1).map (·.1 / 2))

/-- The MDs of the Underlay channels that hold an image. -/
def imageMds (s : State) (number : Nat) : List Nat :=
  let e := MapOps.getD number {} s.und.eprs
  let pr := rowChunks (sbOf s e.superblock)
  dedup ((List.range (min e.chunks 240)).map fun i =>
    chunkChannel s e.superblock ((e.row * pr + e.chunk + i) / pr) ((e.row * pr + e.chunk + i) % pr) / 2)

/-- The image chunk of each EPR that chunk j of a row belongs to: EPR number and image chunk. -/
def chunkImage (s : State) (sb row j : Nat) : Option (Nat × Nat) :=
  let pr := rowChunks (sbOf s sb)
  let x := pr * row + j
  (s.und.eprs.find? fun p =>
    p.2.superblock == sb && pr * p.2.row + p.2.chunk ≤ x && x < pr * p.2.row + p.2.chunk + p.2.chunks).map fun p =>
    (p.1, x - (pr * p.2.row + p.2.chunk))

/-- A chunk cannot be read any more (R413). -/
def loseChunk (sb row j : Nat) (s : State) : State :=
  let s1 := raise 0x0B06 none (sb + put row 16 32) (count 0x30B0 7 s)
  match chunkImage s sb row j with
  | some (n, c) => s1.setUnd { s1.und with lost := setInsert (n * 2048 + c) s1.und.lost }
  | none => s1

/-- Codeword w of a page, by superblock, row and channel, among the uncorrectable ones. -/
def wordNo (sb row w channel : Nat) : Nat := ((sb * 65536 + row) * 8 + w) * 16 + channel

/-- The codeword in which chunk j of a row lies (R401, R424). -/
def chunkWord (s : State) (sb j : Nat) : Nat := j / (if (sbOf s sb).offline.isSome then 14 else 15)

/-- The data of chunk j of a row: those of the image that holds it, or the zeros that close a row (R401 to R403). -/
def chunkBytes (s : State) (sb row j : Nat) : List Byte :=
  let x := rowChunks (sbOf s sb) * row + j
  match s.und.images.find? fun q => q.1 / 2 ^ 24 == sb && q.1 % 2 ^ 24 ≤ x && x < q.1 % 2 ^ 24 + ceilDiv q.2.length 2048 with
  | some q => slice q.2 (2048 * (x - q.1 % 2 ^ 24)) 2048 0
  | none => zeros 2048

/-- The data of codeword w of a row's data pages, in the order of their positions (R401, R424). -/
def stripeData (s : State) (sb row w : Nat) : List (List Byte) :=
  let n := rowChunks (sbOf s sb) / 8
  (List.range n).map fun d => chunkBytes s sb row (n * w + d)

/-- Codeword w of a row's parity page (R401). -/
def parityBytes (s : State) (sb row w : Nat) : List Byte := xorAll 2048 (stripeData s sb row w)

/-- What a rebuild of the codeword at data position d computes: the exclusive-or of the row's other codewords w, its parity page's among
them (R412). -/
def rebuiltBytes (s : State) (sb row w d : Nat) : List Byte :=
  xorBytes (xorAll 2048 ((stripeData s sb row w).eraseIdx d)) (parityBytes s sb row w)

/-- The metadata of a codeword: superblock, row and chunk number (R401). (PRESUMED, log entry 129.) -/
def wordMeta (sb row j : Nat) : List Byte := toBytes 8 (put sb 32 0 + put row 16 32 + put j 7 48)

/-- Codeword w of every other page of the row can be read: its channel is in use, and it has not been found uncorrectable (R413). -/
def stripeWhole (s : State) (channel sb row w : Nat) : Bool :=
  (rowChannels s sb).all fun c =>
    c == channel || (MapOps.getD c 0 s.und.channels == 1 && ! s.und.bad.contains (wordNo sb row w c))

/-- Page reads are counted for their block (R420, R429). -/
def pageReads (n channel sb row : Nat) (s : State) : State :=
  let b := sbOf s sb
  let k := channel * 16 + row % max 1 (unitsUsed s)
  countBy 0x30B0 1 n (setSb sb { b with reads := MapOps.put k 0 (MapOps.getD k 0 b.reads + n) b.reads } s)

/-- A chunk that its channel can not give is rebuilt from the others of its row, or is lost (R412, R413). -/
def rebuiltAt (master channel sb row j : Nat) (s : State) : State :=
  let others := (rowChannels s sb).filter (· != channel)
  let s1 := charge master 2 (32 * others.length)
    (others.foldl (fun u c => if MapOps.getD c 0 u.und.channels == 1 then pageReads 1 c sb row u else u) s)
  if stripeWhole s channel sb row (chunkWord s sb j) then
    countBy 0x30B1 (channel + 1) 1 (count 0x30B0 6 (raise 0x0B05 none (channel + put sb 32 8 + put row 16 40) s1))
  else loseChunk sb row j s1

/-- The place of a chunk of an image: row and chunk of its superblock. -/
def imageChunkAt (s : State) (e : Epr) (c : Nat) : Nat × Nat :=
  let pr := rowChunks (sbOf s e.superblock)
  let x := e.row * pr + e.chunk + c
  (x / pr, x % pr)

/-- The chunks of an image, among some, that lie on a channel that is not in use. -/
def awayChunks (s : State) (number : Nat) (cs : List Nat) : List Nat :=
  let e := MapOps.getD number {} s.und.eprs
  cs.filter fun c =>
    let p := imageChunkAt s e c
    MapOps.getD (chunkChannel s e.superblock p.1 p.2) 0 s.und.channels != 1 && ! s.und.lost.contains (number * 2048 + c)

/-- Chunks of an image are read: those on an offline channel are rebuilt, or are lost (R412, R413, R423). -/
def readAround (master number : Nat) (cs : List Nat) (s : State) : State :=
  let e := MapOps.getD number {} s.und.eprs
  (awayChunks s number cs).foldl (fun u c =>
    let p := imageChunkAt u e c
    rebuiltAt master (chunkChannel u e.superblock p.1 p.2) e.superblock p.1 p.2 u) s

/-- Starts a relocation of one image (R414, R415), where there is room for it, no failed link lies between (R18) and a master may run it
(R437): each chunk is read and written once. -/
def startReloc (number : Nat) (gc go : Bool) (s : State) : State :=
  match MapOps.get? number s.und.eprs, relocMaster gc go s with
  | some e, some m =>
    if e.state == 2 || imageLost s e.ext || s.und.relocs.any (·.number == number) || ! diesUp s (dedup (imageMds s number ++ underlayMds s)) then s
    else match placeImage e.chunks (readAround m number (List.range e.chunks) s) with
    | none => s
    | some (sb, x, s1) =>
      let pr := rowChunks (sbOf s1 sb)
      formRecord (.relocate number sb (x / pr) (x % pr)) (charge m 2 (32 * e.chunks + programCost pr x e.chunks)
        (putImage sb x (imageAt s number) (s1.setUnd { s1.und with
          relocs := s1.und.relocs ++ [⟨number, sb, x / pr, x % pr⟩], wants := s1.und.wants.filter (·.1 != number) })))
  | _, _ => s

/-- Images are to be relocated as soon as they may be. -/
def wantReloc (gc : Bool) (numbers : List Nat) (s : State) : State :=
  let new := numbers.filter fun n => ! s.und.wants.any (·.1 == n) && ! s.und.relocs.any (·.number == n)
  s.setUnd { s.und with wants := s.und.wants ++ new.map fun n => (n, gc) }

/-- The relocations that wait start, as far as they may; those whose image is gone are forgotten (R414, R437). -/
def pumpRelocs (go : Bool) (s : State) : State :=
  let s1 := s.setUnd { s.und with
    wants := s.und.wants.filter fun w => (MapOps.get? w.1 s.und.eprs).isSome || s.und.reserved.contains w.1 }
  if underlayParks s1 then s1.und.wants.foldl (fun u w => startReloc w.1 w.2 go u) s1 else s1

/-- A row that waits for data is closed with zero chunks (R402). -/
def closeRow (n : Nat) (s : State) : State :=
  let b := sbOf s n
  if b.use != 1 then s else takeChunks n (ceilDiv b.nextChunk (rowChunks b) * rowChunks b) 0 s

/-- Closes a superblock: no further image goes into it. -/
def closeSb (n : Nat) (s : State) : State :=
  let s1 := closeRow n s
  if (sbOf s1 n).use == 1 then setSb n { sbOf s1 n with use := 2 } s1 else s1

/-- Every image of a superblock is to be relocated (R412, R416 to R424). -/
def relocateSb (n : Nat) (gc : Bool) (s : State) : State :=
  wantReloc gc ((s.und.eprs.filter fun p => p.2.superblock == n).map (·.1)) (closeSb n s)

/-- Relocations that fall due: while READ_ONLY they cannot run and an event tells once (R425). -/
def relocateDue (n : Nat) (s : State) : State :=
  let b := sbOf s n
  if underlayParks s then relocateSb n false s
  else if s.und.state == 4 && ! b.overdue then raise 0x0B0C none n (setSb n { b with overdue := true } s)
  else s

/-- The superblock that garbage collection takes, of those with stale chunks: fewest valid chunks, then lowest erase count (R416). -/
def gcVictim (s : State) : Option Nat :=
  let c := s.und.superblocks.filter fun p => p.2.use != 0 && p.2.valid < p.2.nextChunk
  (c.foldl (fun (a : Option (Nat × Superblock)) p => match a with
    | none => some p
    | some q => if p.2.valid < q.2.valid || (p.2.valid == q.2.valid && sbWear s p.2 < sbWear s q.2) then some p else some q)
    none).map (·.1)

/-- Garbage collection starts when free superblocks fall below 4 % (R416). -/
def gcCheck (s : State) : State :=
  if underlayParks s && sbFree s * 100 < sbTotal s * 4 then
    match gcVictim s with | some n => relocateSb n true s | none => s
  else s

/-- Garbage collection has something left to reclaim: a superblock to erase, or an image for which there is room (R416). -/
def gcWorks (s : State) : Bool :=
  match gcVictim s with
  | none => false
  | some n => (sbOf s n).valid == 0 || ! s.und.relocs.isEmpty
    || (s.und.eprs.any fun p => p.2.superblock == n && (placeImage p.2.chunks (closeSb n s)).isSome)

/-- A superblock whose images are all gone has been erased (R414): one erase more, which a SUPERBLOCK record tells of (Table 11-5).
(DESIGN CHOICE, log entry 113.) -/
def eraseSb (n : Nat) (s : State) : State :=
  let b := sbOf s n
  let s1 := s.setUnd { s.und with
    images := s.und.images.filter fun p => p.1 / 2 ^ 24 != n, bad := s.und.bad.filter fun w => w / 2 ^ 23 != n }
  formRecord (.superblock n 0 0 (blockOf s n 0 (unitOf s n 0)) (b.erases + 1))
    (lifeBy 0x0D 1 (count 0x30B0 3 (setSb n { erases := b.erases + 1, fresh := b.fresh } s1)))

/-- UnderlayState by its channels (Table 11-6), after the mount. -/
def underlayState (s : State) : Nat :=
  let off := underlayOffline s
  let n := (s.und.channels.filter fun p => p.2 != 0).length
  if n == 0 then 0
  else if off ≥ n then 5
  else if off ≥ 2 || s.und.spares.any (fun p => p.2 == 0) then 4
  else if off == 1 then 3 else 2

/-- UnderlayState changes, with its event (R425); a FAILED Underlay stays so until a format. -/
def updateUnderlay (s : State) : State :=
  if s.und.state == 0 || s.und.state == 1 || s.und.state == 5 then s
  else if underlayState s == s.und.state then s
  else raise 0x0B03 none (underlayState s) (s.setUnd { s.und with state := underlayState s })

end Sys2Proof.Machine
end

