-- ==== Sys2Proof/Machine/TierWork.lean ====
section
/-! DEFINITION. Moves, parks, unparks and drops: requests, starts, pass ends, flips and aborts, and the loss of
tiles (chapter 2, with R18 for paths over failed links). -/

namespace Sys2Proof.Machine

open Sys2Proof

/-! ### Notices -/

/-- The subject of a notice about a whole extent. -/
def extSubject (ext : Nat) : Nat := 2 ^ 40 + ext

/-- Tells waiters how their subject ended. -/
def tell (ws : List Waiter) (subject : Nat) (e : Ending) (s : State) : State :=
  s.setTier { s.tier with notices := s.tier.notices ++ ws.map fun w => ⟨w, subject, e⟩ }

/-! ### Requests for moves (R49, R56) -/

/-- A request for a plain move. `hint` is the hint's code, 0 for none, and 9 for a run-ahead move (R251). -/
def plainMove (key : Nat) (tier : Tier) (md hint master : Nat) (ws : List Waiter) : MoveReq :=
  { key := key, tier := tier, md := md, kind := .plain, hint := hint, master := master, evict := none, waiters := ws }

/-- Records a request that the running move of its tile keeps from starting; the one it supersedes ends (R49). -/
def recordNext (r : MoveReq) (s : State) : State :=
  let old := s.tier.moveNext.filter (·.key == r.key)
  let s1 := s.setTier { s.tier with moveNext := s.tier.moveNext.filter (·.key != r.key) ++ [r] }
  old.foldl (fun u o => tell o.waiters o.key .refused u) s1

/-- A request that joins one that waits for the same destination: it keeps the hint that may evict (R57). -/
def joinReq (q r : MoveReq) : MoveReq :=
  { q with waiters := q.waiters ++ r.waiters, hint := if q.hint == 0 || r.hint == 1 then r.hint else q.hint }

/-- Two requests ask the same of a tile, and neither is a hint's that another hint may replace without the other (R56). -/
def sameReq (q r : MoveReq) : Bool :=
  q.key == r.key && q.tier == r.tier && q.md == r.md && q.kind == r.kind && (q.hint == r.hint || q.hint == 9 || r.hint == 9)

/-- Queues a move in arrival order, or joins the one that waits for the same destination (Table 2-5). -/
def queueMove (r : MoveReq) (s : State) : State :=
  if s.tier.moveQueue.any (sameReq · r) then
    s.setTier { s.tier with moveQueue := s.tier.moveQueue.map fun q => if sameReq q r then joinReq q r else q }
  else s.setTier { s.tier with moveQueue := s.tier.moveQueue ++ [r] }

/-- A tile lies where a request wants it. A COLD hint's own recoding and a re-encode go to a new slot. -/
def inPlace (t : Tde) (r : MoveReq) : Bool :=
  r.kind == .plain && r.hint != 3 && t.tier == r.tier && t.homeMd == r.md

/-- A move of a tile is asked for (R49). -/
def requestMove (r : MoveReq) (s : State) : State :=
  let t := tdeOf s r.key
  if extGone s (extOf r.key) then tell r.waiters r.key .failed s
  else if t.state == .poisoned then tell r.waiters r.key .poisoned s
  else if ! isHome t.tier then tell r.waiters r.key .done s
  else match moveOf s r.key with
  | some m =>
    if m.tier == r.tier && m.md == r.md then
      s.setTier { s.tier with
        moves := s.tier.moves.map fun q => if q.key == r.key then { q with waiters := q.waiters ++ r.waiters } else q }
    else if r.master == backgroundMaster then s
    else recordNext r s
  | none =>
    if inPlace t r && ! s.tier.moveQueue.any (·.key == r.key) then tell r.waiters r.key .done s else queueMove r s

/-- Where a tile lies once what is asked of it so far has run: its last request's destination, its move's, or its home (R49, R56). -/
def tileGoes (s : State) (key : Nat) : Tier × Nat :=
  match s.tier.moveNext.find? (·.key == key), (s.tier.moveQueue.filter (·.key == key)).getLast?, moveOf s key with
  | some r, _, _ => (r.tier, r.md)
  | none, some r, _ => (r.tier, r.md)
  | none, none, some m => (m.tier, m.md)
  | none, none, none => ((tdeOf s key).tier, (tdeOf s key).homeMd)

/-! ### Loss of a tile (Table 2-4) -/

/-- An extent has lost data: what owns it is told when the command is over (R85, R122, R126). (DEDUCED, log entry 84.) -/
def noteLoss (ext : Nat) (s : State) : State := s.setTier { s.tier with lost := setInsert ext s.tier.lost }

/-- An extent has lost data in Underlay (R84, R90). -/
def noteUnder (ext : Nat) (s : State) : State :=
  noteLoss ext (s.setTier { s.tier with lostUnder := setInsert ext s.tier.lostUnder })

/-- Ends a move without a flip (R44 step 7): the destination is freed, and the waiters are told. -/
def endMove (m : Move) (e : Ending) (s : State) : State :=
  let s1 := dropCoding m.key false (s.setTier { s.tier with moves := s.tier.moves.filter (·.key != m.key) })
  let s2 := freeSlot (slotKey m.tier m.md m.slot) s1
  let s3 := modTde m.key (fun t => noDest (if t.state == .moving then { t with state := settled t } else t)) s2
  tell m.waiters m.key e s3

/-- The request recorded for a tile starts once its move has ended (R49). -/
def afterMove (key : Nat) (s : State) : State :=
  match s.tier.moveNext.find? (·.key == key) with
  | none => s
  | some r => requestMove r (s.setTier { s.tier with moveNext := s.tier.moveNext.filter (·.key != key) })

/-- A tile becomes POISONED with TIER 3. `keepSlot` leaves the slot out of use (R88). -/
def poisonTile (key : Nat) (keepSlot : Bool) (s : State) : State :=
  let t0 := tdeOf s key
  if t0.state == .poisoned then s
  else
    let s1 := match moveOf s key with | some m => endMove m .poisoned s | none => s
    let t := tdeOf s1 key
    let s2 := match homeOf t with
      | some k => if keepSlot then s1.setTier { s1.tier with slots := MapOps.insert k .outOfUse s1.tier.slots }
                  else releaseSlot k s1
      | none => s1
    let s3 := setTde key { noDest t with
      state := .poisoned, tier := .none, homeMd := 0, homeSlot := 0, poisonMap := 0, damageMap := 0
      blockLen := [], sheetSlot := 0, sheetGen := 0 } s2
    let s4 := s3.setTier { s3.tier with slotWaits := s3.tier.slotWaits.filter fun w => w.key != key || w.late }
    noteLoss (extOf key) (count 0x3020 0x0D (storedDown t.sheetSlot t.sheetGen t.blockLen.length (afterMove key s4)))

/-! ### Starting a move (R44 step 1) -/

/-- The tile that R57 evicts from a stack: lowest HEAT, then lowest extent and tile. A tile that has been asked to go already is passed
over, since the device does not retry an aborted move (R48). -/
def evictable (s : State) (md : Nat) (tried : List Nat) : Option Nat :=
  ((s.tier.tdes.filter fun p =>
      p.2.tier == .ridge && p.2.homeMd == md && (p.2.state == .resident || p.2.state == .damaged)
        && ! p.2.expoHeld && p.2.lastHint != 1 && (moveOf s p.1).isNone && ! tried.contains p.1).foldl
    (fun (a : Option (Nat × Tde)) p => match a with
      | none => some p
      | some q => if p.2.heat < q.2.heat then some p else some q) none).map (·.1)

/-- The coded blocks of a move go to be decoded, to be stored afresh (R179, R303). -/
def startDecodes (m : Move) (bs : List Nat) (s : State) : State :=
  let t := tdeOf s m.key
  match homeOf t with
  | none => s
  | some k => bs.foldl (fun u b =>
      let c := codedBytes u k b (blockLen t b)
      queueDecode
        { id := 0, md := m.md, key := m.key, block := b, sheetSlot := t.sheetSlot, sheetGen := t.sheetGen, bytes := c.1
          use := .recode, bad := c.2, tagged := taggedBy m.waiters u } (pin t.sheetSlot t.sheetGen u)) s

/-- Codes what a starting move codes. -/
def planMove (m : Move) (s : State) : State :=
  let t := tdeOf s m.key
  let el := eligible s t (extOf m.key)
  let codedBs := t.blockLen.map (·.1)
  match m.kind with
  | .shareRewrite =>
    let s1 := (codedBs.filter (isDamaged t)).foldl (fun u b => giveCoded m.key b false (zeros 4096) u) s
    startDecodes m (codedBs.filter fun b => ! isDamaged t b) s1
  | .reencode =>
    match m.sheet with
    | none => s
    | some sh =>
      let s1 := startDecodes m codedBs s
      if m.codesRaw then startEncodes m.key m.md sh false el s1 else s1
  | _ =>
    match m.sheet with
    | some sh => startEncodes m.key m.md sh false el s
    | none => countNoSheet (codePlan s m.key (tierCode m.tier)).2 el.length s

/-- The sheet a starting move uses. -/
def sheetFor (r : MoveReq) (s : State) : Option (Nat × Nat) :=
  match r.kind with
  | .shareRewrite => none
  | .reencode =>
    let t := tdeOf s r.key
    if wantsReencode s r.key then (activeBank s t.sheetSlot).map fun k => (t.sheetSlot, (bankOf s k).gen) else none
  | _ => (codePlan s r.key (tierCode r.tier)).1

/-- A move begins: its slot is taken, STATE is MOVING, pass 1 runs (R44). -/
def beginMove (r : MoveReq) (slot : Nat) (s : State) : State :=
  let m : Move :=
    { key := r.key, kind := r.kind, tier := r.tier, md := r.md, slot := slot, pass := 1, window := false
      sinceUs := 0, master := r.master, ready := false, dirty := [], snapshot := [], sheet := sheetFor r s
      coded := [], waiters := r.waiters
      codesRaw := r.kind != .reencode || (reencodeRow s r.key).any fun row => bitAt row (7 + tierCode r.tier) }
  let s1 := s.setTier { s.tier with moves := s.tier.moves ++ [m] }
  let s2 := modTde r.key (fun t => { t with state := .moving, destTier := r.tier, destMd := r.md, destSlot := slot, pass := 1 }) s1
  planMove m (count 0x3020 1 s2)

/-- A request finds no destination slot; a HOT hint is counted (R57). -/
def refuseMove (r : MoveReq) (s : State) : State :=
  let t := tell r.waiters r.key .refused s
  if r.hint == 1 then count 0x3020 0x0B t else t

/-- Two queued requests are of one hint to one extent. -/
def sameHint (q r : MoveReq) : Bool :=
  r.hint != 0 && r.hint != 9 && q.hint == r.hint && extOf q.key == extOf r.key
    && (q.waiters == r.waiters || q.waiters.any r.waiters.contains)

/-- A move begins for a request: the other requests of its hint belong to a running hint now (R56), and other requests for its
tile join it or are recorded, the latest alone (R49). -/
def takeTurn (r : MoveReq) (s : State) : State :=
  let later := s.tier.moveQueue.filter (·.key == r.key)
  let mark := fun (q : MoveReq) => if sameHint q r then { q with begun := true } else q
  let s1 := s.setTier { s.tier with
    moveQueue := (s.tier.moveQueue.filter (·.key != r.key)).map mark, moveNext := s.tier.moveNext.map mark }
  later.foldl (fun u q => requestMove q u) s1

/-- A request at the head of its queue starts, is refused, or ends at once. -/
def startMove (r : MoveReq) (s : State) : State :=
  let t := tdeOf s r.key
  if t.state == .poisoned then tell r.waiters r.key .poisoned s
  else if ! isHome t.tier || inPlace t r then tell r.waiters r.key .done s
  else if r.master == backgroundMaster && t.expoHeld then s
  else if r.kind == .reencode && ! wantsReencode s r.key then tell r.waiters r.key .done s
  else if r.hint == 3 && t.tier == r.tier && t.homeMd == r.md
      && ((codePlan s r.key 1).1.isNone || (eligible s t (extOf r.key)).isEmpty) then tell r.waiters r.key .done s
  else match allocSlot s r.tier r.md (.dest r.key) with
  | some (slot, s1) => takeTurn r (beginMove r slot s1)
  | none =>
    if r.hint == 1 || r.hint == 9 then
      match evictable s r.md r.tried with
      | some key =>
        if freeSlots s .batten r.md == 0 then refuseMove r s
        else
          let e := { plainMove key .batten r.md 0 r.master [] with admitted := true }
          let q := { r with evict := homeOf (tdeOf s key), tried := key :: r.tried }
          s.setTier { s.tier with moveQueue := e :: q :: s.tier.moveQueue }
      | none => refuseMove r s
    else refuseMove r s

/-- A slot whose tile was asked to go is still being emptied (R46, R57). -/
def emptying (s : State) (k : Nat) : Bool :=
  match MapOps.get? k s.tier.slots with
  | some (.home key) => (moveOf s key).isSome || s.tier.moveQueue.any (fun q => q.key == key && q.tier == .batten)
  | some (.freePending _) => true
  | _ => false

/-- The slot that a HOT request waits for is still being emptied (R57). -/
def evicting (s : State) (r : MoveReq) : Bool := r.evict.any (emptying s)

/-- Moves of a tile run while its extent is resident, or being unparked with the tile landed (R57, R74). -/
def movable (s : State) (key : Nat) : Bool :=
  let k := kindOf s (extOf key)
  let st := (tdeOf s key).state
  k == 1 || (k == 3 && ! s.tier.parks.any (·.ext == extOf key) && (st == .resident || st == .damaged))

/-- Some participant of a commit has taken PREPARE and has not applied: it holds its objects (R311 steps 3 and 7). -/
def holdsNow (e : Expo) (mine : Participant → Bool) : Bool :=
  (e.answers.any fun a => mine a.1 && (a.2 == 1 || a.2 == 2)) && ! e.applied.any mine

/-- A tile is held for a commit by its directory MD (R311, R312). -/
def expoHolds (s : State) (key : Nat) : Bool :=
  s.share.expos.any fun q =>
    holdsNow q.2 (fun w => match w with | .dirMd m => m.val == dirMd s (extOf key) | _ => false)
      && q.2.actions.any fun a => a.tiles.contains key || a.region.contains key

/-- A session record is held for a commit by its engine (R311, R312). -/
def sessHeld (s : State) (h : Nat) : Bool :=
  s.share.expos.any fun q =>
    holdsNow q.2 (fun w => match w with | .sessionEngine m => m.val == h % 8 | _ => false)
      && q.2.actions.any fun a => a.opcode == 0x10 && field a.body 145 128 == h

/-- The mover work that admission points hold: its master, and the partition of its extent (R437). -/
def heldWork (s : State) : List (Nat × Nat) :=
  ((s.tier.moveQueue.filter fun r => ! r.admitted).map fun r => (r.master, (entryOf s (extOf r.key)).part))
    ++ ((s.tier.parkQueue ++ s.tier.unparkQueue).filter fun r => ! r.admitted).map fun r => (r.master, (entryOf s r.ext).part)

/-- A queued request may start now at its directory MD. (DEDUCED, log entry 14.) -/
def moveMay (s : State) (md : Nat) (r : MoveReq) : Bool :=
  dirMd s (extOf r.key) == md && movable s r.key && r.admitted && ! evicting s r
    && (moveOf s r.key).isNone && ! expoHolds s r.key && diesUp s [md, (tdeOf s r.key).homeMd, r.md]

/-- The running moves of a directory MD. (DEDUCED, log entry 14.) -/
def movesAt (s : State) (md : Nat) : Nat := (s.tier.moves.filter fun m => dirMd s (extOf m.key) == md).length

/-- MOVE_START of a directory MD: the oldest request that may start does (Table 2-5). -/
def moveStart (md : Nat) (s : State) : State :=
  if movesAt s md ≥ 64 then s
  else match s.tier.moveQueue.find? (moveMay s md) with
    | none => s
    | some r => startMove r (s.setTier { s.tier with moveQueue := s.tier.moveQueue.erase r })

/-! ### Passes and flips of a move -/

/-- The blocks that the running pass copies. -/
def passBlocks (m : Move) : List Nat := if m.pass == 1 then List.range 16 else dedup (m.snapshot.map (· / 64))

/-- What the running pass copies (R44, R68, R166): coded or rewritten blocks, and the others as they stand. -/
def copyPass (m : Move) (s : State) : State :=
  match homeOf (tdeOf s m.key) with
  | none => s
  | some k =>
    let dst := slotKey m.tier m.md m.slot
    (passBlocks m).foldl (fun u b =>
      match m.coded.find? (·.block == b) with
      | some c => storeRun dst (64 * b) c.bytes u
      | none => copyBlock k dst b u) s

/-- Replaces a running move. -/
def setMove (m : Move) (s : State) : State :=
  s.setTier { s.tier with moves := s.tier.moves.map fun q => if q.key == m.key then m else q }

/-- A pass ends and the flip window opens (R44 step 4). -/
def passEnd (m : Move) (s : State) : State :=
  let n := if m.pass == 1 then 1024 else m.snapshot.length
  let t := tdeOf s m.key
  setMove { m with window := true, sinceUs := nowUs s }
    (chargeTier m.master m.tier n (chargeTier m.master t.tier n (copyPass m s)))

/-- The blocks newly coded by a move. -/
def newlyCoded (m : Move) : List Coded := m.coded.filter fun c => decide (c.bytes.length ≤ 4080)

/-- The block lengths at the destination of a move. -/
def movedLens (m : Move) (t : Tde) : Map Nat :=
  m.coded.foldl (fun l c => if c.bytes.length ≤ 4080 then MapOps.insert c.block c.bytes.length l else MapOps.erase c.block l)
    t.blockLen

/-- A move flips (R44 step 5): the TDE names the destination, and the old slot is free-pending (R46). -/
def flipMove (m : Move) (s : State) : State :=
  let t := tdeOf s m.key
  let n := newlyCoded m
  let lost := (t.blockLen.filter fun p => m.coded.any (·.block == p.1)).length
  let sheet := if n.isEmpty then (t.sheetSlot, t.sheetGen) else m.sheet.getD (0, 0)
  let t1 := noDest { t with
    state := settled t, tier := m.tier, homeMd := m.md, homeSlot := m.slot, flipGen := (t.flipGen + 1) % 256
    blockLen := movedLens m t, sheetSlot := sheet.1, sheetGen := sheet.2 }
  let s1 := s.setTier { s.tier with
    moves := s.tier.moves.filter (·.key != m.key)
    slots := MapOps.insert (slotKey m.tier m.md m.slot) (.home m.key) s.tier.slots }
  let s2 := match homeOf t with | some k => releaseSlot k s1 | none => s1
  let s3 := setTde m.key (tidy t1) s2
  let s4 := storedDown t.sheetSlot t.sheetGen lost (storedUp sheet.1 sheet.2 n.length s3)
  let s5 := countBy 0x3042 (t.part + 1) n.length (countBy 0x3040 1 n.length (count 0x3020 2 s4))
  let s6 := if m.kind == .reencode then count 0x3040 8 s5 else s5
  tell m.waiters m.key .done s6

/-- The longest hold of a flip window, in ns, at most 2 µs (0x3020.06, R45). -/
def holdSeen (sinceUs : Nat) (s : State) : State := countMax 0x3020 6 (min 2000 ((nowUs s - sinceUs) * 1000)) s

/-- The next pass of a move (R44 step 6). -/
def nextPass (m : Move) (s : State) : State :=
  let bs := dedup (m.dirty.map (· / 64))
  let m1 := { m with pass := m.pass + 1, window := false, snapshot := m.dirty, dirty := []
                     coded := m.coded.filter fun c => ! bs.contains c.block }
  let s1 := count 0x3020 5 (modTde m.key (fun t => { t with pass := m.pass + 1 }) (setMove m1 s))
  match m.sheet with
  | some sh =>
    if m.kind != .shareRewrite && m.codesRaw && (activeBank s sh.1).any (fun k => (bankOf s k).gen == sh.2) then
      startEncodes m.key m.md sh false ((eligible s1 (tdeOf s1 m.key) (extOf m.key)).filter bs.contains) s1
    else s1
  | none => s1

/-- A dirty window ends (R44 steps 6 and 7). -/
def windowDirty (m : Move) (s : State) : State :=
  if m.pass < 4 then nextPass m s else afterMove m.key (count 0x3020 3 (endMove m .aborted s))

/-- No write is in flight in a flip window (R44 steps 5 to 7, R51). -/
def windowClear (m : Move) (s : State) : State :=
  let s1 := holdSeen m.sinceUs s
  if m.dirty.isEmpty then
    match m.kind with
    | .staged e => tell [.expo e] m.key .done (setMove { m with window := false, ready := true } s1)
    | _ => afterMove m.key (flipMove m s1)
  else windowDirty m s1

/-! ### Dropping an extent (R59) -/

/-- A tile becomes empty. (DEDUCED, log entry 13.) -/
def emptyTile (key : Nat) (s : State) : State :=
  let s1 := match moveOf s key with | some m => endMove m .aborted s | none => s
  let t := tdeOf s1 key
  let s2 := match homeOf t with | some k => releaseSlot k s1 | none => s1
  storedDown t.sheetSlot t.sheetGen t.blockLen.length
    (setTde key { part := t.part, flipGen := t.flipGen, claimed := t.claimed, expoHeld := t.expoHeld, expoId := t.expoId
                  lastHint := t.lastHint, heat := t.heat, heatUs := t.heatUs } s2)

/-- The queued moves and unparks of an extent end. -/
def dropQueued (ext : Nat) (s : State) : State :=
  let mine := (s.tier.moveQueue ++ s.tier.moveNext).filter fun r => extOf r.key == ext
  let ups := s.tier.unparkQueue.filter (·.ext == ext)
  let s1 := s.setTier { s.tier with
    moveQueue := s.tier.moveQueue.filter (fun r => extOf r.key != ext)
    moveNext := s.tier.moveNext.filter (fun r => extOf r.key != ext)
    unparkQueue := s.tier.unparkQueue.filter (·.ext != ext) }
  ups.foldl (fun u r => tell r.waiters (extSubject ext) .aborted u)
    (mine.foldl (fun u r => tell r.waiters r.key (if r.hint == 0 then .refused else .aborted) u) s1)

/-- STORED_BLOCKS falls by an image's coded blocks (R147). -/
def imageStoredDown (e : Epr) (s : State) : State := e.sheets.foldl (fun u q => storedDown q.1 q.2.1 q.2.2 u) s

/-- The coded blocks of a tile of an image. -/
def imageCoded (h t : Nat) : Nat :=
  if imageFlag h t != 0 then 0
  else ((List.range 16).filter fun b => imageLen h (16 * t + b) != 0 && imageLen h (16 * t + b) != 4095).length

/-- STORED_BLOCKS falls by the coded blocks of tiles of an image that never land (R147). -/
def unlandedDown (number : Nat) (keys : List Nat) (s : State) : State :=
  let h := imageHeader (imageAt s number)
  keys.foldl (fun u k => storedDown (imageSheet h (k % 32)).1 (imageSheet h (k % 32)).2 (imageCoded h (k % 32)) u) s

/-- An unpark in progress ends without landing its other tiles. -/
def cancelUnpark (ext : Nat) (s : State) : State :=
  match s.tier.unparks.find? (·.req.ext == ext) with
  | none => s
  | some u =>
    tell u.req.waiters (extSubject ext) .aborted
      (releaseEpr u.epr (unlandedDown u.epr u.remaining
        (s.setTier { s.tier with unparks := s.tier.unparks.filter (·.req.ext != ext) })))

/-- The number of an image that a parked extent names, or named before it was lost to it (R90). -/
def imageOf (s : State) (ext : Nat) : Option Nat :=
  let l := (entryOf s ext).link
  (s.und.eprs.find? fun p => p.2.ext == ext && (l == lostLink || l == p.1)).map (·.1)

/-- STORED_BLOCKS falls by what an extent's image counted when a format erased it (R147, R180). -/
def wipedDown (ext : Nat) (s : State) : State :=
  let u := (MapOps.getD ext [] s.und.wiped).foldl (fun v q => storedDown q.1 q.2.1 q.2.2 v) s
  u.setUnd { u.und with wiped := MapOps.erase ext u.und.wiped }

/-- DROP of an extent: every tile empty, its image released (R59), and with the data what lost stores would have poisoned (R80). -/
def dropExtent (ext : Nat) (s : State) : State :=
  let d := dropQueued ext s
  let s0 := d.setTier { d.tier with held := d.tier.held.filter fun h => ! (h.lost && extOf h.key == ext) }
  let k := kindOf s ext
  if k == 0 then s0
  else if k == 2 then
    let s1 := match imageOf s ext with
      | some n => releaseEpr n (imageStoredDown (MapOps.getD n {} s.und.eprs) s0)
      | none => wipedDown ext s0
    (mapExtent ext s1).getD (setKind ext 0 0 s1)
  else
    let s1 := (tilesOf ext).foldl (fun u key => emptyTile key u) (cancelUnpark ext s0)
    if k == 3 then setKind ext 1 (entryOf s1 ext).link s1 else s1

/-! ### Parks -/

/-- An extent holds a claimed or exposure-held tile (R63, R317). -/
def extHeld (s : State) (ext : Nat) : Bool :=
  (tilesOf ext).any fun k => (tdeOf s k).claimed || (tdeOf s k).expoHeld

/-- An extent holds a registered program, or one that is being registered, or an enabled ring's SQ: it is never parked
(R230, R266). -/
def progHolds (s : State) (ext : Nat) : Bool :=
  let holds := fun (part first n : Nat) => match dpaExtOf s part ext with
    | some d => decide (first ≤ d) && decide (d < first + n)
    | none => false
  (s.cmp.registry.any fun p => p.1 < 65536 && holds p.2.part p.2.first p.2.extents)
    || (s.cmp.regJobs.any fun j => j.kind == 0 && holds j.part j.first j.extents)
    || s.queue.rings.any fun r => r.2.pinned.contains ext

/-- True of an extent whose park runs. -/
def parking (s : State) (ext : Nat) : Bool := s.tier.parks.any (·.ext == ext)

/-- A request joins one that waits, where both or neither are hints: a hint can be replaced, a command not (R56). -/
def joins (q r : ExtReq) : Bool := q.ext == r.ext && (q.hint == 0) == (r.hint == 0)

/-- Queues or joins a park. -/
def queuePark (r : ExtReq) (s : State) : State :=
  if s.tier.parkQueue.any (joins · r) then
    s.setTier { s.tier with
      parkQueue := s.tier.parkQueue.map fun q => if joins q r then { q with waiters := q.waiters ++ r.waiters, hint := r.hint } else q }
  else s.setTier { s.tier with parkQueue := s.tier.parkQueue ++ [r] }

/-- No usable Underlay takes a park (R58, Table 11-6). -/
def parkRefused (s : State) : Bool := ! underlayParks s && s.und.state != 1

/-- A park is asked for (R58, R71, R317). -/
def requestPark (r : ExtReq) (s : State) : State :=
  let k := kindOf s r.ext
  if extGone s r.ext then tell r.waiters (extSubject r.ext) .failed s
  else if imageLost s r.ext then tell r.waiters (extSubject r.ext) .poisoned s
  else if k == 0 || k == 2 then tell r.waiters (extSubject r.ext) .done s
  else if parkRefused s then count 0x3020 0x0C (tell r.waiters (extSubject r.ext) .noUnderlay s)
  else if k == 3 then s.setTier { s.tier with deferred := s.tier.deferred ++ [r] }
  else if extHeld s r.ext || progHolds s r.ext then tell r.waiters (extSubject r.ext) .held s
  else queuePark r s

/-- The sheet with which a park codes a tile's raw blocks: the one that the governing row gave when the park started (R161), while its
generation is ACTIVE. -/
def parkSheet (p : Park) (key : Nat) (s : State) : Option (Nat × Nat) × Bool :=
  match p.plans.find? (·.1 == key) with
  | some (_, some sh, _) => (if (activeBank s sh.1).any (fun k => (bankOf s k).gen == sh.2) then some sh else none, false)
  | some (_, none, want) => (none, want)
  | none => (none, false)

/-- Codes what a park pass codes of a tile; a block left raw for want of a sheet alone is counted once a park (R162). -/
def parkEncodes (p : Park) (key : Nat) (bs : List Nat) (s : State) : State :=
  let t := tdeOf s key
  if t.state == .poisoned || ! isHome t.tier then s
  else
    let el := (eligible s t (extOf key)).filter bs.contains
    match parkSheet p key s with
    | (some sh, _) => startEncodes key (dirMd s (extOf key)) sh true el s
    | (none, want) =>
      let new := el.filter fun b => want && ! p.unsheeted.contains (key % 32 * 16 + b)
      countNoSheet want new.length (s.setTier { s.tier with parks := s.tier.parks.map fun q =>
        if q.ext == p.ext then { q with unsheeted := new.foldl (fun l b => setInsert (key % 32 * 16 + b) l) q.unsheeted } else q })

/-- Held writes to a DAMAGED block are discarded and counted (R43). -/
def dropDamHeld (f : DamHeld → Bool) (s : State) : State :=
  let n := (s.tier.damHeld.filter f).length
  discardWrites n (s.setTier { s.tier with damHeld := s.tier.damHeld.filter fun h => ! f h })

/-- A park begins (R71). -/
def beginPark (r : ExtReq) (s : State) : State :=
  let p : Park :=
    { ext := r.ext, pass := 1, window := false, sinceUs := 0, master := r.master, committing := false
      epr := 0, dirty := [], snapshot := [], coded := [], waiters := r.waiters
      plans := (tilesOf r.ext).map fun k => (k, codePlan s k 2) }
  let s1 := dropDamHeld (fun h => extOf h.key == r.ext) (setKind r.ext 3 (entryOf s r.ext).link s)
  let s2 := (tilesOf r.ext).foldl (fun u k => modTde k (fun t =>
    let h := if r.hint == 0 then t.lastHint else r.hint
    if t.state == .poisoned then { t with lastHint := h }
    else { t with state := .moving, destTier := .underlay, pass := 1, lastHint := h }) u) s1
  let s3 := s2.setTier { s2.tier with parks := s2.tier.parks ++ [p] }
  (tilesOf r.ext).foldl (fun u k => parkEncodes p k (List.range 16) u) s3

/-- The directory MD of an extent, the homes of its tiles and the Underlay channels can reach each other (R18). -/
def parkUp (s : State) (ext : Nat) : Bool :=
  diesUp s (dirMd s ext :: dedup ((tilesOf ext).filterMap fun k => if isHome (tdeOf s k).tier then some (tdeOf s k).homeMd else none)
    ++ underlayMds s)

/-- A queued park may start: no move of its tiles runs or waits before it. (DEDUCED, log entry 14.) -/
def parkMay (s : State) (md : Nat) (r : ExtReq) : Bool :=
  dirMd s r.ext == md && kindOf s r.ext == 1 && r.admitted
    && ! (s.tier.moves.any fun m => extOf m.key == r.ext) && ! (s.tier.moveQueue.any fun m => extOf m.key == r.ext)
    && parkUp s r.ext

/-- PARK_START of a directory MD. -/
def parkStart (md : Nat) (s : State) : State :=
  if ! underlayParks s then s
  else match s.tier.parkQueue.find? (parkMay s md) with
    | none => s
    | some r =>
      let mine := s.tier.parkQueue.filter (·.ext == r.ext)
      let r1 := { r with waiters := mine.flatMap (·.waiters), hint := if mine.any (·.hint == 4) then 4 else 0 }
      let s1 := s.setTier { s.tier with parkQueue := s.tier.parkQueue.filter (·.ext != r.ext) }
      if extHeld s r.ext || progHolds s r.ext then tell r1.waiters (extSubject r.ext) .held s1 else beginPark r1 s1

/-- The park of an extent. -/
def parkOf (s : State) (ext : Nat) : Option Park := s.tier.parks.find? (·.ext == ext)

/-- Replaces a running park. -/
def setPark (p : Park) (s : State) : State :=
  s.setTier { s.tier with parks := s.tier.parks.map fun q => if q.ext == p.ext then p else q }

/-- A tile's TDE returns to its unchanged home (R73). -/
def unmove (t : Tde) : Tde := if t.state == .moving then noDest { t with state := settled t } else t

/-- The chunks that a park's last pass staged are stale: no record names them, and garbage collection reclaims them (R73). -/
def unstageChunks (p : Park) (s : State) : State :=
  match p.staged with
  | some (sb, _, n) => staleChunks sb n s
  | none => s

/-- A park aborts (R73). -/
def abortPark (p : Park) (s : State) : State :=
  let s1 := (tilesOf p.ext).foldl (fun u k => modTde k unmove (dropCoding k true u))
    (unstageChunks p (s.setTier { s.tier with parks := s.tier.parks.filter (·.ext != p.ext) }))
  let s2 := setKind p.ext 1 (entryOf s1 p.ext).link s1
  tell p.waiters (extSubject p.ext) .aborted
    (raise 0x020A (some (ownerOf s p.ext)) 0 (count 0x3020 9 s2))

/-- The bytes of the image that tiles pack into (Table 11-2). -/
def imageSize (ts : List ImageTile) : Nat :=
  1024 + ts.foldl (fun a t => a + t.bytes.length + 16 * t.poison.length) 0

/-- Chunks of n chunks' room are staged for a park, if there is room: the chunks staged before are stale (R71, R416). -/
def stageChunks (p : Park) (n : Nat) (s : State) : Park × State :=
  let s0 := unstageChunks p s
  match placeImage n s0 with
  | none => ({ p with staged := none }, s0)
  | some (sb, x, s1) =>
    ({ p with staged := some (sb, x, n) }, charge p.master 2 (programCost (rowChunks (sbOf s1 sb)) x n) s1)

/-- A park's pass ends: its tiles are packed and passed to the flash translation, and one flip window opens over the extent (R71, R72).
The first pass has read every tile, and a later one the tiles that were dirty (R432). -/
def parkPassEnd (p : Park) (s : State) : State :=
  let copied := fun k : Nat => p.pass == 1 || p.snapshot.any fun i => i / 1024 == k % 32
  let s1 := (tilesOf p.ext).foldl (fun u k =>
    if copied k then
      let v := chargeTier p.master (tdeOf u k).tier 1024 u
      match homeOf (tdeOf u k) with | some h => countDirty h 0 1024 v | none => v
    else u) s
  let g := stageChunks p (ceilDiv (imageSize ((tilesOf p.ext).map (packTile s1 p))) 2048) s1
  setPark { g.1 with window := true, sinceUs := nowUs s } g.2

/-- The next pass of a park copies the dirty tiles again (R71). -/
def parkNextPass (p : Park) (s : State) : State :=
  let blocks := dedup (p.dirty.map (· / 64))
  let p1 := { p with pass := p.pass + 1, window := false, snapshot := p.dirty, dirty := []
                     coded := p.coded.filter fun c => ! blocks.contains (c.1 % 32 * 16 + c.2.block) }
  let s1 := (tilesOf p.ext).foldl (fun u k => modTde k (fun t => if t.state == .moving then { t with pass := p.pass + 1 } else t) u)
    (count 0x3020 5 (setPark p1 s))
  (tilesOf p.ext).foldl (fun u k =>
    parkEncodes p1 k ((blocks.filter fun b => b / 16 == k % 32).map (· % 16)) u) s1

/-- The EPR of a new image. -/
def makeEpr (ext part sb x chunks : Nat) (ts : List ImageTile) (s : State) : Epr :=
  let pr := rowChunks (sbOf s sb)
  { state := 1, part := part, ext := ext, seq := 0, superblock := sb, row := x / pr, chunk := x % pr
    chunks := chunks, parkedAt := retention s, tileStart := tileStarts ts, sheets := sheetsOf ts }

/-- Writes the banks that an image names to the sheet store, where they are not there yet (R149). -/
def persistBanks (sheets : List (Nat × Nat × Nat)) (s : State) : State :=
  sheets.foldl (fun u q => match bankFind u q.1 q.2.1 with
    | some k => if (bankOf u k).persisted || sheetPending k u then u else formRecord (.sheet (k / 2) (k % 2) (bankOf u k).state) u
    | none => u) s

/-- The coded blocks of a park's extent that are DAMAGED: its image stores them as zeros (R174). -/
def damagedCoded (p : Park) (s : State) : List (Nat × Nat) :=
  (tilesOf p.ext).flatMap fun k =>
    let t := tdeOf s k
    (t.blockLen.filter fun q => isDamaged t q.1).map fun q => (k, q.1)

/-- A clean window of a park (R72): the PARK record is formed and the commit wait begins, or the park aborts
(R58, R405, R406, R416) or waits for garbage collection, below GcUrgent even where there is room. -/
def parkClean (p : Park) (s : State) : State :=
  let ts := (tilesOf p.ext).map (packTile s p)
  let part := ownerOf s p.ext
  let img := imageBytes p.ext part ts
  let n := ceilDiv img.length 2048
  if (sheetsOf ts).length > 4 || ! underlayParks s then abortPark p s
  else if gcUrgent s && gcWorks s then gcCheck s
  else match newEpr s with
  | none => abortPark p s
  | some (number, s1) =>
    let g := if p.staged.any (·.2.2 == n) then (p, s1) else stageChunks p n s1
    match g.1.staged with
    | none => if gcWorks s then gcCheck s else raise 0x0B0B none 0 (abortPark p s)
    | some (sb, x, _) =>
      let e := makeEpr p.ext part sb x n ts g.2
      setPark { g.1 with committing := true, epr := number, staged := none, damaged := damagedCoded p s }
        (formRecord (.park p.ext number e) (persistBanks e.sheets (countBy 0x30B0 0x0B img.length (putImage sb x img g.2))))

/-- A park's window ends with the extent dirty (R45, R72, R73). -/
def parkDirty (p : Park) (s : State) : State := if p.pass < 4 then parkNextPass p s else abortPark p s

/-- No write to the extent is in flight in a park's window (R72, R73). -/
def parkWindowClear (p : Park) (s : State) : State :=
  if p.dirty.isEmpty then parkClean p (holdSeen p.sinceUs s) else parkDirty p (holdSeen p.sinceUs s)

/-- The blocks of a park that its image holds newly coded. -/
def parkNew (p : Park) (s : State) (key : Nat) : List Coded :=
  (p.coded.filter fun c => c.1 == key && ! p.damaged.contains (key, c.2.block) && isHome (tdeOf s key).tier).map (·.2)

/-- What a park's commit does to the counts of one tile (R147, R174). A block that a read finds damaged in the commit wait stays as the
image holds it, coded and counted. (DESIGN CHOICE, log entry 107.) -/
def parkCounts (p : Park) (key : Nat) (s : State) : State :=
  let t := tdeOf s key
  let n := parkNew p s key
  let s1 := match n.head? with
    | some c =>
      let f := codedFacts c.bytes
      countBy 0x3042 (t.part + 1) n.length (countBy 0x3040 1 n.length (storedUp f.slot f.gen n.length s))
    | none => s
  storedDown t.sheetSlot t.sheetGen (p.damaged.filter fun q => q.1 == key).length s1

/-- A PARK record is durable: the park flips (R72). Where its extent was dropped or scrubbed meanwhile, the image is released. -/
def commitPark (ext number : Nat) (e : Epr) (s : State) : State :=
  match parkOf s ext with
  | none =>
    releaseEpr number (s.setUnd { s.und with
      wants := s.und.wants.filter (·.1 != number)
      eprs := MapOps.insert number { e with seq := s.und.seq } s.und.eprs, reserved := setErase number s.und.reserved })
  | some p =>
    let s1 := (tilesOf ext).foldl (fun u k => parkCounts p k u) s
    let s2 := (tilesOf ext).foldl (fun u k =>
      match homeOf (tdeOf u k) with | some h => releaseSlot h u | none => u) s1
    let s3 := dropQueued ext (s2.setTier { s2.tier with
      parks := s2.tier.parks.filter (·.ext != ext)
      tdes := s2.tier.tdes.filter (fun q => extOf q.1 != ext)
      slotWaits := s2.tier.slotWaits.filter (fun w => extOf w.key != ext)
      coldFirst := setErase ext s2.tier.coldFirst })
    let s4 := setKind ext 2 number (freeGroup ext s3)
    let s5 := s4.setUnd { s4.und with
      eprs := MapOps.insert number { e with seq := s4.und.seq } s4.und.eprs
      reserved := setErase number s4.und.reserved }
    tell p.waiters (extSubject ext) .done (count 0x3020 8 (cacheEpr number s5))

/-- A running park is given up for a drop or a scrub of its extent. -/
def cancelPark (ext : Nat) (s : State) : State :=
  match parkOf s ext with
  | none => s
  | some p =>
    if p.committing then
      let s1 := (tilesOf ext).foldl (fun u k => modTde k unmove (dropCoding k true u))
        (s.setTier { s.tier with parks := s.tier.parks.filter (·.ext != ext) })
      tell p.waiters (extSubject ext) .aborted (setKind ext 1 (entryOf s1 ext).link s1)
    else abortPark p s

/-- DROP of an extent at once, whatever runs on it (R120, R122, R126, R129). (DEDUCED, log entry 13.) -/
def dropNow (ext : Nat) (s : State) : State := dropExtent ext (cancelPark ext s)

/-- The scrub of an extent that no partition maps any more (R323, R481): its work ends, its homes are cleared and freed, its image is
released, and it becomes unused. The partition that mapped it is charged (R432). -/
def scrubExt (part ext : Nat) (s : State) : State :=
  let s0 := (tilesOf ext).foldl (fun u k => match homeOf (tdeOf u k) with
    | some h => countBy 0x30D0 6 65536 (chargeTier part (tdeOf u k).tier 1024 (clearSlot h u))
    | none => u) s
  let s1 := dropNow ext s0
  let s2 := (tilesOf ext).foldl (fun u k => match moveOf u k with | some m => endMove m .aborted u | none => u) s1
  let s3 := s2.setTier { s2.tier with
    tdes := s2.tier.tdes.filter (fun q => extOf q.1 != ext)
    parkQueue := s2.tier.parkQueue.filter (·.ext != ext), unparkQueue := s2.tier.unparkQueue.filter (·.ext != ext)
    deferred := s2.tier.deferred.filter (·.ext != ext), damHeld := s2.tier.damHeld.filter (fun h => extOf h.key != ext)
    coldFirst := setErase ext s2.tier.coldFirst }
  if kindOf s3 ext == 0 then s3 else setKind ext 0 0 (freeGroup ext s3)

/-! ### Unparks -/

/-- An extent's image is lost (R90). -/
def loseImage (ext : Nat) (ws : List Waiter) (s : State) : State :=
  tell ws (extSubject ext) .poisoned
    (raise 0x0203 (some (ownerOf s ext)) 0 (noteUnder ext (setKind ext 2 lostLink s)))

/-- A tile moves to the front of the remaining reads (R78). -/
def toFront (key : Nat) (l : List Nat) : List Nat := if l.contains key then key :: l.filter (· != key) else l

/-- A touch moves its tile to the front of a running unpark. -/
def touchUnpark (key : Nat) (ws : List Waiter) (s : State) : State :=
  s.setTier { s.tier with
    unparks := s.tier.unparks.map fun u =>
      if u.req.ext == extOf key then
        { u with remaining := toFront key u.remaining
                 urgent := if ws.isEmpty then setInsert key u.urgent else u.urgent
                 req := { u.req with waiters := u.req.waiters ++ ws } } else u }

/-- A touch asks for an unpark: it waits for its tile, and nobody is told of the extent (R78). -/
def isTouchReq (r : ExtReq) : Bool := r.waiters.isEmpty && r.hint == 0 && r.act == 0

/-- Queues an unpark; a touch of the same tile joins the one that waits. -/
def queueUnpark (r : ExtReq) (s : State) : State :=
  if isTouchReq r && s.tier.unparkQueue.any (fun q => { q with admitted := r.admitted } == r) then s
  else s.setTier { s.tier with unparkQueue := s.tier.unparkQueue ++ [r] }

/-- Two requests for one unpark, the second the later: Ridge if either names it, and the later hint (R60, R75). -/
def mergeUnpark (q r : ExtReq) : ExtReq :=
  { q with
    waiters := q.waiters ++ r.waiters, tier := if r.tier == .ridge then .ridge else q.tier
    md := if r.tier == .ridge then r.md else q.md, cd := if r.tier == .ridge then r.cd else q.cd
    act := if r.tier == .ridge then r.act else q.act, hint := if r.hint == 0 then q.hint else r.hint }

/-- The order in which an unpark reads its tiles: each touch, in turn, moves its tile to the front (R78). -/
def readOrder (mine : List ExtReq) (ext : Nat) : List Nat :=
  (mine.filter isTouchReq).foldl (fun l r => toFront (tileKey ext r.touched) l) (tilesOf ext)

/-- An unpark is asked for, or a touch starts one (R74, R78, R90). -/
def requestUnpark (r : ExtReq) (s : State) : State :=
  let k := kindOf s r.ext
  if extGone s r.ext then tell r.waiters (extSubject r.ext) .failed s
  else if imageLost s r.ext then tell r.waiters (extSubject r.ext) .poisoned s
  else if k == 0 || k == 1 then tell r.waiters (extSubject r.ext) .done s
  else if k == 2 then
    if noUnderlay s then loseImage r.ext r.waiters s else queueUnpark r s
  else if parking s r.ext then s.setTier { s.tier with deferred := s.tier.deferred ++ [r] }
  else touchUnpark (tileKey r.ext r.touched) r.waiters s

/-- The running unparks of a directory MD. -/
def unparksAt (s : State) (md : Nat) : Nat := (s.tier.unparks.filter fun u => dirMd s u.req.ext == md).length

/-- The directory MD of a parked extent can reach the channels that hold its image (R18). -/
def imageUp (s : State) (ext number : Nat) : Bool := diesUp s (dirMd s ext :: imageMds s number)

/-- A queued unpark may start at a directory MD. (DEDUCED, log entry 14.) -/
def unparkMay (s : State) (md : Nat) (r : ExtReq) : Bool :=
  dirMd s r.ext == md && kindOf s r.ext == 2 && r.admitted
    && imageUp s r.ext (entryOf s r.ext).link

/-- An unpark reads chunks of its image: one that must be rebuilt makes the superblock due for relocation (R412). -/
def readImage (u : Unpark) (cs : List Nat) (s : State) : State :=
  if (awayChunks s u.epr cs).isEmpty then s
  else relocateDue (MapOps.getD u.epr {} s.und.eprs).superblock (readAround u.req.master u.epr cs s)

/-- An unpark begins (R74, R415): KIND 3 with a new group, every TDE PARKED, the touched tile first. (DEDUCED, log entry 14.) -/
def beginUnpark (r : ExtReq) (mine : List ExtReq) (number g : Nat) (s : State) : State :=
  let s1 := newTdes r.ext { state := .parked, tier := .underlay, lastHint := r.hint } (setKind r.ext 3 g s)
  let s2 := abandonReloc number s1
  let e := MapOps.getD number {} s2.und.eprs
  let s3 := s2.setUnd { s2.und with eprs := MapOps.insert number { e with state := 2 } s2.und.eprs }
  let u : Unpark := { req := r, epr := number, remaining := readOrder mine r.ext
                      urgent := (mine.filter isTouchReq).foldl (fun l q => setInsert (tileKey r.ext q.touched) l) []
                      sinceUs := nowUs s }
  charge r.master 2 (32 * e.chunks) (count 0x3020 7 (s3.setTier { s3.tier with unparks := s3.tier.unparks ++ [u] }))

/-- UNPARK_START of a directory MD (Table 2-5, R567): where the EPR is not cached, its page is read first (R405). -/
def unparkStart (md : Nat) (s : State) : State :=
  if unparksAt s md ≥ 32 || s.tier.unparks.length ≥ 256 || s.und.state == 1 then s
  else match s.tier.unparkQueue.find? (unparkMay s md) with
    | none => s
    | some r =>
      let mine := s.tier.unparkQueue.filter (·.ext == r.ext)
      let r1 := (mine.drop 1).foldl mergeUnpark (mine.headD r)
      let s1 := s.setTier { s.tier with unparkQueue := s.tier.unparkQueue.filter (·.ext != r.ext) }
      let number := (entryOf s r.ext).link
      if noUnderlay s || imageOf s r.ext != some number || (! eprCached s number && pageUnreadable s (2 * number)) then
        loseImage r.ext r1.waiters (s1.setUnd { s1.und with eprReads := s1.und.eprReads.filter (· != number) })
      else if ! eprCached s number then s.setUnd { s.und with eprReads := setInsert number s.und.eprReads }
      else match allocGroup s1 r.ext with
        | none => s
        | some (g, s2) => beginUnpark r1 mine number g s2

/-- The stack that the cause of an unpark names for a Ridge target (R75). -/
def landStack (r : ExtReq) (s : State) : Nat :=
  match r.md, r.cd with
  | some m, _ => m
  | none, some cd => stackOfDie s cd
  | none, none => if r.act == 4 then (mostFree s .ridge).getD (dirMd s r.ext) else dirMd s r.ext

/-- The tile that a landing tile evicts from a full stack (R57, R75). -/
def landEvicts (u : Unpark) (s : State) : Option Nat :=
  let m := landStack u.req s
  if u.req.tier == Tier.ridge && freeSlots s Tier.ridge m == 0 && freeSlots s Tier.batten m != 0 then
    evictable s m (u.evicts.map (·.1)) else none

/-- A landing tile waits for the slot of a tile that its unpark has asked to go (R57, R75). -/
def landWaits (u : Unpark) (s : State) : Bool :=
  u.req.tier == Tier.ridge && freeSlots s Tier.ridge (landStack u.req s) == 0 && u.evicts.any fun q => emptying s q.2

/-- An unpark asks a tile of a full stack to go to Batten (R57, R75). -/
def landEvict (u : Unpark) (key : Nat) (s : State) : State :=
  let v := { u with evicts := u.evicts ++ [(key, (homeOf (tdeOf s key)).getD 0)] }
  queueMove { plainMove key .batten (landStack u.req s) 0 u.req.master [] with admitted := true }
    (s.setTier { s.tier with unparks := s.tier.unparks.map fun q => if q.req.ext == u.req.ext then v else q })

/-- The Batten in which a tile of an unpark lands (R37, R75). -/
def landBatten (r : ExtReq) (s : State) : Option (Tier × Nat) :=
  let d := dirMd s r.ext
  let md := match r.md with
    | some m => if r.tier == Tier.batten && freeSlots s Tier.batten m != 0 then some m else battenFor s d
    | none => if r.act == 4 && r.tier == Tier.batten then mostFree s Tier.batten else battenFor s d
  md.map fun m => (Tier.batten, m)

/-- The stack or Batten in which a tile of an unpark lands (R75, R567): none where it must wait. -/
def landAt (r : ExtReq) (s : State) : Option (Tier × Nat) :=
  if r.tier == Tier.ridge then
    if freeSlots s Tier.ridge (landStack r s) != 0 then some (Tier.ridge, landStack r s)
    else match mostFree s Tier.ridge with
      | some q => some (Tier.ridge, q)
      | none => landBatten r s
  else landBatten r s

/-- Sectors of an unpacked block with the poison that the image's list gives. -/
def unpackBlock (key b : Nat) (bytes : List Byte) (mask : Nat) (s : State) : State :=
  match homeOf (tdeOf s key) with
  | none => s
  | some k =>
    let s1 := storeRun k (64 * b) bytes s
    (List.range 64).foldl (fun u i => if bitAt mask i then putSector key (64 * b + i) (zeros 64) true u else u) s1

/-- Unpacks one block of an image into a tile's home: coded blocks stay coded after checks 1 to 5, a damaged mark
makes the block DAMAGED (R74, R174). -/
def landBlock (img : List Byte) (h key b : Nat) (s : State) : State :=
  let i := 16 * (key % 32) + b
  let len := imageLen h i
  let bytes := (img.drop (imageOffset h i)).take (if len == 0 || len == 4095 then 4096 else len)
  let s1 := unpackBlock key b bytes (imagePoison img i) s
  if len == 4095 then
    modTde key (fun t => { t with damageMap := t.damageMap ||| BitVec.ofNat 16 (2 ^ b) }) s1
  else if len == 0 then s1
  else
    let sh := imageSheet h (key % 32)
    let s2 := modTde key (fun t => { t with blockLen := MapOps.insert b len t.blockLen, sheetSlot := sh.1, sheetGen := sh.2 }) s1
    match headerChecks len sh.1 sh.2 (bankView s sh.1 sh.2) bytes with
    | some e => damageBlock key b e s2
    | none => s2

/-- An unpark ends once its last tile has landed (R74). -/
def endUnpark (u : Unpark) (s : State) : State :=
  let s1 := setKind u.req.ext 1 (entryOf s u.req.ext).link
    (s.setTier { s.tier with unparks := s.tier.unparks.filter (·.req.ext != u.req.ext) })
  tell u.req.waiters (extSubject u.req.ext) .done (releaseEpr u.epr s1)

/-- The TDE of a tile of an unpark has flipped (R34, R74): the tile no longer remains. -/
def landed (u : Unpark) (key : Nat) (e : Ending) (s : State) : State :=
  let u1 := { u with remaining := u.remaining.filter (· != key) }
  let s0 := modTde key (fun t => { t with flipGen := (t.flipGen + 1) % 256 }) s
  let s1 := s0.setTier { s0.tier with unparks := s0.tier.unparks.map fun q => if q.req.ext == u.req.ext then u1 else q }
  let s2 := tell u.req.waiters key e s1
  if u1.remaining.isEmpty then endUnpark u1 s2 else s2

/-- A tile of an unpark becomes POISONED: its rebuild failed, or the image says so (R84, R404). -/
def landPoisoned (u : Unpark) (key : Nat) (event : Bool) (s : State) : State :=
  let s1 := count 0x3020 0x0D (unlandedDown u.epr [key]
    (modTde key (fun t => { t with state := .poisoned, tier := .none }) s))
  landed u key (if event then .poisoned else .restored) (if event then raise 0x0203 (some (tdeOf s key).part) 0 (noteUnder (extOf key) s1) else s1)

/-- The chunks that a tile of an unpark still wants: those of the header and poison list, and its own up to TILE_START of the next tile
with blocks (R411). -/
def tileWants (s : State) (u : Unpark) (key : Nat) : List Nat :=
  (List.range (headChunks (imageAt s u.epr)) ++ readChunks (MapOps.getD u.epr {} s.und.eprs) (key % 32)).filter
    fun c => ! u.read.contains c

/-- A tile before this one in the order of the reads has still a page to read on a channel of which this one wants a page: each channel
reads in that order (R411). -/
def readsBefore (s : State) (u : Unpark) (key : Nat) : Bool :=
  let e := MapOps.getD u.epr {} s.und.eprs
  let chans := (chunkPages s e (tileWants s u key)).map (· % 16)
  (u.remaining.takeWhile (· != key)).any fun k => (chunkPages s e (tileWants s u k)).any fun p => chans.contains (p % 16)

/-- The chunks of a tile of an unpark have been read (R411). -/
def readTile (u : Unpark) (key : Nat) (s : State) : Unpark × State :=
  let more := tileWants s u key
  let v := { u with read := u.read ++ more }
  (v, readImage u more (s.setTier { s.tier with unparks := s.tier.unparks.map fun q => if q.req.ext == u.req.ext then v else q }))

/-- The environment reports that a tile's rebuild failed: its first chunk is lost, where none of what it needs is yet (R413). -/
def tileUnread (u : Unpark) (key : Nat) (s : State) : State :=
  let e := MapOps.getD u.epr {} s.und.eprs
  if tileLost s u.epr (imageAt s u.epr) (key % 32) then s
  else match readChunks e (key % 32) with
    | [] => s
    | c :: _ =>
      let p := imageChunkAt s e c
      loseChunk e.superblock p.1 p.2 s

/-- A tile of an unpark that has been read lands (R74, R75, R84, R567); without a slot it stays PARKED. (DEDUCED, log entry 13.) -/
def tileComes (u : Unpark) (key : Nat) (lost : Bool) (s : State) : State :=
  let img := imageAt s u.epr
  let h := imageHeader img
  let f := imageFlag h (key % 32)
  if lost || tileLost s u.epr img (key % 32) then landPoisoned u key true (if lost then tileUnread u key s else s)
  else if f == 2 then landPoisoned u key false s
  else if f == 1 then landed u key .done (modTde key (fun t => { t with state := .resident, tier := .none }) s)
  else if landWaits u s then s
  else match landEvicts u s with
  | some e => landEvict u e s
  | none =>
  match landAt u.req s with
  | none => s
  | some (tier, md) =>
    if ! diesUp s [dirMd s (extOf key), md] then s
    else match allocSlot s tier md (.home key) with
    | none => s
    | some (slot, s1) =>
      let s2 := modTde key (fun t => { t with state := .resident, tier := tier, homeMd := md, homeSlot := slot }) s1
      let s3 := (List.range 16).foldl (fun v b => landBlock img h key b v) s2
      landed u key .done (chargeTier u.req.master tier 1024 (modTde key tidy s3))

/-! ### Hints (R55 to R60) -/

/-- A tile of an unpark is read and lands, or has been POISONED meanwhile (R74). Over a failed link it waits (R18), and behind tiles whose
reads come first (R411).
(DEDUCED, log entry 13.) -/
def tileLands (u : Unpark) (key : Nat) (lost : Bool) (s : State) : State :=
  if (tdeOf s key).state == .poisoned then landed u key .poisoned (unlandedDown u.epr [key] s)
  else if ! imageUp s u.req.ext u.epr || readsBefore s u key then s
  else
    let g := readTile u key s
    tileComes g.1 key lost g.2

/-- The move that a hint asks of one tile of a resident extent (Table 2-6), by where the tile lies once the hints before it have taken
effect (R56). (DESIGN CHOICE, log entry 17.) -/
def hintTile (r : ExtReq) (key : Nat) (s : State) : State :=
  let at_ := tileGoes s key
  if ! isHome (tdeOf s key).tier then s
  else if r.hint == 1 then
    let md := match r.cd with | some cd => stackOfDie s cd | none => at_.2
    requestMove (plainMove key .ridge md 1 r.master r.waiters) s
  else if r.hint == 2 then
    if at_.1 == .ridge then requestMove (plainMove key .batten at_.2 2 r.master r.waiters) s else s
  else if at_.1 == .ridge && freeSlots s .batten at_.2 == 0 then s
  else requestMove (plainMove key .batten at_.2 3 r.master r.waiters) s

/-- Writes LAST_HINT of every tile of an extent (R60). -/
def writeHint (ext hint : Nat) (s : State) : State :=
  (tilesOf ext).foldl (fun u k => modTde k (fun t => { t with lastHint := hint }) u) s

/-- The queued hints of an extent that have not started are replaced by a later one, a queued unpark or park among them; the moves
that remain of a hint that is running are not (R56). (DESIGN CHOICE, log entry 17.) -/
def replaceHints (ext : Nat) (s : State) : State :=
  let isOld := fun (r : ExtReq) => r.ext == ext && r.hint != 0 && r.hint != 9
  let oldMove := fun (r : MoveReq) => extOf r.key == ext && r.hint != 0 && r.hint != 9 && ! r.begun
  let oldMoves := (s.tier.moveQueue ++ s.tier.moveNext).filter oldMove
  let old := (s.tier.parkQueue ++ s.tier.unparkQueue ++ s.tier.deferred).filter isOld
  let s1 := s.setTier { s.tier with
    moveQueue := s.tier.moveQueue.filter fun r => ! oldMove r
    moveNext := s.tier.moveNext.filter fun r => ! oldMove r
    parkQueue := s.tier.parkQueue.filter fun r => ! isOld r
    unparkQueue := s.tier.unparkQueue.filter fun r => ! isOld r
    deferred := s.tier.deferred.filter fun r => ! isOld r }
  let s2 := oldMoves.foldl (fun u r => tell r.waiters (extSubject ext) .aborted (tell r.waiters r.key .aborted u)) s1
  old.foldl (fun u r => tell r.waiters (extSubject ext) .aborted u) s2

/-- The COLD mark of the park order, which a hint sets or clears (R63). -/
def markCold (ext hint : Nat) (s : State) : State :=
  s.setTier { s.tier with coldFirst := if hint == 3 then setInsert ext s.tier.coldFirst else setErase ext s.tier.coldFirst }

/-- A DROP hint: at once, whatever runs on the extent (R59), and LAST_HINT of the empty tiles tells of it (R60). -/
def hintDrop (r : ExtReq) (s : State) : State :=
  let t := dropNow r.ext (markCold r.ext 5 s)
  tell r.waiters (extSubject r.ext) .done (if kindOf t r.ext == 1 then writeHint r.ext 5 t else t)

/-- A PARK of an extent that no usable Underlay takes (R58). -/
def parkVoid (s : State) (hint ext : Nat) : Bool := hint == 4 && (kindOf s ext == 1 || kindOf s ext == 3) && parkRefused s

/-- A hint takes effect on one extent (Table 2-6); the waiters are told where the whole extent ends at once. A PARK that no usable
Underlay takes changes nothing (R58). (DESIGN CHOICE, log entry 17.) -/
def hintExtent (r : ExtReq) (s0 : State) : State :=
  if extGone s0 r.ext then tell r.waiters (extSubject r.ext) .failed s0
  else if parkVoid s0 r.hint r.ext then requestPark { r with act := 1 } s0
  else if decide (4 ≤ r.hint) && extHeld s0 r.ext then tell r.waiters (extSubject r.ext) .held s0
  else
    let s := replaceHints r.ext s0
    let k := kindOf s r.ext
    if r.hint == 5 then (if extUp s r.ext then hintDrop r s else s.setTier { s.tier with deferred := s.tier.deferred ++ [r] })
    else if k == 3 then s.setTier { s.tier with deferred := s.tier.deferred ++ [r] }
    else if r.hint == 4 then requestPark { r with act := 1 } s
    else if k == 2 then
      if r.hint == 3 then s
      else requestUnpark { r with act := 0, tier := if r.hint == 1 then .ridge else .batten, touched := 0 } s
    else if k == 0 then s
    else (tilesOf r.ext).foldl (fun u key => hintTile r key u) (markCold r.ext r.hint (writeHint r.ext r.hint s))

/-- DROP of an extent for a command: at once, unless it is claimed or held (R59, R317). -/
def requestDrop (r : ExtReq) (s : State) : State :=
  if extGone s r.ext then tell r.waiters (extSubject r.ext) .failed s
  else if extHeld s r.ext then tell r.waiters (extSubject r.ext) .held s
  else if ! extUp s r.ext then s.setTier { s.tier with deferred := s.tier.deferred ++ [r] }
  else tell r.waiters (extSubject r.ext) .done (dropNow r.ext s)

/-- A deferred request takes effect once its extent is no longer in transit. HOT or WARM that finds it resident has nothing to wait
for (log entry 17). -/
def runDeferred (r : ExtReq) (s : State) : State :=
  if r.act == 0 || r.act == 4 then requestUnpark r s
  else if r.act == 1 then requestPark r s
  else if r.act == 2 then requestDrop r s
  else
    let t := hintExtent r s
    if r.hint ≤ 2 && kindOf s r.ext ≤ 1 then tell r.waiters (extSubject r.ext) .done t else t

/-! ### The free reserve (R63) and ageing (R62) -/

/-- The sum of HEAT over an extent's tiles. -/
def extHeat (s : State) (ext : Nat) : Nat := (tilesOf ext).foldl (fun a k => a + (tdeOf s k).heat) 0

/-- The extent first in park order of a directory MD, of those that may be parked (R63). -/
def parkFirst (s : State) (md : Nat) : Option Nat :=
  let ok := fun (e : Nat) => dirMd s e == md && kindOf s e == 1 && ! extHeld s e && ! progHolds s e
    && ! (s.tier.parkQueue.any (·.ext == e))
  let es := (s.tier.exts.map (·.1)).filter ok
  let key := fun (e : Nat) => (if s.tier.coldFirst.contains e then 0 else 1, if s.tier.coldFirst.contains e then 0 else extHeat s e)
  es.foldl (fun a e => match a with
    | none => some e
    | some b => if (key e).1 < (key b).1 || ((key e).1 == (key b).1 && (key e).2 < (key b).2) then some e else some b) none

/-- The free reserve of a directory MD falls short. -/
def reserveShort (s : State) (md : Nat) : Bool :=
  100 * freeHomesOf s md < s.tier.battenTiles.getD md 0 * scalar s 0x2200 3 1

/-- Starts a park for the free reserve where none waits or runs for it. -/
def reserveCheck (md : Nat) (s : State) : State :=
  if ! underlayParks s || ! reserveShort s md || s.tier.parkQueue.any (fun r => r.master == 130 && dirMd s r.ext == md)
      || s.tier.parks.any (fun p => p.master == 130 && dirMd s p.ext == md) then s
  else match parkFirst s md with
    | none => s
    | some e => requestPark { ext := e, act := 1, master := 130, tier := .underlay, md := none, cd := none, hint := 0
                              touched := 0, waiters := [] } s

/-- The content of a policy table, as the ageing process and the flash translation see it. -/
def policyRows (s : State) (index : Nat) : List Nat :=
  let t := tableOf s index
  (List.range t.rows).map t.row

/-- What an ageing pass asks of one tile: a move to Ridge or Batten by its HEAT, or a re-encode (R62, R179). -/
def ageTile (key : Nat) (s : State) : State :=
  let t := tdeOf s key
  let pol := policyRows s (scalar s 0x2200 7 0x5020)
  if (t.state != .resident && t.state != .damaged) || t.expoHeld || ! isHome t.tier || kindOf s (extOf key) != 1 then s
  else if wantsReencode s key then
    queueMove { plainMove key t.tier t.homeMd 0 130 [] with kind := .reencode } s
  else if t.tier == .batten && Config.agerPromote pol ≤ t.heat then
    requestMove (plainMove key .ridge t.homeMd 0 130 [.ager]) s
  else if t.tier == .ridge && t.heat < Config.agerDemote pol then
    requestMove (plainMove key .batten t.homeMd 0 130 [.ager]) s
  else s

/-- What an ageing pass parks beyond the free reserve, as its policy prescribes (R62). -/
def ageExtent (ext : Nat) (s : State) : State :=
  if kindOf s ext == 1 && ! extHeld s ext && ! progHolds s ext && underlayParks s
      && Config.agerParks (policyRows s (scalar s 0x2200 7 0x5020)) (extHeat s ext) then
    requestPark { ext := ext, act := 1, master := 130, tier := .underlay, md := none, cd := none, hint := 0
                  touched := 0, waiters := [] } s
  else s

/-- HEAT_HALVING of a directory MD, with the ageing pass (R61, R62). -/
def heatHalving (md : Nat) (s : State) : State :=
  let keys := (s.tier.tdes.filter fun p => dirMd s (extOf p.1) == md).map (·.1)
  let s1 := keys.foldl (fun u k => modTde k (fun t => { t with heat := t.heat / 2 }) u) s
  let s2 := keys.foldl (fun u k => ageTile k u) s1
  (dedup (keys.map extOf)).foldl (fun u e => ageExtent e u) s2

end Sys2Proof.Machine
end

