-- ==== Sys2Proof/Machine/FailOps.lean ====
section
/-! DEFINITION. Corrections and uncorrectable sectors, and the failure of a Batten channel or a stack (R86, R87,
R386 to R388). -/

namespace Sys2Proof.Machine

/-- A tile slot has bytes in a channel (R36, R87). -/
def slotInChannel (s : State) (md slot n : Nat) : Bool :=
  (List.range (65536 / max 1 s.dram.grain)).any fun i => channelAt s md (65536 * slot + s.dram.grain * i) == n

/-- Changes a controller. -/
def modCtl (n : Nat) (f : DramCtl → DramCtl) (s : State) : State :=
  s.setDram { s.dram with ctls := MapOps.modify n {} f s.dram.ctls }

/-- The tiles whose home lies in failed memory, of those that a test picks. -/
def homedTiles (s : State) (tier : Tier) (md : Nat) (f : Nat → Bool) : List Nat :=
  (s.tier.tdes.filter fun q => q.2.tier == tier && q.2.homeMd == md && f q.2.homeSlot).map (·.1)

/-- A tile of a pass's range. -/
def inScrub (s : State) (p : Scrub) (key : Nat) : Bool :=
  match dpaExtOf s p.part (extOf key) with
  | some e => decide (p.first ≤ (e * 32 + key % 32) * 65536 + 65535) && decide ((e * 32 + key % 32) * 65536 < p.first + p.length)
  | none => false

/-- SQUEEGEE passes over a range that holds one of some tiles will stop (R391). -/
def markScrubs (keys : List Nat) (s : State) : State :=
  s.setDram { s.dram with scrubs := s.dram.scrubs.map fun p => { p with failed := p.failed || keys.any (inScrub s p) } }

/-- Moves that a failure ends, with what their tiles wait for next. -/
def endMoves (f : Move → Bool) (s : State) : State :=
  (s.tier.moves.filter f).foldl (fun u m => afterMove m.key (endMove m .failed u)) s

/-- The waiters of requests that a failure ends are told. -/
def failReqs (l : List ExtReq) (s : State) : State :=
  l.foldl (fun u r => tell r.waiters (extSubject r.ext) .failed u) s

/-- Partitions whose Range Table rows map an extent of a directory MD. -/
def partsOfDir (s : State) (md : Nat) : List Nat :=
  (dedup (((rtRows s).filter fun q => rtValid q.2 &&
    (List.range (min (rtExtents q.2) s.tier.k)).any fun i => dirMd s (rtDevFirst q.2 + i) == md).map (rtPart ·.2))).mergeSort (· ≤ ·)

/-- Extents whose entries are lost (R87, R386): what runs on them ends, and the slots of their tiles stay out of use
until the next start. (DESIGN CHOICE, log entry 19.) -/
def loseExtents (mine : Nat → Bool) (s : State) : State :=
  let s1 := endMoves (fun m => mine (extOf m.key)) s
  let s2 := (s1.tier.parks.filter fun p => mine p.ext).foldl (fun u p =>
    tell p.waiters (extSubject p.ext) .failed ((tilesOf p.ext).foldl (fun v k => dropCoding k true v) u)) s1
  let s3 := (s2.tier.unparks.filter fun u => mine u.req.ext).foldl (fun v u => tell u.req.waiters (extSubject u.req.ext) .failed v) s2
  let s4 := failReqs (((s3.tier.parkQueue ++ s3.tier.unparkQueue) ++ s3.tier.deferred).filter fun r => mine r.ext) s3
  let s5 := ((s4.tier.moveQueue ++ s4.tier.moveNext).filter fun r => mine (extOf r.key)).foldl
    (fun u r => tell r.waiters r.key .failed u) s4
  let s6 := ((s5.tier.exts.map (·.1)).filter mine).foldl (fun u e => noteLoss e u) s5
  let t := s6.tier
  s6.setTier { t with
    exts := t.exts.filter (fun q => ! mine q.1), tdes := t.tdes.filter (fun q => ! mine (extOf q.1))
    groups := t.groups.filter (fun q => ! mine q.2)
    slots := t.slots.map fun q => match q.2 with
      | .home k => if mine (extOf k) then (q.1, .outOfUse) else q
      | .dest k => if mine (extOf k) then (q.1, .outOfUse) else q
      | _ => q
    parks := t.parks.filter (fun p => ! mine p.ext), unparks := t.unparks.filter (fun u => ! mine u.req.ext)
    parkQueue := t.parkQueue.filter (fun r => ! mine r.ext), unparkQueue := t.unparkQueue.filter (fun r => ! mine r.ext)
    deferred := t.deferred.filter (fun r => ! mine r.ext)
    moveQueue := t.moveQueue.filter (fun r => ! mine (extOf r.key)), moveNext := t.moveNext.filter (fun r => ! mine (extOf r.key))
    damHeld := t.damHeld.filter (fun h => ! mine (extOf h.key))
    held := t.held.filter (fun h => ! (h.lost && mine (extOf h.key)))
    coldFirst := t.coldFirst.filter (fun e => ! mine e) }

/-- BCHn has failed (R87): its tiles become POISONED, moves into its MD's Batten abort, and a directory MD's extents are
lost. -/
def channelFails (n : Nat) (s : State) : State :=
  let md := n / 2
  let keys := homedTiles s .batten md fun slot => slotInChannel s md slot n
  let s1 := markScrubs keys s
  let s2 := endMoves (fun m => m.tier == .batten && m.md == md) s1
  let s3 := keys.foldl (fun u k => poisonTile k false u) s2
  let s4 := s3.setTier { s3.tier with battenDown := s3.tier.battenDown ||| BitVec.ofNat 8 (2 ^ md) }
  if s.tier.dirMds.contains md && ! bitAt s.tier.battenDown.toNat md then
    raiseEach 0x0207 (partsOfDir s md) 0 (loseExtents (fun ext => dirMd s ext == md) s4)
  else s4

/-- HSm has failed (R86): its tiles become POISONED and moves into or out of it abort. -/
def stackFails (m : Nat) (s : State) : State :=
  let keys := homedTiles s .ridge m fun _ => true
  let parts := (dedup (keys.map fun k => (tdeOf s k).part)).mergeSort (· ≤ ·)
  let s1 := markScrubs keys s
  let s2 := endMoves (fun q => q.tier == .ridge && q.md == m) s1
  let s3 := keys.foldl (fun u k => poisonTile k false u) s2
  raiseEach 0x0206 parts 0 (s3.setTier { s3.tier with ridgeDown := s3.tier.ridgeDown ||| BitVec.ofNat 8 (2 ^ m) })

/-- Some rank or stack is in doubled refresh. -/
def anyDoubled (s : State) : Bool := s.dram.ctls.any fun q => ! q.2.doubled.isEmpty

/-- REFRESH_RATE_HIGH when doubled refresh begins anywhere or ends everywhere (R372). -/
def judgeRefresh (entered : Bool) (s : State) : State :=
  let now := anyDoubled s
  let s1 := s.setDram { s.dram with rateHigh := now }
  if entered || (s.dram.rateHigh && ! now) then raise 0x0A06 none 0 s1 else s1

/-- A controller declares its channel or stack failed, for the replay limit (0) or UncorrectableLimit (1) (R388). -/
def memoryFails (ctl condition : Nat) (s : State) : State :=
  if (ctlOf s ctl).state != 1 then s
  else
    let kind := if ctl < 16 then 0 else 1
    let n := ctl % 16
    let s1 := judgeRefresh false (modCtl ctl (fun c => { c with
      state := 4, queue := [], alert := false, episode := 0, openRows := [], retry := [], doubled := [] }) s)
    let s2 := raise 0x0A02 none (kind + 256 * n + 65536 * condition) s1
    if kind == 0 then channelFails n s2 else stackFails n s2

/-- A controller records a new uncorrectable sector; too many within 1 s fail its channel or stack (R388). -/
def recordUncorrectable (ctl : Nat) (s : State) : State :=
  let now := nowUs s
  let times := now :: (ctlOf s ctl).ueTimes.filter fun t => decide (now < t + 1000000)
  let s1 := modCtl ctl (fun c => { c with ueTimes := times }) s
  if scalar s 0x2600 9 4096 ≤ times.length then memoryFails ctl 1 s1 else s1

/-- A new uncorrectable sector: counted, told, poisoned (R383, R387, R388). -/
def newUncorrectable (tier : Tier) (md slot i : Nat) (s : State) : State :=
  let key := homeAt s tier md slot
  let part := key.map fun k => (tdeOf s k).part
  let s1 := count 0x30A0 (if tier == .batten then 3 else 4) s
  let s2 := match part with | some p => countFor 0x30A4 p s1 | none => s1
  let s3 := raise 0x0A04 part (tierCode tier) s2
  let s4 := match key with
    | some k => putSector k i (zeros 64) true s3
    | none => storeSector (slotKey tier md slot) i (zeros 64) true s3
  recordUncorrectable (ctlAt s tier md slot i) s4

end Sys2Proof.Machine
end

