-- ==== Sys2Proof/Machine/HostOps.lean ====
section
/-! DEFINITION. Host accesses: from a host physical address to the home, the accesses a directory MD holds, the
answers, and the return of forwarded reads (R22 to R25, R43, R64, R78 to R80, R333 to R335, R356 to R359, R476). -/

namespace Sys2Proof.Machine

open Sys2Proof

/-! ### Functions of a port -/

/-- A port. -/
def portOf (s : State) (p : Nat) : Port := MapOps.getD p {} s.link.ports

/-- Changes a port. -/
def modPort (p : Nat) (f : Port → Port) (s : State) : State :=
  s.setLink { s.link with ports := MapOps.insert p (f (portOf s p)) s.link.ports }

/-- A logical device, by port × 16 + LD. -/
def ldOf (s : State) (i : Nat) : Ld := MapOps.getD i {} s.link.lds

/-- Changes a logical device. -/
def modLd (i : Nat) (f : Ld → Ld) (s : State) : State :=
  s.setLink { s.link with lds := MapOps.insert i (f (ldOf s i)) s.link.lds }

/-- A port's LDs are contained (R353). -/
def contained (s : State) (port : Nat) : Bool := (portOf s port).cause != 0

/-! ### From host physical address to DPA (R334, R335) -/

/-- The DPA range that a decoder uses: its skip and its size divided by its ways. -/
def decoderSpan (d : Decoder) : Nat := d.skip + d.size / 2 ^ d.ways

/-- The starting DPA of decoder n of an LD. -/
def decoderDpa (ds : Map Decoder) (n : Nat) (d : Decoder) : Nat :=
  d.skip + (ds.filter (fun q => q.1 < n)).foldl (fun a q => a + decoderSpan q.2) 0

/-- The formula of R334. -/
def decoderMap (d : Decoder) (start h : Nat) : Nat :=
  let off := h - d.base
  start + off / 2 ^ (d.grain + d.ways) * 2 ^ d.grain + off % 2 ^ d.grain

/-- The DPA of a host physical address, by the LD's committed decoders. -/
def hpaToDpa (s : State) (i h : Nat) : Option Nat :=
  let ds := (ldOf s i).decoders
  (ds.find? fun q => q.2.base ≤ h && h < q.2.base + q.2.size).map fun q => decoderMap q.2 (decoderDpa ds q.1 q.2) h

/-! ### Answers -/

/-- The unmapped response (R356): DevLoad is that of Batten (R439). -/
def unmapped (port ld tag : Nat) (isWrite : Bool) (part : Option Nat) (s : State) : State :=
  let s1 := match part with
    | some p => countFor 0x3091 p s
    | none => count 0x3090 3 s
  let dl := devLoad s (part.getD 0) 1
  if isWrite then emit .memCmp [port, ld, tag, dl] [] s1
  else emit .memData [port, ld, tag, 1, dl] (List.replicate 64 0xFF) s1

/-- Read data leaves the port: all ones with Poison while the LD is contained (R354); a poisoned sector carries
Poison and is counted (R359). -/
def answerRead (r : HostReq) (bytes : List Byte) (poison : Bool) (tier : Nat) (s : State) : State :=
  if contained s r.port then emit .memData [r.port, r.ld, r.tag, 1, devLoad s r.part tier] (List.replicate 64 0xFF) s
  else
    emit .memData [r.port, r.ld, r.tag, ofBool poison, devLoad s r.part tier] bytes
      (if poison then countFor 0x3092 r.part s else s)

/-- A write is answered with Cmp (R358). (DESIGN CHOICE, log entry 20.) -/
def answerWrite (r : HostReq) (tier : Nat) (s : State) : State :=
  emit .memCmp [r.port, r.ld, r.tag, devLoad s r.part tier] [] s

/-! ### The cipher of protected regions (R476) -/

/-- The keys of the protected region at a DPA, if there is one. -/
def keysAt (s : State) (part dpa : Nat) : Option KeyEntry :=
  match keyOf s part (dpa / 2097152) with
  | none => none
  | some k => some (MapOps.getD k ⟨zeros 32, zeros 32, 0⟩ s.sec.keys)

/-- A sector as stored, for a sector of plaintext at a DPA of a partition. -/
def encipherAt (s : State) (part dpa : Nat) (bytes : List Byte) : List Byte :=
  match keysAt s part dpa with
  | none => bytes
  | some k => xtsEncipher k.k1 k.k2 (dpa / 64 * 64) bytes

/-- A sector of plaintext, for a sector as stored. -/
def decipherAt (s : State) (part dpa : Nat) (bytes : List Byte) : List Byte :=
  match keysAt s part dpa with
  | none => bytes
  | some k => xtsDecipher k.k1 k.k2 (dpa / 64 * 64) bytes

/-! ### The store hold buffer (R43, R72, R80) -/

/-- Sectors in the store hold buffer of a directory MD (Table 2-5). -/
def holdCount (s : State) (md : Nat) : Nat :=
  (s.tier.damHeld.filter fun h => dirMd s (extOf h.key) == md).length
    + (s.tier.held.filter fun h => h.onPark && h.store.isSome && ! h.lost && dirMd s (extOf h.key) == md).length

/-- The buffer is full. -/
def holdFull (s : State) (ext : Nat) : Bool := 1024 ≤ holdCount s (dirMd s ext)

/-- An access is held at the directory MD. -/
def hold (h : Held) (s : State) : State := s.setTier { s.tier with held := s.tier.held ++ [h] }

/-- What is left of a store that is lost: its place among the accesses to its tile, where it poisons its sector (R80). -/
def lostStore (h : Held) : Held :=
  { h with store := some (BitVec.allOnes 64, zeros 64, true), onPark := true, onSlot := false, lost := true }

/-- A lost store is acknowledged, its data is discarded, and STORE_LOST is raised (R80). -/
def storeLost (h : Held) (s : State) : State :=
  answerWrite h.req 1 (raise 0x0202 (some h.req.part) 0 (countFor 0x3023 h.req.part s))

/-- A store to a PARKED tile finds the hold buffer full (R80): it is lost. -/
def loseStore (h : Held) (s : State) : State := storeLost h (hold (lostStore h) s)

/-- A store that waits is lost (R80): what is left of it keeps its place in the order of arrival. -/
def loseHeld (h : Held) (s : State) : State :=
  storeLost h (s.setTier { s.tier with held := s.tier.held.map fun q => if q == h then lostStore h else q })

/-- A lost store poisons the sector that it covered: its tile has landed (R80). -/
def applyLost (h : Held) (s : State) : State :=
  storeSectorFor h.req.part h.key h.sector (BitVec.allOnes 64) (zeros 64) true (mergesCoded s h.key (h.sector / 64))
    (rewriteRaw h.req.part h.key (h.sector / 64) s)

/-- The held writes of a block, in their order of arrival, as whole sectors; none unless they cover it (R43): every byte of every sector
is enabled in some write. (DESIGN CHOICE, log entry 99.) -/
def covered (s : State) (key b : Nat) : Option (List (List Byte × Bool)) :=
  let mine := s.tier.damHeld.filter fun h => h.key == key && h.sector / 64 == b
  let one := fun (i : Nat) =>
    (mine.filter fun h => h.sector % 64 == i).foldl
      (fun (a : List Byte × BitVec 64 × Bool) h =>
        if h.poison then (zeros 64, BitVec.allOnes 64, true)
        else (mergeBytes h.enables h.bytes a.1, a.2.1 ||| h.enables, if h.enables == BitVec.allOnes 64 then false else a.2.2))
      (zeros 64, 0, false)
  let all := (List.range 64).map one
  if all.all (fun a => a.2.1 == BitVec.allOnes 64) then some (all.map fun a => (a.1, a.2.2)) else none

/-- A host write to a sector of a DAMAGED block (R43): held with its Cmp, applied once the block is covered, or
discarded when the buffer is full. -/
def holdDamaged (h : Held) (e : BitVec 64) (bytes : List Byte) (poison : Bool) (s : State) : State :=
  if holdFull s (extOf h.key) then answerWrite h.req 1 (discardWrites 1 s)
  else
    let b := h.sector / 64
    let s1 := answerWrite h.req 1 (s.setTier { s.tier with
      damHeld := s.tier.damHeld ++ [⟨h.key, h.sector, bytes, e, poison⟩] })
    match covered s1 h.key b with
    | none => s1
    | some secs =>
      chargeWrite h.req.part h.key 64 (writeWhole h.key b secs (s1.setTier { s1.tier with
        damHeld := s1.tier.damHeld.filter fun q => ! (q.key == h.key && q.sector / 64 == b) }))

/-! ### An access at the directory MD -/

/-- A read is forwarded to the home (R23 step 6). One of a coded block pins the block's generation from here on (R148). -/
def forwardRead (h : Held) (s : State) : State :=
  let t := tdeOf s h.key
  let b := h.sector / 64
  let r : FwdRead :=
    { id := s.tier.nextRead, req := h.req, key := h.key, sector := h.sector, tier := t.tier, md := t.homeMd
      slot := t.homeSlot, len := blockLen t b, sheetSlot := t.sheetSlot, sheetGen := t.sheetGen
      sinceUs := nowUs s }
  let n := if blockLen t b == 0 then 1 else ceilDiv (blockLen t b) 64
  let s1 := if blockLen t b == 0 then s else pin t.sheetSlot t.sheetGen s
  chargeTier h.req.part t.tier n
    (s1.setTier { s1.tier with reads := s1.tier.reads ++ [r], nextRead := s1.tier.nextRead + 1 })

/-- A store is applied to a tile that has a home (R44 step 3, R67, R173, R385, R478). (DESIGN CHOICE, log entry 20.) -/
def applyStore (h : Held) (e : BitVec 64) (bytes : List Byte) (poison wasEmpty : Bool) (s0 : State) : State :=
  let b := h.sector / 64
  let s := if poison then countFor 0x3092 h.req.part s0 else s0
  let merges := mergesCoded s h.key b
  let s1 := rewriteRaw h.req.part h.key b s
  let t := tdeOf s1 h.key
  if isDamaged t b then holdDamaged h e bytes poison s1
  else
    let s2 :=
      if poison || (keysAt s1 h.req.part h.req.dpa).isNone then storeSectorFor h.req.part h.key h.sector e bytes poison merges s1
      else
        let old := match homeOf t with
          | some k => if wasEmpty then zeros 64 else decipherAt s1 h.req.part h.req.dpa (sectorBytes s1 k h.sector)
          | none => zeros 64
        mergedSector h.req.part h.key h.sector (e != BitVec.allOnes 64)
          (encipherAt s1 h.req.part h.req.dpa (mergeBytes e bytes old)) merges s1
    answerWrite h.req (tierCode t.tier) s2

/-- A store to an empty tile gets a home first, or waits for one (R37, R64). (DEDUCED, log entry 83.) -/
def storeEmpty (h : Held) (e : BitVec 64) (bytes : List Byte) (poison : Bool) (s : State) : State :=
  match giveHome h.key s with
  | some s1 => applyStore h e bytes poison true s1
  | none => hold { h with onSlot := true } (if h.onSlot then s else count 0x3020 0x0F s)

/-- A host access waits on a PARKED tile, and the first time it is counted (Table 2-9). -/
def waitParked (h : Held) (s : State) : State :=
  hold { h with onPark := true, waited := true } (if h.waited then s else countFor 0x3021 h.req.part s)

/-- A flip window, or a commit, holds every new access to a tile (R44, R72, R312). -/
def windowHolds (s : State) (key : Nat) : Bool :=
  (s.tier.moves.any fun m => m.key == key && m.window)
    || (s.tier.parks.any fun p => p.ext == extOf key && p.window && ! p.committing) || expoHolds s key

/-- The dies that an access needs can reach each other (R18). -/
def accessUp (s : State) (h : Held) : Bool := if h.store.isSome then diesUp s (writeDies s h.key) else tileUp s h.key

/-- An access to a tile of an extent of KIND 1 or 3 (Table 2-3): it counts once in the tile's HEAT (R61). -/
def tileAccess (h0 : Held) (s0 : State) : State :=
  let s := if h0.counted then s0 else touchTile h0.key s0
  let h := { h0 with counted := true }
  let t := tdeOf s h.key
  let ext := extOf h.key
  match t.state with
  | .parked =>
    let s1 := touchUnpark h.key [] s
    if h.store.isSome && holdFull s1 ext then loseStore h s1 else waitParked h s1
  | .poisoned =>
    match h.store with
    | none => answerRead h.req (zeros 64) true 1 s
    | some _ => answerWrite h.req 1 (discardWrites 1 s)
  | _ =>
    let inWindow := windowHolds s h.key
    let inWait := s.tier.parks.any fun p => p.ext == ext && p.committing
    if inWindow || ! accessUp s h then hold { h with onPark := false, onSlot := false } s
    else match h.store with
    | none =>
      if ! isHome t.tier then answerRead h.req (zeros 64) false 1 s
      else if isDamaged t (h.sector / 64) then answerRead h.req (zeros 64) true (tierCode t.tier) s
      else forwardRead h s
    | some (e, bytes, poison) =>
      if inWait then (if holdFull s ext then loseStore h s else hold { h with onPark := true } s)
      else if ! isHome t.tier then storeEmpty h e bytes poison s
      else applyStore h e bytes poison false s

/-- An access to an extent that answers poison. -/
def poisonAnswer (h : Held) (s : State) : State :=
  match h.store with
  | none => answerRead h.req (zeros 64) true 1 s
  | some _ => answerWrite h.req 1 s

/-- An access at the directory MD of its extent (R23 steps 4 and 5). (DESIGN CHOICE, log entry 20.) -/
def hostAccess (h : Held) (s : State) : State :=
  let ext := extOf h.key
  let k := kindOf s ext
  if extGone s ext || imageLost s ext then poisonAnswer h s
  else if k == 0 then
    match h.store with
    | none => answerRead h.req (zeros 64) false 1 s
    | some (e, bytes, poison) =>
      match mapExtent ext s with
      | none => hold { h with onSlot := true } (if h.onSlot then s else count 0x3020 0x0F s)
      | some s1 => storeEmpty { h with counted := true } e bytes poison (if h.counted then s1 else touchTile h.key s1)
  else if k == 2 then
    let s1 := requestUnpark { ext := ext, act := 0, master := h.req.part, tier := .batten, md := none, cd := none
                              hint := 0, touched := h.key % 32, waiters := [] } s
    if imageLost s1 ext then poisonAnswer h s1
    else if h.store.isSome && holdFull s1 ext && ! h.onPark then loseStore h s1
    else waitParked h s1
  else tileAccess h s

/-- A held access may be tried again: its window is closed, its tile has landed or a slot may be free. -/
def mayRetry (s : State) (h : Held) : Bool :=
  let ext := extOf h.key
  if extGone s ext || imageLost s ext then true
  else if h.onSlot then (battenFor s (dirMd s ext)).isSome || (tdeOf s h.key).state == .poisoned
  else if h.onPark then
    match kindOf s ext with
    | 0 => true
    | 1 => (tdeOf s h.key).state != .parked
    | 2 => ! (s.tier.unparkQueue.any (·.ext == ext))
    | _ => (tdeOf s h.key).state != .parked && ! (s.tier.parks.any fun p => p.ext == ext && p.committing)
  else ! windowHolds s h.key && accessUp s h

/-- The tile of a lost store takes no poison any more: it has none of the data that the store would have changed. -/
def lostVoid (s : State) (h : Held) : Bool :=
  extGone s (extOf h.key) || imageLost s (extOf h.key) || kindOf s (extOf h.key) == 0 || (tdeOf s h.key).state == .poisoned

/-- The tile of a lost store has landed, and takes writes (R80). -/
def lostMay (s : State) (h : Held) : Bool :=
  let k := kindOf s (extOf h.key)
  (k == 1 || k == 3) && (tdeOf s h.key).state != .parked && ! windowHolds s h.key && accessUp s h
    && ! (s.tier.parks.any fun p => p.ext == extOf h.key && p.committing)

/-- Tries a lost store again: a tile that landed empty gets a home for the poison, and while no slot is free it waits. -/
def retryLost (h : Held) (s : State) : State :=
  let s1 := s.setTier { s.tier with held := s.tier.held.erase h }
  if lostVoid s h then s1
  else if ! lostMay s h then s
  else if isHome (tdeOf s h.key).tier then applyLost h s1
  else match giveHome h.key s1 with
    | some s2 => applyLost h s2
    | none => s

/-- Tries the held accesses again, in their order of arrival. -/
def retryHeld (s : State) : State :=
  s.tier.held.foldl (fun u h =>
    if h.lost then retryLost h u
    else if mayRetry u h then hostAccess h (u.setTier { u.tier with held := u.tier.held.erase h }) else u) s

/-- Deferred requests whose extent is no longer in transit take effect (R56), and drops that a failed link does not cut off (R18). -/
def retryDeferred (s : State) : State :=
  s.tier.deferred.foldl (fun u r =>
    if (if r.act == 2 || (r.act == 3 && r.hint == 5) then ! extUp u r.ext else kindOf u r.ext == 3) then u
    else runDeferred r (u.setTier { u.tier with deferred := u.tier.deferred.erase r })) s

/-- A CXL.mem request at its I/O die (R23 steps 1 to 3, R335, R354, R25). -/
def hostRequest (port ld spid tag hpa : Nat) (store : Option (BitVec 64 × List Byte × Bool)) (s : State) : State :=
  let part := requester s port ld spid true
  let no := unmapped port ld tag store.isSome part
  if contained s port then
    (if store.isSome then emit .memCmp [port, ld, tag, devLoad s (part.getD 0) 1] [] s
     else emit .memData [port, ld, tag, 1, devLoad s (part.getD 0) 1] (List.replicate 64 0xFF) s)
  else if ideRefuses s port 1 then no s
  else match hpaToDpa s (16 * port + ld) hpa, part with
  | none, _ => no s
  | _, none => no s
  | some dpa, some p =>
    let ext := dpa / 2097152
    if ! (ldOf s (16 * port + ld)).memEnable || 2 ^ 52 ≤ dpa || s.tier.k == 0 then no s
    else if ! (if store.isSome then canWrite s p ext else canRead s p ext) then no s
    else match devOf s p ext with
    | none => no s
    | some e =>
      hostAccess
        { key := tileKey e (dpa / 65536 % 32), sector := dpa / 64 % 1024
          req := ⟨port, ld, tag, p, dpa⟩, store := store, onPark := false, onSlot := false } s

/-- A CXL.mem request meets the admission point (R437): a held master's request waits there. -/
def admitReq (c : Instr) (port ld spid : Nat) (run : State → State) (s : State) : State :=
  match requester s port ld spid true with
  | some p => if heldMaster s p then s.setRegul { s.regul with held := s.regul.held ++ [(p, c)] } else run s
  | none => run s

/-- Runs a request that an admission point released. -/
def runHeld (c : Instr) (s : State) : State :=
  match c with
  | .cxlMemRead port ld spid tag hpa => hostRequest port ld spid tag hpa none s
  | .cxlMemWrite port ld spid tag hpa e bytes poison => hostRequest port ld spid tag hpa (some (e, bytes, poison)) s
  | _ => s

/-- Requests that an admission point no longer holds, the masters in turn and each one's in order (R437, R438). -/
def releaseAdmitted : Nat → State → State
  | 0, s => s
  | n + 1, s =>
    match s.regul.held.find? (fun q => ! heldMaster s q.1) with
    | none => s
    | some q =>
      let rest := s.regul.held.erase q
      let later := rest.filter (fun r => r.1 == q.1)
      let s1 := s.setRegul { s.regul with held := rest.filter (fun r => r.1 != q.1) ++ later }
      releaseAdmitted n (runHeld q.2 s1)

/-! ### Returning reads (R381 to R387) -/

/-- What a read of a sector of a slot gives, with the bits in error of its stored copy and those that have newly gone wrong; its data, and
what it does to the memory and counts. A stored copy that is corrected in flight keeps its bits in error (R384).
(DEDUCED, log entry 38.) -/
def readSlot (tier : Tier) (md slot i : Nat) (severe : Bool) (error : List Byte) (s : State) : SectorRead × List Byte × State :=
  let k := slotKey tier md slot
  let b := tier == .batten
  let burst := if sectorPoisoned s k i then poisonBurst b else burstOf b (sectorBytes s k i)
  let wrong := slice (xorBytes (zeros burst.length) (xorBytes error (MapOps.getD (sectorNo k i) [] s.dram.dirty))) 0 burst.length 0
  let seen := xorBytes burst wrong
  match readBurst b severe seen with
  | .clean => (.clean, burstData b seen, s)
  | .corrected =>
    (.corrected, burstData b seen, countCorrected tier md slot i
      (s.setDram { s.dram with dirty := MapOps.insert (sectorNo k i) wrong s.dram.dirty }))
  | .poison => (.poison, zeros 64, s)
  | .uncorrectable => (.uncorrectable, zeros 64, newUncorrectable tier md slot i s)

/-- A forwarded read has returned. -/
def dropRead (id : Nat) (s : State) : State :=
  match s.tier.reads.find? (·.id == id) with
  | none => s
  | some r =>
    let k := slotKey r.tier r.md r.slot
    let s0 := s.setTier { s.tier with reads := s.tier.reads.filter (·.id != id) }
    let s1 := if r.len == 0 then s0 else unpin r.sheetSlot r.sheetGen s0
    match MapOps.get? k s1.tier.slots with
    | some (.freePending n) => s1.setTier { s1.tier with slots := MapOps.insert k (.freePending (n - 1)) s1.tier.slots }
    | _ => s1

/-- A host read's data returns from the home (R66, R171, R381): raw data is answered, a coded block goes to a decode. A block that a
write has made raw since the read was forwarded gives the sector as it now stands. -/
def hostReadReturn (r : FwdRead) (severe : Bool) (error : List Byte) (s : State) : State :=
  let k := slotKey r.tier r.md r.slot
  if r.len == 0 || r.raw then
    let q := readSlot r.tier r.md r.slot r.sector severe error s
    let bad := q.1 == .poison || q.1 == .uncorrectable
    let bytes := if bad then zeros 64 else decipherAt s r.req.part r.req.dpa q.2.1
    answerRead r.req bytes bad (tierCode r.tier) (dropRead r.id q.2.2)
  else
    let q := readSlot r.tier r.md r.slot (r.sector / 64 * 64) severe error s
    let t := countDirty k (r.sector / 64 * 64 + 1) (ceilDiv r.len 64 - 1) q.2.2
    let stored := (codedBytes t k (r.sector / 64) r.len).1
    queueDecode
      { id := 0, md := r.md, key := r.key, block := r.sector / 64, sheetSlot := r.sheetSlot
        sheetGen := r.sheetGen, bytes := (q.2.1 ++ stored.drop 64).take r.len, use := .host r.id
        bad := (codedBytes t k (r.sector / 64) r.len).2 } t

/-- A decode for a host read ends (R171, R172). -/
def hostDecodeEnd (j : DecodeJob) (r : FwdRead) (error : List Byte) (s : State) : State :=
  let k := slotKey r.tier r.md r.slot
  let s2 := dropRead r.id (count 0x3040 5 (decodeOver j s))
  match j.result error s with
  | .ok raw =>
    answerRead r.req (decipherAt s r.req.part r.req.dpa (slice raw (64 * (r.sector % 64)) 64 0)) false (tierCode r.tier) s2
  | .error e =>
    let t := tdeOf s2 j.key
    let still := homeOf t == some k && blockLen t j.block == r.len && r.len != 0 && ! isDamaged t j.block
    answerRead r.req (zeros 64) true (tierCode r.tier) (if still then damageBlock j.key j.block e s2 else s2)

end Sys2Proof.Machine
end

