-- ==== Sys2Proof/Machine/QueueOps.lean ====
section
/-! DEFINITION. Rings, completion records, MSI-X, and the checks of a descriptor that need no chapter of their own
(chapter 7, R341). -/

namespace Sys2Proof.Machine

open Sys2Proof

/-! ### Rings -/

/-- A ring's number: (port × 16 + LD) × 64 + ring. -/
def ringId (port ld ring : Nat) : Nat := (port * 16 + ld) * 64 + ring

/-- A ring block. -/
def ringOf (s : State) (id : Nat) : Ring := MapOps.getD id {} s.queue.rings

/-- Changes a ring block. -/
def modRing (id : Nat) (f : Ring → Ring) (s : State) : State :=
  s.setQueue { s.queue with rings := MapOps.insert id (f (ringOf s id)) s.queue.rings }

/-- An LD's mastering is off or it is contained, so that its rings are FROZEN (R271, R342, R349, R350, R568). -/
def ldFrozen (s : State) (i : Nat) : Bool :=
  ! (ldOf s i).bme || (ldOf s i).d3 || (ldOf s i).flr || contained s (i / 16) || (portOf s (i / 16)).markFreeze
    || ! (portOf s (i / 16)).up

/-- STATE of a ring as a read shows it: an ACTIVE ring of a frozen LD is FROZEN. -/
def ringState (s : State) (id : Nat) : Nat :=
  if (ringOf s id).state == 1 && ldFrozen s (id / 64) then 2 else (ringOf s id).state

/-- A ring becomes FAULTED (R270). -/
def faultRing (id code : Nat) (s : State) : State :=
  raise 0x0701 (ldPart s (id / 1024) (id / 64 % 16)) code
    (count 0x3070 4 (modRing id (fun r => { r with state := 3, fault := code, fetch := 0 }) s))

/-- The rings of a partition that are enabled (R264), the FAULTED ones among them. (DESIGN CHOICE, log entry 122.) -/
def ringsEnabled (s : State) (p : Nat) : Nat :=
  (s.queue.rings.filter fun q => (q.2.state == 1 || q.2.state == 3) && (ldsOf s p).contains (q.1 / 64)).length

/-- Records of a ring that wait for a freeze to lift. -/
def heldOf (s : State) (id : Nat) : Nat := (s.queue.heldRecords.filter fun h => h.1 == id).length

/-- A ring that is being disabled becomes DISABLED once nothing of it remains (R270). -/
def disableCheck (id : Nat) (s : State) : State :=
  let r := ringOf s id
  if r.disabling && r.inFlight == 0 && heldOf s id == 0 then
    modRing id (fun q => { q with state := 0, fault := 0, disabling := false, pinned := [], fetch := 0 }) s
  else s

/-! ### MSI-X (R341) -/

/-- Sends an LD's MSI-X message, or leaves it pending. -/
def sendMsix (i v : Nat) (s : State) : State :=
  let l := ldOf s i
  let e := MapOps.getD v (0, 0, true) l.msixTable
  if e.2.2 || l.functionMask || ! l.msixEnable then modLd i (fun q => { q with pba := setInsert v q.pba }) s
  else emit .msix [i / 16, i % 16, v, e.1, e.2.1] [] s

/-- Sends the pending messages of an LD that are no longer masked; a frozen or unbound LD sends none (R271, R345). -/
def flushPba (i : Nat) (s : State) : State :=
  let l := ldOf s i
  if ldFrozen s i || (ldPart s (i / 16) (i % 16)).isNone then s
  else l.pba.foldl (fun u v =>
    let e := MapOps.getD v (0, 0, true) l.msixTable
    if e.2.2 || l.functionMask || ! l.msixEnable then u
    else emit .msix [i / 16, i % 16, v, e.1, e.2.1] [] (modLd i (fun q => { q with pba := setErase v q.pba }) u)) s

/-! ### Records (R283, R284) -/

/-- The signal that a record calls for. -/
def signal (id : Nat) (irq : Bool) (s : State) : State :=
  let r := ringOf s id
  if r.irqMode == 2 || (r.irqMode == 1 && irq) then
    if r.irqDelay == 0 then sendMsix (id / 64) r.vector s else modRing id (fun q => { q with gathering := true }) s
  else s

/-- Writes a completion record at CQ_TAIL, with SQ_HEAD and PHASE of this moment, and then its signal. -/
def writeRecord (id : Nat) (body : List Byte) (irq : Bool) (s : State) : State :=
  let r := ringOf s id
  let w := ofBytes (body.take 28) + put r.sqHead 16 224 + put (ofBool r.phase) 1 255
  let last := r.cqTail + 1 == 2 ^ r.cqLog2
  let s1 := emit .record [id / 1024, id / 64 % 16, id % 64, r.cqTail, r.cqBase + 32 * r.cqTail] (toBytes 32 w) s
  let s2 := modRing id (fun q => { q with cqTail := if last then 0 else q.cqTail + 1, phase := if last then ! q.phase else q.phase }) s1
  let s3 := match ldPart s (id / 1024) (id / 64 % 16) with
    | some p =>
      let u := countFor 0x3071 p s2
      let u1 := if field w 23 16 == 0 then u else countFor 0x3072 p u
      if bitAt w 38 then countFor 0x3073 p u1 else u1
    | none => s2
  signal id irq s3

/-- Writes the held records of an LD, in completion order, once its freeze has lifted (R271). (DEDUCED, log entry 39.) -/
def flushHeld (i : Nat) (s : State) : State :=
  if ldFrozen s i then s
  else
    let mine := s.queue.heldRecords.filter fun h => h.1 / 64 == i
    let s1 := s.setQueue { s.queue with heldRecords := s.queue.heldRecords.filter fun h => h.1 / 64 != i }
    let s2 := mine.foldl (fun u h => writeRecord h.1 h.2.1 h.2.2 u) s1
    mine.foldl (fun u h => disableCheck h.1 u) s2

/-- A record is written, or held while the ring's LD is frozen (R271). (DEDUCED, log entry 39.) -/
def giveRecord (id : Nat) (body : List Byte) (irq : Bool) (s : State) : State :=
  if ldFrozen s (id / 64) then
    count 0x3070 5 (s.setQueue { s.queue with heldRecords := s.queue.heldRecords ++ [(id, body, irq)] })
  else disableCheck id (writeRecord id body irq s)

/-! ### Commands -/

/-- A command in flight. -/
def cmdOf (s : State) (id : Nat) : Option Cmd := MapOps.get? id s.queue.cmds

/-- Changes a command in flight. -/
def modCmd (id : Nat) (f : Cmd → Cmd) (s : State) : State :=
  match cmdOf s id with
  | none => s
  | some c => s.setQueue { s.queue with cmds := MapOps.insert id (f c) s.queue.cmds }

/-- Bits of a descriptor. -/
def Cmd.bits (c : Cmd) (hi lo : Nat) : Nat := field c.desc hi lo

/-- OPCODE of a command. -/
def Cmd.op (c : Cmd) : Nat := field c.desc 7 0

/-- LATE of a command (R286). -/
def lateOf (s : State) (c : Cmd) : Bool :=
  c.started && match c.expiry with | some e => decide (e < nowUs s) | none => false

/-- The status that several failures give (R285). -/
def statusOf (met : List Nat) : Nat :=
  if met.contains 0x21 && met.all (fun x => x == 0x20 || x == 0x21 || x == 0 || x > 0x20) then 0x21
  else met.foldl (fun a x => if x == 0 then a else if a == 0 then x else min a x) 0

/-- The first 28 bytes of a record, without SQ_HEAD and PHASE (Table 7-11). -/
def recordBody (s : State) (c : Cmd) (status r0 r1 : Nat) (poisoned : Bool) : List Byte :=
  toBytes 28 ((if poisoned then 0xFFFF else c.bits 31 16) + put status 8 16 + put (if poisoned then 0 else c.op) 8 24
    + put c.ring 6 32 + put (ofBool (lateOf s c)) 1 38 + put c.slot 16 40 + put r0 64 64 + put r1 64 128
    + put (min (nowUs s - c.fetchUs) (2 ^ 32 - 1)) 32 192)

/-- A descriptor is a touch of the session it names (chapter 3, before R104): ATTEND, REBUILD, UNPARK, HINT HOT or WARM, or
an UPDATE. -/
def isTouch (d : Nat) : Bool :=
  let op := field d 7 0
  op == 0x12 || op == 0x13 || (op == 0x04 && bitAt d 146) || (op == 0x02 && bitAt d 146 && field d 149 147 ≤ 2)
    || (op == 0x10 && field d 147 146 == 1)

/-- IN_FLIGHT of the session that a command names falls, and a touch sets LAST_TOUCH again (R104). -/
def leaveSession (n : Option Nat) (d : Nat) (s : State) : State :=
  match n with
  | none => s
  | some h => match MapOps.get? h s.sess.recs with
    | none => s
    | some r =>
      let r1 := { r with inFlight := r.inFlight - 1, lastTouch := if isTouch d then calMs s else r.lastTouch }
      s.setSess { s.sess with recs := MapOps.insert h r1 s.sess.recs }

/-- A command completes (R283): its record, its ring's IN_FLIGHT and its counts. -/
def completeCmd (id status r0 r1 : Nat) (s : State) : State :=
  match cmdOf s id with
  | none => s
  | some c =>
    let body := recordBody s c status r0 r1 (c.desc == 2 ^ 512)
    let s0 := forgetWork 1 id (s.setQueue { s.queue with cmds := MapOps.erase id s.queue.cmds })
    let s1 := leaveSession c.session c.desc s0
    let s2 := modRing c.ring (fun r => { r with inFlight := r.inFlight - 1 }) s1
    let s3 := if status == 0x24 then countFor 0x30C1 c.part s2 else s2
    let s4 := if status == 0x3F then raise 0x0703 (some c.part) 0 s3 else s3
    if c.discard then disableCheck c.ring s4 else giveRecord c.ring body (bitAt c.desc 8) s4

/-- The subjects of a command that has ended all of them: it completes with the failures it met. -/
def finishCmd (id : Nat) (s : State) : State :=
  match cmdOf s id with
  | none => s
  | some c => completeCmd id (statusOf c.met) c.result0 c.result1 s

/-- A command starts (Table 7-4). (DEDUCED, log entry 22.) -/
def markStarted (id : Nat) (s : State) : State := modCmd id (fun c => { c with started := true }) s

/-- An earlier command of the ring has not completed (FENCE, Table 7-3). -/
def fenced (s : State) (c : Cmd) : Bool :=
  bitAt c.desc 9 && s.queue.cmds.any fun q => q.2.ring == c.ring && q.2.order < c.order

/-- Runs a fetched command of an opcode and form once, when FENCE lets it start. -/
def runCmd (id op : Nat) (form : Cmd → Bool) (f : Cmd → State → State) (s : State) : State :=
  match cmdOf s id with
  | none => s
  | some c =>
    if c.begun || c.op != op || ! form c || fenced s c then s
    else f c (modCmd id (fun q => { q with begun := true }) s)

/-! ### Form checks (R274 check 1) -/

/-- The bits [hi:lo]. -/
def mask (hi lo : Nat) : Nat := (2 ^ (hi + 1 - lo) - 1) * 2 ^ lo

/-- The bits that a descriptor may set, by its opcode and form (Tables 7-3 to 7-10): a field that a form does not use is 0. (DESIGN
CHOICE, log entry 123.) -/
def bodyMask (d : Nat) : Nat :=
  let op := field d 7 0
  let bySession := bitAt d 146
  let sess := mask 145 128 + mask 146 146 + mask 255 192
  let exts := mask 286 256 + mask 307 288
  if op == 0x01 then mask 163 128 + mask 207 192 + mask 212 208
  else if op == 0x02 then
    mask 149 147 + (if field d 149 147 == 1 then (if bitAt d 152 then mask 152 150 else 0) else 0) + (if bySession then sess else exts)
  else if op == 0x03 then if bySession then sess + mask 154 153 else exts
  else if op == 0x04 then if bySession then sess else exts + mask 155 155
  else if op == 0x05 then if bySession then sess else exts
  else if op == 0x10 then
    let f := field d 147 146
    let m := field d 154 151
    if f == 0 then mask 150 128 + mask 190 155 + mask 286 192 + mask 319 288 + mask 350 320 + mask 415 352 + mask 511 448
    else if f == 1 then
      mask 147 128 + mask 154 151 + mask 255 192 + (if bitAt m 0 then mask 415 384 else 0) + (if bitAt m 1 then mask 158 155 else 0)
        + (if bitAt m 2 then mask 511 448 else 0) + (if bitAt m 3 then mask 150 150 + mask 190 179 else 0)
    else if f == 2 then mask 147 128 + mask 255 192 + mask 511 448
    else mask 147 146 + mask 166 155 + mask 286 256 + mask 303 288 + mask 383 352
  else if op == 0x11 then if bitAt d 147 then mask 139 128 + mask 147 147 else mask 145 128 + mask 255 192
  else if op == 0x12 then mask 146 128 + mask 175 152 + mask 447 192
  else if op == 0x13 then mask 145 128 + mask 255 192
  else if op == 0x14 then mask 139 128 + mask 243 192
  else if op == 0x20 then mask 179 128 + mask 359 320 + mask 447 384
  else if op == 0x21 then mask 179 128 + mask 243 192 + mask 359 320
  else if op == 0x22 then mask 243 192 + mask 307 256 + mask 359 320
  else if op == 0x23 then mask 179 128 + mask 243 192 + mask 307 256 + mask 375 320
  else if op == 0x24 then mask 243 192 + mask 359 320 + mask 447 384
  else if op == 0x25 then mask 158 128 + mask 190 160 + mask 201 192 + mask 255 224
  else if op == 0x30 then mask 163 128 + mask 207 192
  else if op == 0x31 then mask 143 128
  else if op == 0x32 then mask 163 128 + mask 207 192 + mask 291 256 + mask 351 320
  else if op == 0x33 then
    let f := field d 129 128
    if f == 0 then 0 else if f == 1 then mask 129 128 + mask 143 136 + mask 243 192 + mask 262 256 else mask 129 128 + mask 143 136
  else mask 243 192 + mask 271 256

/-- The opcodes of Table 7-4. -/
def opcodes : List Nat :=
  [0x01, 0x02, 0x03, 0x04, 0x05, 0x10, 0x11, 0x12, 0x13, 0x14, 0x20, 0x21, 0x22, 0x23, 0x24, 0x25, 0x30, 0x31, 0x32, 0x33, 0x40]

/-- Bytes that one operand of a near-memory command takes: an MX format adds its scales (R291). -/
def nearLen (d : Nat) : Nat :=
  let len := field d 359 320
  let fmt := field d 367 360
  if field d 7 0 == 0x23 && isMx fmt then len + len * 8 / ((elemOf fmt).getD (.float fp32)).bits / 32 else len

/-- Two ranges overlap in part (R289). (DEDUCED, log entry 48.) -/
def partOverlap (a b len : Nat) : Bool := a != b && a < b + len && b < a + len

/-- The LENGTH and the DPAs of a near-memory command (R281, Table 7-2). -/
def nearForm (d : Nat) (dpas : List Nat) : Bool :=
  let len := field d 359 320
  len != 0 && len % 64 == 0 && dpas.all fun a => a % 64 == 0 && a + len ≤ 2 ^ 52

/-- Every field is in range (R274 check 1): what needs no more than the descriptor and the objects. -/
def rangeOk (s : State) (d : Nat) : Bool :=
  let op := field d 7 0
  if op == 0x01 || op == 0x30 then field d 163 128 + field d 207 192 < 2 ^ 36
  else if op == 0x32 then field d 163 128 + field d 207 192 < 2 ^ 36 && field d 291 256 + field d 207 192 < 2 ^ 36
  else if op == 0x02 then
    1 ≤ field d 149 147 && field d 149 147 ≤ 5 && (bitAt d 146 || field d 286 256 + field d 307 288 < 2 ^ 31)
  else if op == 0x03 then
    if bitAt d 146 then field d 154 153 != 0 else field d 286 256 + field d 307 288 < 2 ^ 31
  else if op == 0x04 || op == 0x05 then bitAt d 146 || field d 286 256 + field d 307 288 < 2 ^ 31
  else if op == 0x10 then
    let f := field d 147 146
    if f == 1 then field d 154 151 != 0
    else if f == 2 then true
    else if f == 0 then field d 303 288 != 0 && field d 319 304 != 0 else field d 303 288 != 0
  else if op == 0x14 then field d 139 128 != 0 && field d 243 192 % 64 == 0
  else if op == 0x20 then nearForm d [field d 179 128]
  else if op == 0x21 then
    nearForm d [field d 179 128, field d 243 192] && ! partOverlap (field d 179 128) (field d 243 192) (field d 359 320)
  else if op == 0x22 then nearForm d [field d 243 192, field d 307 256]
  else if op == 0x23 then
    nearForm d [field d 179 128, field d 243 192, field d 307 256]
      && ! partOverlap (field d 179 128) (field d 243 192) (nearLen d)
      && ! partOverlap (field d 179 128) (field d 307 256) (nearLen d)
  else if op == 0x24 then nearForm d [field d 243 192]
  else if op == 0x25 then
    field d 158 128 ≤ field d 190 160 && field d 194 193 != 3 && 1048576 ≤ field d 255 224
      && field d 255 224 ≤ scalar s 0x2300 3 67108864
  else if op == 0x33 then
    field d 129 128 != 1 || (field d 243 192 % 64 == 0 && 1 ≤ field d 262 256 && field d 262 256 ≤ 64)
  else if op == 0x40 then field d 243 192 % 64 == 0 && field d 271 256 == 120
  else true

/-- Check 1 of R274 for what this module can see: the opcode, the reserved bits and the ranges. -/
def formOk (s : State) (d : Nat) : Bool :=
  opcodes.contains (field d 7 0) && d &&& (mask 9 0 + mask 63 16 + bodyMask d) == d && rangeOk s d

/-! ### Extents of a partition -/

/-- Every DPA extent of a range is mapped to the partition. -/
def allMapped (s : State) (part first n : Nat) : Bool := (List.range n).all fun i => (rtFind s part (first + i)).isSome

/-- Every DPA extent of a range is mapped readable. -/
def allReadable (s : State) (part first n : Nat) : Bool := (List.range n).all fun i => canRead s part (first + i)

/-- Some mapped DPA extent of a range refuses writes. -/
def anyReadOnly (s : State) (part first n : Nat) : Bool :=
  (List.range n).any fun i => (rtFind s part (first + i)).isSome && ! canWrite s part (first + i)

/-- Some DPA extent of a range is protected. -/
def anyProtected (s : State) (part first n : Nat) : Bool := (List.range n).any fun i => (keyOf s part (first + i)).isSome

/-- First extent and count of a range of bytes. -/
def extRange (dpa len : Nat) : Nat × Nat := (dpa / 2097152, (dpa + len - 1) / 2097152 + 1 - dpa / 2097152)

/-- The device extents of a range of DPA extents of a partition, those of DRAINING rows included: what is let go there (R131, R300). -/
def heldExts (s : State) (part first n : Nat) : List Nat :=
  (List.range n).filterMap fun i => ((rtRows s).find? fun p => rtCovers p.2 part (first + i)).map fun p =>
    rtDevFirst p.2 + (first + i - rtDpaFirst p.2)

/-- The device extents of a range of DPA extents. -/
def devExts (s : State) (part first n : Nat) : List Nat := (List.range n).filterMap fun i => devOf s part (first + i)

/-- Tile key of a DPA of a partition. -/
def dpaKey (s : State) (part dpa : Nat) : Option Nat :=
  (devOf s part (dpa / 2097152)).map fun e => tileKey e (dpa / 65536 % 32)

end Sys2Proof.Machine
end

