-- ==== Sys2Proof/Machine/SessOps.lean ====
section
/-! DEFINITION. Range Table locks (R300), the queueing of runs (R239, R258), and the session service: parks, wakes,
rebuilds and prefixes (chapter 3). -/

namespace Sys2Proof.Machine

open Sys2Proof

/-! ### Read-only locks on Range Table rows (R300) -/

/-- The lowest Range Table row that is not VALID. -/
def rtFreeRow (s : State) : Option Nat :=
  let taken := ((rtRows s).filter fun p => rtValid p.2).map (·.1)
  let n := nthFree taken 0
  if n < 8192 then some n else none

/-- A row with other bounds. -/
def rtBounds (r dpa dev n : Nat) : Nat := setField (setField (setField r 62 32 dpa) 91 64 dev) 123 96 n

/-- A row with another LOCKS. -/
def rtSetLocks (r n : Nat) : Nat := setField r 30 23 n

/-- The mark of a split that the device made: partition and DPA bound. -/
def splitMark (part dpa : Nat) : Nat := part * 2 ^ 32 + dpa

/-- Splits one row at a device extent that lies inside it. -/
def splitRow (dev : Nat) (p : Nat × Nat) (s : Option State) : Option State :=
  match s with
  | none => none
  | some s =>
    let r := p.2
    if rtValid r && rtDevFirst r < dev && dev < rtDevFirst r + rtExtents r then
      match rtFreeRow s with
      | none => none
      | some f =>
        let k := dev - rtDevFirst r
        let s1 := setTableRow 0x2120 p.1 (rtBounds r (rtDpaFirst r) (rtDevFirst r) k) s
        let s2 := bumpVersion 0x2120 (setTableRow 0x2120 f (rtBounds r (rtDpaFirst r + k) dev (rtExtents r - k)) s1)
        some (s2.setShare { s2.share with splits := setInsert (splitMark (rtPart r) (rtDpaFirst r + k)) s2.share.splits })
    else some s

/-- Splits every row at a device extent. -/
def splitAll (dev : Nat) (s : State) : Option State := (rtRows s).foldl (fun a p => splitRow dev p a) (some s)

/-- The bounds of a set of device extents: each one whose neighbour is not of the set. -/
def devBounds (devs : List Nat) : List Nat :=
  (devs.filter fun d => d == 0 || ! devs.contains (d - 1)) ++ ((devs.filter fun d => ! devs.contains (d + 1)).map (· + 1))

/-- Splits every row at the bounds of a set of device extents; none where free rows run out. -/
def splitFor (devs : List Nat) (s : State) : Option State :=
  (devBounds devs).foldl (fun a d => match a with | none => none | some u => splitAll d u) (some s)

/-- Changes every VALID row whose extents lie in a set of device extents. -/
def mapRows (devs : List Nat) (f : Nat → Nat) (s : State) : State :=
  (rtRows s).foldl (fun u p => if rtValid p.2 && devs.contains (rtDevFirst p.2) then setTableRow 0x2120 p.1 (f p.2) u else u) s

/-- Takes a read-only lock on device extents (R300): none where too few free rows remain. -/
def lockExts (devs : List Nat) (s : State) : Option State :=
  (splitFor devs s).map (mapRows devs fun r => rtSetLocks r (rtLocks r + 1))

/-- Two rows are identical but for their bounds, and contiguous. -/
def contiguous (a b : Nat) : Bool :=
  rtValid a && rtValid b && rtBounds a 0 0 0 == rtBounds b 0 0 0 && rtDpaFirst a + rtExtents a == rtDpaFirst b
    && rtDevFirst a + rtExtents a == rtDevFirst b

/-- Merges the rows on both sides of a split that the device made, where they are again identical (R300). -/
def mergeSplit (m : Nat) (s : State) : State :=
  let part := m / 2 ^ 32
  let dpa := m % 2 ^ 32
  let rows := (rtRows s).filter fun p => rtValid p.2 && rtPart p.2 == part
  match rows.find? (fun p => rtDpaFirst p.2 + rtExtents p.2 == dpa), rows.find? (fun p => rtDpaFirst p.2 == dpa) with
  | some a, some b =>
    if contiguous a.2 b.2 then
      let s1 := setTableRow 0x2120 b.1 0
        (setTableRow 0x2120 a.1 (rtBounds a.2 (rtDpaFirst a.2) (rtDevFirst a.2) (rtExtents a.2 + rtExtents b.2)) s)
      (bumpVersion 0x2120 s1).setShare { s1.share with splits := setErase m s1.share.splits }
    else s
  | _, _ => s.setShare { s.share with splits := setErase m s.share.splits }

/-- Releases a read-only lock on device extents, and merges what it split (R300). -/
def unlockExts (devs : List Nat) (s : State) : State :=
  let s1 := mapRows devs (fun r => rtSetLocks r (rtLocks r - 1)) s
  s1.share.splits.foldl (fun u m => mergeSplit m u) s1

/-! ### Queueing a run (R239, R257, R258) -/

/-- The stall limit of a program (R236): its own, or the default. -/
def stallLimitOf (s : State) (e : RegEntry) : Nat := if e.stallLimit == 0 then scalar s 0x2A00 1 50000 else e.stallLimit

/-- Queues a run of a registered program behind the others. -/
def queueRun (cmd : Option Nat) (part port ld program kind : Nat) (session : Option Nat) (args : List Nat)
    (scratch : Option Nat) (expiry : Option Nat) (attend : Option (Nat × Nat × Bool × Nat)) (s : State) : State :=
  let e := MapOps.getD program {} s.cmp.registry
  let r : Run :=
    { id := s.cmp.nextRun, cmd := cmd, part := part, port := port, ld := ld, program := program, kind := kind
      session := session, args := args, tokens := [], seqs := [], framesWanted := e.frames, oneCd := e.oneCd
      stallLimitUs := stallLimitOf s e, expiry := expiry, granted := false, grantUs := 0, carriedPoison := false
      stopping := none, stallNs := 0, scratch := scratch, attend := attend, appending := false, copies := [], toCopy := 0
      order := cmd.getD s.queue.nextCmd }
  s.setCmp { s.cmp with runs := s.cmp.runs ++ [r], nextRun := s.cmp.nextRun + 1 }

/-- The registry key of a weight set. -/
def weightKey (n : Nat) : Nat := 65536 + n

/-- The lowest free scratch extent of a partition (R258): none when it has none to give. -/
def freeScratch (s : State) (part : Nat) : Option Nat :=
  let first := regObj s part 0x0A 0
  let taken := s.cmp.runs.filterMap fun r => if r.part == part then r.scratch else none
  (List.range (regObj s part 0x0B 0)).map (first + ·) |>.find? fun e => ! taken.contains e

/-- 1,024 runs of the partition wait, so that further commands wait at fetch (Table 6-11). -/
def runsFull (s : State) (part : Nat) : Bool := 1024 ≤ (s.cmp.runs.filter fun r => r.part == part && ! r.granted).length

/-- A service run of the partition must wait at fetch, for a scratch extent or for room among the waiting runs (R258, Table 6-11). -/
def scratchWaits (s : State) (part : Nat) : Bool :=
  runsFull s part || (regObj s part 0x0B 0 != 0 && (freeScratch s part).isNone)

/-! ### Rows and extents of sessions -/

/-- A class row (Table 3-5). -/
def classRow (s : State) (c : Nat) : Nat := tableRow s (scalar s 0x2400 2 0x5030) c

/-- A model binding row as a partition's sessions and prefixes may use it (Table 3-3): one that is not VALID, or is another partition's,
gives them nothing (R101). -/
def bindRow (s : State) (part b : Nat) : Nat :=
  let r := tableRow s (scalar s 0x2400 3 0x5031) b
  if bitAt r 0 && field r 6 1 == part then r else 0

/-- LAYERS of a binding. -/
def bLayers (r : Nat) : Nat := field r 15 8
/-- KV_BYTES_PER_TOKEN of a binding. -/
def bBytes (r : Nat) : Nat := field r 31 16
/-- WEIGHT_SET of a binding. -/
def bWeights (r : Nat) : Nat := field r 47 32
/-- ATTEND_PROG of a binding. -/
def bAttend (r : Nat) : Nat := field r 63 48
/-- REBUILD_PROG of a binding. -/
def bRebuild (r : Nat) : Nat := field r 79 64
/-- REBUILD_NS_PER_TOKEN of a binding. -/
def bNs (r : Nat) : Nat := field r 111 80
/-- LAYER_GROUP of a binding. -/
def bGroup (r : Nat) : Nat := field r 119 112

/-- The age of a time of the calendar in ms: both count modulo the 48 bits of the fields that hold them (R105, R111; DESIGN CHOICE, log
entry 112). -/
def ageMs (s : State) (t : Nat) : Nat := (calMs s + 2 ^ 48 - t % 2 ^ 48) % 2 ^ 48

/-- A session record. -/
def sessOf (s : State) (h : Nat) : Session := MapOps.getD h {} s.sess.recs

/-- Writes a session record. -/
def setSessRec (h : Nat) (r : Session) (s : State) : State :=
  s.setSess { s.sess with recs := MapOps.insert h r s.sess.recs }

/-- A shared-prefix entry. -/
def pfxOf (s : State) (n : Nat) : PrefixEntry := MapOps.getD n {} s.sess.prefixes

/-- Writes a prefix entry. -/
def setPfx (n : Nat) (e : PrefixEntry) (s : State) : State :=
  s.setSess { s.sess with prefixes := MapOps.insert n e s.sess.prefixes }

/-- Extents of a layer that hold tokens (R98). -/
def layerExtents (s : State) (part binding tokens : Nat) : Nat := ceilDiv (tokens * bBytes (bindRow s part binding)) 2097152

/-- Device extents of layer L of a session that hold tokens. -/
def layerDevs (s : State) (r : Session) (l : Nat) : List Nat :=
  devExts s r.part (r.kvBase + l * r.layerStride) (layerExtents s r.part r.binding r.kvTokens)

/-- The layers of a binding. -/
def layersOf (s : State) (part binding : Nat) : List Nat := List.range (bLayers (bindRow s part binding))

/-- Device extents of a session's KV that hold tokens. -/
def kvDevs (s : State) (r : Session) : List Nat := (layersOf s r.part r.binding).flatMap (layerDevs s r)

/-- Device extents of a session's token log. -/
def logDevs (s : State) (r : Session) : List Nat := devExts s r.part r.logBase r.logExtents

/-- Every device extent of a session's KV that holds anything, the whole stride of each layer: what a rebuild and an end drop
(R98, R120, R129). -/
def kvAll (s : State) (r : Session) : List Nat :=
  (heldExts s r.part r.kvBase (r.layerStride * bLayers (bindRow s r.part r.binding))).filter fun d => kindOf s d != 0

/-- Every device extent of a session's log. -/
def logAll (s : State) (r : Session) : List Nat := heldExts s r.part r.logBase r.logExtents

/-- Every device extent of a prefix that holds tokens, in DRAINING rows too. -/
def pfxAll (s : State) (e : PrefixEntry) : List Nat :=
  (layersOf s e.part e.binding).flatMap fun l =>
    heldExts s e.part (e.kvBase + l * e.layerStride) (layerExtents s e.part e.binding e.tokens)

/-- Changes a prefix entry that is VALID; one that is lost stays lost (R132). -/
def modPfx (n : Nat) (f : PrefixEntry → PrefixEntry) (s : State) : State :=
  if (MapOps.get? n s.sess.prefixes).isSome then setPfx n (f (pfxOf s n)) s else s

/-- The engine that runs an entry, that of MD(n mod 8), can reach the directory MDs of extents (R18, R95). -/
def engineUp (s : State) (n : Nat) (devs : List Nat) : Bool :=
  (dedup (devs.map (dirMd s))).all fun m => pathUp s (diePath (n % 8) m)

/-- Device extents of layer L of a prefix. -/
def pfxLayerDevs (s : State) (e : PrefixEntry) (l : Nat) : List Nat :=
  devExts s e.part (e.kvBase + l * e.layerStride) (layerExtents s e.part e.binding e.tokens)

/-- Device extents of a prefix that hold tokens. -/
def pfxDevs (s : State) (e : PrefixEntry) : List Nat := (layersOf s e.part e.binding).flatMap (pfxLayerDevs s e)

/-- A session counts in its prefix's AWAKE: it is not PARKED, DROPPED or FAILED (Table 3-9). -/
def awakeState (st : Nat) : Bool := st != 3 && st != 4 && st != 7

/-- Ends the bookkeeping of a park. -/
def dropSessPark (isPrefix : Bool) (n : Nat) (s : State) : State :=
  s.setSess { s.sess with parks := s.sess.parks.filter fun p => ! (p.entry == n && p.isPrefix == isPrefix) }

/-- A waiter is told nothing more: its actions go on without it. -/
def forget (w : Waiter) (s : State) : State :=
  let f := fun (ws : List Waiter) => ws.filter (· != w)
  s.setTier { s.tier with
    moves := s.tier.moves.map fun m => { m with waiters := f m.waiters }
    moveQueue := s.tier.moveQueue.map fun m => { m with waiters := f m.waiters }
    moveNext := s.tier.moveNext.map fun m => { m with waiters := f m.waiters }
    deferred := s.tier.deferred.map fun m => { m with waiters := f m.waiters }
    parks := s.tier.parks.map fun m => { m with waiters := f m.waiters }
    parkQueue := s.tier.parkQueue.map fun m => { m with waiters := f m.waiters }
    unparks := s.tier.unparks.map fun m => { m with req := { m.req with waiters := f m.req.waiters } }
    unparkQueue := s.tier.unparkQueue.map fun m => { m with waiters := f m.waiters }
    notices := s.tier.notices.filter fun n => n.who != w }

/-- Requests of a waiter alone that have not started are withdrawn (R113 text of R116: no further park actions). -/
def withdraw (w : Waiter) (s : State) : State :=
  s.setTier { s.tier with
    moveQueue := s.tier.moveQueue.filter fun m => m.waiters != [w]
    moveNext := s.tier.moveNext.filter fun m => m.waiters != [w]
    deferred := s.tier.deferred.filter fun m => m.waiters != [w]
    parkQueue := s.tier.parkQueue.filter fun m => m.waiters != [w]
    unparkQueue := s.tier.unparkQueue.filter fun m => m.waiters != [w] }

/-- AWAKE of a prefix changes; IDLE_SINCE is the calendar when it becomes 0. A prefix parks only while AWAKE is 0, so
that its park starts nothing more once AWAKE rises (R125). -/
def moveAwake (n : Nat) (up : Bool) (s : State) : State :=
  let e := pfxOf s n
  let a := if up then e.awake + 1 else e.awake - 1
  let s1 := if up && e.awake == 0 then dropSessPark true n (forget (.pfx n) (withdraw (.pfx n) s)) else s
  modPfx n (fun e => { e with awake := a, idleSince := if ! up && a == 0 then calMs s else e.idleSince }) s1

/-- STATE of a session changes (R108): STATE_SINCE, and AWAKE of its prefix. -/
def setSessState (h st : Nat) (s : State) : State :=
  let r := sessOf s h
  let s1 := setSessRec h { r with state := st, stateSince := if r.state == st then r.stateSince else calMs s } s
  match r.pfx with
  | some n => if awakeState r.state == awakeState st then s1 else moveAwake n (awakeState st) s1
  | none => s1

/-- The 128 B of a record (Table 3-1). -/
def sessBytes (r : Session) : List Byte :=
  toBytes 128 (r.sessionId + put 1 1 64 + put r.state 3 65 + put r.parkLevel 2 68 + put r.cls 4 70 + put r.part 6 74
    + put r.binding 8 80 + put (ofBool r.keyValid) 1 88 + put r.jobKey 12 89 + put (ofBool r.expoHeld) 1 101
    + put (ofBool r.pfx.isSome) 1 102 + put (r.pfx.getD 0) 12 103 + put r.parkRetries 4 115 + put r.kvBase 31 128
    + put r.layerStride 16 159 + put r.logBase 31 192 + put r.logExtents 16 223 + put r.kvTokens 32 256
    + put r.logTokens 32 288 + put r.lastTouch 48 320 + put r.inFlight 16 368 + put r.stateSince 48 384
    + put r.restoredLayers 8 432 + put r.userTag 64 448)

/-- The 32 B of a prefix entry (Table 3-9). -/
def pfxBytes (e : PrefixEntry) : List Byte :=
  toBytes 32 (1 + put (ofBool e.ending) 1 1 + put e.parkLevel 2 2 + put e.cls 4 4 + put e.part 6 8 + put e.binding 8 14
    + put e.kvBase 31 22 + put e.layerStride 16 53 + put e.tokens 32 69 + put e.refCount 19 101 + put e.awake 19 120
    + put e.idleSince 48 139)

/-- Records out of use until the next start: all of a failed stack's, and those lost one by one (R132). -/
def recordsLost (s : State) : Nat :=
  32768 * ((List.range 8).filter fun m => bitAt s.tier.ridgeDown.toNat m).length
    + (s.sess.lostRecs.filter fun h => ! bitAt s.tier.ridgeDown.toNat (h % 8)).length

/-! ### Parks of sessions and prefixes (R112 to R115) -/

/-- The waiter that stands for a park or wake. -/
def whoOf (isPrefix : Bool) (n : Nat) : Waiter := if isPrefix then .pfx n else .session n

/-- The hint of a park level on an extent. -/
def levelHint (level : Nat) : Nat := if level == 1 then 3 else if level == 2 then 4 else 5

/-- A hint applied to a device extent for a waiter. -/
def actHint (dev hint master : Nat) (tier : Tier) (cd : Option Nat) (ws : List Waiter) (s : State) : State :=
  hintExtent { ext := dev, act := 3, master := master, tier := tier, md := none, cd := cd, hint := hint
               touched := 0, waiters := ws } s

/-- A park or drop that a session starts, meeting a claimed or exposure-held extent, aborts there (R115, R317). -/
def parkAction (isPrefix : Bool) (n dev hint master : Nat) (s : State) : State :=
  if hint == 5 && extHeld s dev then tell [whoOf isPrefix n] (extSubject dev) .held s
  else actHint dev hint master .batten none [whoOf isPrefix n] s

/-- Starts the actions of a park to a level (Table 3-8). Every one of LOG_EXTENTS is parked. (DESIGN CHOICE, log entry 102.) -/
def startPark (isPrefix : Bool) (n level master : Nat) (cmds : List Nat) (kv log : List Nat) (s : State) : State :=
  let todo := if level == 1 then [] else kv ++ log
  let p : SessPark := { entry := n, isPrefix := isPrefix, level := level, todo := todo, again := [], cmds := cmds, master := master }
  let s1 := s.setSess { s.sess with parks := s.sess.parks ++ [p] }
  let s2 := kv.foldl (fun u d => parkAction isPrefix n d (levelHint level) master u) s1
  if level == 1 then s2 else log.foldl (fun u d => parkAction isPrefix n d 4 master u) s2

/-- The level that a device without usable Underlay reaches (R106, R109). -/
def capLevel (s : State) (level : Nat) : Nat := if underlayParks s || s.und.state == 1 then level else min level 1

/-- A session's park starts: PARKING (R105, R109). -/
def parkSession (h level master : Nat) (cmds : List Nat) (s : State) : State :=
  let r := sessOf s h
  startPark false h level master cmds (kvDevs s r) (if level == 1 then [] else logDevs s r) (setSessState h 2 s)

/-- The park of an entry. -/
def sessParkOf (s : State) (isPrefix : Bool) (n : Nat) : Option SessPark :=
  s.sess.parks.find? fun p => p.entry == n && p.isPrefix == isPrefix

/-- Some action of a waiter has not ended. -/
def busy (s : State) (w : Waiter) : Bool :=
  (s.tier.moves.any fun m => m.waiters.contains w) || (s.tier.moveQueue.any fun m => m.waiters.contains w)
    || (s.tier.moveNext.any fun m => m.waiters.contains w) || (s.tier.deferred.any fun m => m.waiters.contains w)
    || (s.tier.parks.any fun m => m.waiters.contains w) || (s.tier.parkQueue.any fun m => m.waiters.contains w)
    || (s.tier.unparks.any fun m => m.req.waiters.contains w) || (s.tier.unparkQueue.any fun m => m.waiters.contains w)

/-- The commands that wait on a park or wake complete. -/
def endCmds (cmds : List Nat) (status r0 : Nat) (s : State) : State :=
  cmds.foldl (fun u c => completeCmd c status r0 0 u) s

/-- The commands that wait on a park complete with the extents parked and the extents aborted or refused (Table 7-4). -/
def endParkCmds (cmds : List Nat) (status r0 r1 : Nat) (s : State) : State :=
  cmds.foldl (fun u c => completeCmd c status r0 r1 u) s

/-- The extents that a session's park acts on. -/
def parkDevs (p : SessPark) (s : State) : List Nat :=
  kvDevs s (sessOf s p.entry) ++ (if p.level == 1 then [] else logDevs s (sessOf s p.entry))

/-- Log extents whose PARK was refused, which count as done with the log resident (R58, R113). -/
def logRefused (p : SessPark) (s : State) : Nat :=
  if p.level == 1 then 0 else ((logDevs s (sessOf s p.entry)).filter fun d => kindOf s d == 1).length

/-- A session's park has reached its level (R108, Table 3-8); its command counts the extents acted on, kept ones too. (DESIGN CHOICE, log
entry 124.) -/
def parkReached (p : SessPark) (s : State) : State :=
  let s1 := dropSessPark p.isPrefix p.entry s
  if p.isPrefix then modPfx p.entry (fun e => { e with parkLevel := p.level }) s1
  else
    let r := sessOf s1 p.entry
    let n := (parkDevs p s1).length
    let no := logRefused p s1
    let s2 := setSessRec p.entry { r with parkLevel := p.level
                                          kvTokens := if p.level == 3 then 0 else r.kvTokens } s1
    endParkCmds p.cmds 0 (n - no) no (count 0x3030 (p.level + 1) (setSessState p.entry (if p.level == 3 then 4 else 3) s2))

/-- Extents of a park whose action has ended as asked. -/
def parkedOf (p : SessPark) (s : State) : Nat := (parkDevs p s).length - p.todo.length - p.again.length

/-- A park gives up (R115). (DEDUCED, log entry 23.) -/
def parkGivesUp (p : SessPark) (s : State) : State :=
  let s1 := withdraw (whoOf p.isPrefix p.entry) (dropSessPark p.isPrefix p.entry s)
  let s2 := forget (whoOf p.isPrefix p.entry) s1
  if p.isPrefix then s2
  else
    let s3 := setSessState p.entry 1 s2
    let s4 := setSessRec p.entry { sessOf s3 p.entry with lastTouch := calMs s3, parkRetries := 0 } s3
    endParkCmds p.cmds 0x25 (parkedOf p s) p.again.length (raise 0x0301 (some (sessOf s4 p.entry).part) 0 (count 0x3030 8 s4))

/-- A park whose actions have all ended is done, unless some wait to start again (R113). -/
def parkCheck (p : SessPark) (s : State) : State :=
  if p.todo.isEmpty && p.again.isEmpty && ! busy s (whoOf p.isPrefix p.entry)
      && ! (s.tier.notices.any fun n => n.who == whoOf p.isPrefix p.entry) then parkReached p s else s

/-- Replaces a park. -/
def setSessPark (p : SessPark) (s : State) : State :=
  s.setSess { s.sess with
    parks := s.sess.parks.map fun q => if q.entry == p.entry && q.isPrefix == p.isPrefix then p else q }

/-- An action of a park ended without its effect, so that it starts again (R115). A log PARK that no Underlay can take counts
as done (R58, R113); another is not done before its KIND is 2. (DEDUCED, log entry 85.) -/
def undone (p : SessPark) (dev : Nat) (e : Ending) (s : State) : Bool :=
  match e with
  | .aborted | .held | .refused => true
  | .noUnderlay => p.isPrefix || ! (logDevs s (sessOf s p.entry)).contains dev
  | _ => false

/-- A park's action on an extent has ended (R113, R115). A KEEP action is done with its moves, and only one whose hint is replaced
starts again. -/
def parkNotice (p : SessPark) (n : Notice) (s : State) : State :=
  if n.subject < 2 ^ 40 then s
  else
    let dev := n.subject - 2 ^ 40
    let keep := p.level == 1 && undone p dev n.ending s && ! p.again.contains dev
    if ! p.todo.contains dev && ! keep then s
    else
      let p1 := { p with todo := setErase dev p.todo }
      if undone p dev n.ending s then
        let p2 := { p1 with again := p1.again ++ [dev] }
        if p.isPrefix then setSessPark p2 s
        else
          let r := sessOf s p.entry
          let s1 := setSessRec p.entry { r with parkRetries := r.parkRetries + 1 } (setSessPark p2 s)
          if r.parkRetries + 1 ≥ scalar s 0x2400 6 3 then parkGivesUp p2 s1 else s1
      else setSessPark p1 s

/-- The extents whose action aborted start again at the engine's visit (R115). -/
def parkAgain (p : SessPark) (s : State) : State :=
  let p1 := { p with todo := if p.level == 1 then p.todo else p.todo ++ p.again, again := [] }
  let logs := if p.isPrefix then [] else logDevs s (sessOf s p.entry)
  p.again.foldl (fun u d => parkAction p.isPrefix p.entry d (if logs.contains d then 4 else levelHint p.level) p.master u)
    (setSessPark p1 s)

/-! ### Wakes and rebuilds (R116 to R122) -/

/-- The wake of a session. -/
def wakeOf (s : State) (h : Nat) : Option Wake := s.sess.wakes.find? (·.entry == h)

/-- Replaces a wake. -/
def setWake (w : Wake) (s : State) : State :=
  s.setSess { s.sess with wakes := s.sess.wakes.map fun q => if q.entry == w.entry then w else q }

/-- A wake that has brought extents of its prefix back leaves it at no level, however the wake ends (R125). -/
def pfxBack (w : Wake) (s : State) : State :=
  match (sessOf s w.entry).pfx with
  | none => s
  | some n =>
    if (pfxOf s n).parkLevel == 2 && (pfxDevs s (pfxOf s n)).any (fun d => kindOf s d != 2)
    then modPfx n (fun e => { e with parkLevel := 0 }) s else s

/-- Ends the bookkeeping of a wake. -/
def dropWake (h : Nat) (s : State) : State :=
  let t := match wakeOf s h with | some w => pfxBack w s | none => s
  t.setSess { t.sess with wakes := t.sess.wakes.filter (·.entry != h) }

/-- A restore's request on one extent: a parked one lands for the wake, a resident one takes the hint and counts as landed (R118).
(DESIGN CHOICE, log entry 101.) -/
def wakeExt (h dev : Nat) (tier : Tier) (cd : Option Nat) (s : State) : State :=
  actHint dev (if tier == .ridge then 1 else 2) 128 tier cd (if kindOf s dev == 1 || kindOf s dev == 0 then [] else [.session h]) s

/-- Layers that have not landed: not issued, or issued and waiting. -/
def openLayers (w : Wake) : List Nat := w.layers.map (·.1) ++ w.issued.map (·.1)

/-- The lowest layer that has not landed, or the number of layers. -/
def lowLayer (w : Wake) (top : Nat) : Nat := (openLayers w).foldl (fun a l => min a l) top

/-- RESTORED_LAYERS counts the layers that have landed (R118). -/
def countLayers (w : Wake) (s : State) : State :=
  let r := sessOf s w.entry
  setSessRec w.entry { r with
    restoredLayers := (bLayers (bindRow s r.part r.binding) - (dedup ((openLayers w).filter (· < 65536))).length) % 256 } s

/-- Issues one layer. -/
def issueLayer (w : Wake) (l : Nat) (devs : List Nat) (rest : List (Nat × List Nat)) (s : State) : State :=
  let wait := devs.filter fun d => kindOf s d == 2 || kindOf s d == 3
  let w1 := { w with layers := rest, issued := w.issued ++ wait.map fun d => (l, d) }
  devs.foldl (fun u d => wakeExt w.entry d w.tier w.cd u) (countLayers w1 (setWake w1 s))

/-- The arguments of a service run (Table 6-16). -/
def serviceArgs (s : State) (h : Nat) (isRebuild : Bool) (append first q o nkv : Nat) (scratch : Option Nat) : List Nat :=
  let r := sessOf s h
  let b := bindRow s r.part r.binding
  let p := r.pfx.map (pfxOf s)
  let pb := (p.map fun e => e.kvBase * 32).getD 0
  let ps := (p.map fun e => e.layerStride * 32).getD 0
  let pt := (p.map fun e => e.tokens).getD 0
  let sc := (scratch.map (· * 32)).getD 0
  let ws := (MapOps.getD (weightKey (bWeights b)) {} s.cmp.registry).first * 32
  if isRebuild then
    [r.kvBase * 32, r.layerStride * 32, r.logBase * 32, r.logTokens, pt, 0, bLayers b, bBytes b, 0, 0, pb, ps, pt, ws, r.sessionId, sc]
  else
    [(r.kvBase + first * r.layerStride) * 32, r.layerStride * 32, r.kvTokens * bBytes b, r.kvTokens, append, first,
     min (bGroup b) (bLayers b - first), q, o, nkv, pb, ps, pt, 0, r.sessionId, sc]

/-- Whether a service run may start (R258): 0 yes, 1 it waits for a RELOADING weight set, 2 not permitted. -/
def serviceOk (s : State) (h : Nat) (isRebuild : Bool) : Nat :=
  let r := sessOf s h
  let b := bindRow s r.part r.binding
  let prog := if isRebuild then bRebuild b else bAttend b
  let e := MapOps.getD prog {} s.cmp.registry
  let w := MapOps.getD (weightKey (bWeights b)) {} s.cmp.registry
  let pfxOk := match r.pfx with
    | none => true
    | some n =>
      let p := pfxOf s n
      (layersOf s p.part p.binding).all fun l => (List.range (layerExtents s p.part p.binding p.tokens)).all fun i =>
        let d := p.kvBase + l * p.layerStride + i
        (devOf s r.part d).isSome && devOf s r.part d == devOf s p.part d
  if prog == 0 || (MapOps.get? prog s.cmp.registry).isNone || e.part != r.part || e.state != 1
      || e.kind != (if isRebuild then 2 else 1) || ! pfxOk then 2
  else if (MapOps.get? (weightKey (bWeights b)) s.cmp.registry).isNone || w.part != r.part then 2
  else if w.state == 2 then 1 else if w.state == 1 then 0 else 2

/-- The home LD of a session's run that no command brought and no command's wake started: the partition's lowest LD. -/
def anyLd (s : State) (part : Nat) : Nat := (ldsOf s part).headD 0

/-- The REBUILD program of a session starts (R120 step 3), for the command that asked for it if one did. -/
def startRebuildRun (h : Nat) (cmd : Option Nat) (s : State) : State :=
  let r := sessOf s h
  let c := cmd.bind (cmdOf s)
  let i := (c.map fun q => q.ring / 64).getD (((wakeOf s h).bind (·.ld)).getD (anyLd s r.part))
  let sc := freeScratch s r.part
  queueRun cmd r.part (i / 16) (i % 16) (bRebuild (bindRow s r.part r.binding)) 2 (some h)
    (serviceArgs s h true 0 0 0 0 0 sc) sc ((c.map (·.expiry)).getD none) none s

/-- Commands that wait under R121 run again or complete; here they are released, and the drive looks at them. -/
def releaseAttends (h status : Nat) (s : State) : State :=
  let mine := (s.sess.attendWaits.filter (·.1 == h)).map (·.2)
  let s1 := s.setSess { s.sess with attendWaits := s.sess.attendWaits.filter (·.1 != h) }
  if status == 0 then mine.foldl (fun u c => modCmd c (fun q => { q with begun := false }) u) s1
  else endCmds mine status 0 s1

/-- The commands that wait for a rebuild complete: a REBUILD with KV_TOKENS and the stall of its run, another with the layers
(Table 7-4). -/
def endRebuildCmds (h : Nat) (cmds : List Nat) (status stall : Nat) (s : State) : State :=
  let r := sessOf s h
  let isRebuild := fun (c : Nat) => (cmdOf s c).any fun q => q.op == 0x13
  cmds.foldl (fun u c =>
    if isRebuild c then completeCmd c status r.kvTokens stall u
    else completeCmd c status (if status == 0 then bLayers (bindRow s r.part r.binding) else 0) 0 u) s

/-- A rebuild ends with a failing status: FAILED, and the command that caused it completes with that status (R121). -/
def rebuildFails (h status stall : Nat) (cmds : List Nat) (s : State) : State :=
  let cause := ((wakeOf s h).bind (·.cause)).toList
  let s1 := setSessState h 7 (dropWake h s)
  let s2 := s1.setSess { s1.sess with attendWaits := s1.sess.attendWaits.filter fun q => ! cause.contains q.2 }
  releaseAttends h 0x41 (endRebuildCmds h (cmds ++ cause) status stall (raise 0x0304 (some (sessOf s2 h).part) 0 s2))

/-- A wake has restored the prefix's layers: its PARK_LEVEL is 0 (R125). -/
def pfxAwake (r : Session) (s : State) : State :=
  match r.pfx with
  | some n => modPfx n (fun e => { e with parkLevel := 0 }) s
  | none => s

/-- A wake has landed its last extent (R118), or its rebuild may run its program (R120). -/
def wakeLanded (w : Wake) (s : State) : State :=
  if w.rebuild then
    match s.cmp.runs.find? (fun r => r.session == some w.entry && r.kind == 2) with
    | some _ => s
    | none =>
      let cmd := w.cmds.find? fun c => (cmdOf s c).any fun q => q.op == 0x13
      match serviceOk s w.entry true with
      | 0 => if scratchWaits s (sessOf s w.entry).part then s else startRebuildRun w.entry cmd s
      | 1 => s
      | _ => rebuildFails w.entry 0x11 0 w.cmds s
  else
    let s1 := setSessState w.entry 0 (dropWake w.entry s)
    let r := sessOf s1 w.entry
    let s2 := setSessRec w.entry { r with parkLevel := 0, parkRetries := 0, restoredLayers := bLayers (bindRow s r.part r.binding) % 256 } s1
    endCmds w.cmds 0 (bLayers (bindRow s r.part r.binding)) (countMax 0x3030 9 (nowUs s - w.startUs) (pfxAwake r s2))

/-- A wake moves on: layers inside the window are issued, then the log, then it has landed (R118). -/
def pumpWake : Nat → Nat → State → State
  | 0, _, s => s
  | n + 1, h, s =>
    match wakeOf s h with
    | none => s
    | some w =>
      match w.layers with
      | (l, devs) :: rest =>
        if l < lowLayer w l + scalar s 0x2400 4 4 && engineUp s h devs then pumpWake n h (issueLayer w l devs rest s) else s
      | [] =>
        if ! w.issued.isEmpty then s
        else if ! engineUp s h w.log then s
        else if ! w.logIssued then
          let wait := w.log.filter fun d => kindOf s d == 2 || kindOf s d == 3
          let w1 := { w with logIssued := true, issued := wait.map fun d => (65536, d) }
          pumpWake n h (w.log.foldl (fun u d => wakeExt h d w.tier w.cd u) (setWake w1 s))
        else wakeLanded w s

/-- Starts a restore (R118). -/
def startRestore (h : Nat) (tier : Tier) (cd ld : Option Nat) (cmds : List Nat) (s : State) : State :=
  let r := sessOf s h
  let pfx := fun (l : Nat) => match r.pfx with
    | some n => (pfxLayerDevs s (pfxOf s n) l).filter fun d => kindOf s d == 2 || kindOf s d == 3
    | none => []
  let w : Wake :=
    { entry := h, tier := tier, rebuild := false, layers := (layersOf s r.part r.binding).map fun l => (l, pfx l ++ layerDevs s r l)
      issued := [], log := logDevs s r, logIssued := false, cmds := cmds, startUs := nowUs s, cd := cd, ld := ld }
  let s1 := setSessRec h { r with restoredLayers := 0 } (setSessState h 5 s)
  pumpWake 600 h (count 0x3030 5 (s1.setSess { s1.sess with wakes := s1.sess.wakes ++ [w] }))

/-- Starts a rebuild (R120): the KV is dropped, then the log and the parked prefix extents are restored.
(DEDUCED, log entry 24.) -/
def startRebuild (h : Nat) (tier : Tier) (cd ld : Option Nat) (cmds : List Nat) (s : State) : State :=
  let r := sessOf s h
  let s1 := (kvAll s r).foldl (fun u d => dropNow d u) s
  let pfx := fun (l : Nat) => match r.pfx with
    | some n => (pfxLayerDevs s (pfxOf s n) l).filter fun d => kindOf s d == 2 || kindOf s d == 3
    | none => []
  let w : Wake :=
    { entry := h, tier := tier, rebuild := true, layers := (layersOf s r.part r.binding).map fun l => (l, pfx l)
      issued := [], log := logDevs s r, logIssued := false, cmds := cmds, startUs := nowUs s, cd := cd, ld := ld }
  let s2 := setSessState h 6 (countFor 0x3032 r.part s1)
  let s3 := setSessRec h { sessOf s2 h with kvTokens := 0, restoredLayers := 0 } s2
  pumpWake 600 h (s3.setSess { s3.sess with wakes := s3.sess.wakes ++ [w] })

/-- Packed bytes of a session's parked KV extents, from their EPRs (R117). -/
def packedBytes (s : State) (r : Session) : Nat :=
  (kvDevs s r).foldl (fun a d =>
    if kindOf s d == 2 then a + 2048 * (MapOps.getD (entryOf s d).link {} s.und.eprs).chunks else a) 0

/-- Rebuild may be chosen at all (R117). -/
def rebuildable (s : State) (r : Session) : Bool := bRebuild (bindRow s r.part r.binding) != 0 && r.kvTokens ≤ r.logTokens

/-- The rebuild estimate is the shorter (R117): KV_TOKENS × ns against bytes ÷ RestoreRate in MB/s. (DEDUCED, log entry 24.) -/
def rebuildShorter (s : State) (r : Session) : Bool :=
  r.kvTokens * bNs (bindRow s r.part r.binding) * scalar s 0x2400 5 24000 < packedBytes s r * 1000

/-- A park that a wake stops (R116): no further actions, and the commands that wait on it complete with ABORTED. -/
def stopPark (h : Nat) (s : State) : State :=
  match sessParkOf s false h with
  | none => s
  | some p => endParkCmds p.cmds 0x25 (parkedOf p s) p.again.length (dropSessPark false h (forget (.session h) (withdraw (.session h) s)))

/-- How a wake proceeds (R116, R117): restore, rebuild, or none with SESSION_DROPPED for the commands named. A session that was PARKING
toward COLD or DROP from no level at all is judged as one at PARK_LEVEL 2. (DESIGN CHOICE, log entry 87.) -/
def chooseWake (h : Nat) (tier : Tier) (cd ld : Option Nat) (cmds : List Nat) (s0 : State) : State :=
  let s := stopPark h s0
  let r := sessOf s h
  let cls := classRow s r.cls
  if r.state == 5 then
    match wakeOf s h with
    | some w => setWake { w with tier := tier, cd := cd, cmds := w.cmds ++ cmds } s
    | none => s
  else if r.state == 4 then
    if bitAt cls 133 && rebuildable s r then startRebuild h tier cd ld cmds s else endCmds cmds 0x40 0 s
  else
    let pol := field cls 132 131
    let deep := r.parkLevel == 2
      || (r.parkLevel == 0 && r.state == 2 && (sessParkOf s0 false h).any fun p => p.level ≥ 2)
    if deep && rebuildable s r && pol == 2 then startRebuild h tier cd ld cmds s
    else if deep && rebuildable s r && pol == 1 && rebuildShorter s r then startRebuild h tier cd ld cmds (count 0x3030 7 s)
    else startRestore h tier cd ld cmds s

/-- A wake that a command asks of a session begins one: from PARKING or PARKED, or from DROPPED where it is rebuilt (R116, R117). -/
def wakeBegins (s : State) (h : Nat) : Bool :=
  let r := sessOf s h
  r.state == 2 || r.state == 3 || (r.state == 4 && bitAt (classRow s r.cls) 133 && rebuildable s r)

/-- A wake starts (R116): a new one is counted for its partition (Table 3-13). -/
def startWake (h : Nat) (tier : Tier) (cd ld : Option Nat) (cmds : List Nat) (s : State) : State :=
  chooseWake h tier cd ld cmds (if wakeBegins s h then countFor 0x3031 (sessOf s h).part s else s)

/-- A token-log tile is lost: FAILED, whatever the state was (R122, Table 3-6). What waits on the session's park or wake
completes with SESSION_FAILED. (DEDUCED, log entry 84.) -/
def logLost (h : Nat) (s : State) : State :=
  let park := ((sessParkOf s false h).map (·.cmds)).getD []
  let wake := ((wakeOf s h).map (·.cmds)).getD []
  let s1 := dropWake h (dropSessPark false h (forget (.session h) (withdraw (.session h) s)))
  let s2 := raise 0x0303 (some (sessOf s h).part) 0 (setSessState h 7 s1)
  releaseAttends h 0x41 (endCmds (park ++ wake) 0x41 0 s2)

/-- A KV tile is lost during a wake: every KV extent is dropped, the session is DROPPED, and the wake goes on from there (R122). -/
def kvLost (w : Wake) (s : State) : State :=
  let r := sessOf s w.entry
  let s1 := (kvAll s r).foldl (fun u d => dropNow d u) (dropWake w.entry (forget (.session w.entry) s))
  let s2 := setSessState w.entry 4 s1
  let s3 := setSessRec w.entry { sessOf s2 w.entry with kvTokens := 0, parkLevel := 3 } s2
  let s4 := chooseWake w.entry w.tier w.cd w.ld w.cmds (raise 0x0302 (some r.part) 0 s3)
  match wakeOf s4 w.entry with
  | some v => setWake { v with startUs := w.startUs } s4
  | none => s4

/-- The partitions with a session that references a prefix. -/
def refParts (s : State) (n : Nat) : List Nat :=
  (dedup ((s.sess.recs.filter fun q => q.2.pfx == some n).map fun q => q.2.part)).mergeSort (· ≤ ·)

/-- Extents have lost data: sessions whose log holds one fail, WAKING ones whose KV lost a tile in Underlay drop it, by whatever unpark it
was read (R122), and the events for prefixes (R126) and registered
weight sets (R85) go out, once each. (DEDUCED, log entry 84.) -/
def tellLosses (s : State) : State :=
  if s.tier.lost.isEmpty then s
  else
    let gone := s.tier.lost
    let under := s.tier.lostUnder
    let s1 := s.setTier { s.tier with lost := [], lostUnder := [] }
    let logs := s1.sess.recs.filter fun q => q.2.state != 7 && (logDevs s1 q.2).any gone.contains
    let s1a := logs.foldl (fun u q => logLost q.1 u) s1
    let kvs := s1a.sess.wakes.filter fun w => ! w.rebuild && (kvDevs s1a (sessOf s1a w.entry)).any under.contains
    let s2 := kvs.foldl (fun u w => kvLost w u) s1a
    let pfxs := s2.sess.prefixes.filter fun q => (pfxDevs s2 q.2).any gone.contains
    let s3 := pfxs.foldl (fun u q => raiseEach 0x0302 (refParts u q.1) 0 u) s2
    let sets := s3.cmp.registry.filter fun q =>
      65536 ≤ q.1 && q.2.state == 1 && (devExts s3 q.2.part q.2.first q.2.extents).any gone.contains
    sets.foldl (fun u q => raise 0x0204 (some q.2.part) 0 u) s3

/-- A wake's extent has landed or been lost (R118, R122). One whose hint has failed or was replaced is waited for no longer. (DESIGN
CHOICE, log entry 117.) -/
def wakeNotice (w : Wake) (n : Notice) (s : State) : State :=
  let isExt := decide (2 ^ 40 ≤ n.subject)
  let dev := if isExt then n.subject - 2 ^ 40 else extOf n.subject
  let r := sessOf s w.entry
  if n.ending == .poisoned then
    if (logDevs s r).contains dev then
      logLost w.entry s
    else if ! w.rebuild && (kvDevs s r).contains dev then kvLost w s
    else
      let w1 := { w with issued := w.issued.filter (·.2 != dev) }
      pumpWake 600 w.entry (countLayers w1 (setWake w1 s))
  else if ! isExt then s
  else
    let w1 := { w with issued := w.issued.filter (·.2 != dev) }
    pumpWake 600 w.entry (countLayers w1 (setWake w1 s))

/-- A rebuild's run has ended (R120 step 4, R121). One whose session has lost its wake, as a lost log takes it, has failed as well
where it is not DONE (Table 3-14). -/
def rebuildEnds (h status stall : Nat) (s : State) : State :=
  match wakeOf s h with
  | none => if status != 0 && (MapOps.get? h s.sess.recs).isSome then raise 0x0304 (some (sessOf s h).part) 0 s else s
  | some w =>
    if status != 0 then rebuildFails h status stall w.cmds s
    else
      let s1 := setSessState h 0 (dropWake h s)
      let r := sessOf s1 h
      let s2 := setSessRec h { r with kvTokens := r.logTokens, parkLevel := 0, parkRetries := 0 } s1
      releaseAttends h 0 (endRebuildCmds h w.cmds 0 stall (countMax 0x3030 9 (nowUs s - w.startUs) (pfxAwake r s2)))

/-! ### Ends of sessions and prefixes (R126, R129) -/

/-- A prefix is freed: its extents dropped and writable again (R126). -/
def freePfx (n : Nat) (s : State) : State :=
  let e := pfxOf s n
  let devs := pfxAll s e
  let s1 := devs.foldl (fun u d => dropNow d u) (forget (.pfx n) (dropSessPark true n s))
  let s2 := unlockExts e.locked s1
  s2.setSess { s2.sess with prefixes := MapOps.erase n s2.sess.prefixes }

/-- A session no longer references its prefix (R126, R129 step 4). (DEDUCED, log entry 25.) -/
def leavePfx (r : Session) (s : State) : State :=
  match r.pfx with
  | none => s
  | some n =>
    let s1 := if awakeState r.state then moveAwake n false s else s
    let e := pfxOf s1 n
    let s2 := modPfx n (fun q => { q with refCount := q.refCount - 1 }) s1
    if (MapOps.get? n s1.sess.prefixes).isSome && e.ending && e.refCount ≤ 1 then freePfx n s2 else s2

/-- SESSION-END, steps 2 to 5 of R129. -/
def endSession (h : Nat) (s : State) : State :=
  let r := sessOf s h
  let cmds := ((sessParkOf s false h).map (·.cmds)).getD [] ++ ((wakeOf s h).map (·.cmds)).getD []
  let s1 := dropWake h (dropSessPark false h (forget (.session h) (withdraw (.session h) s)))
  let s2 := (kvAll s r ++ logAll s r).foldl (fun u d => dropNow d u) s1
  let s3 := leavePfx r s2
  let s4 := s3.setQueue { s3.queue with
    cmds := s3.queue.cmds.map fun q => if q.2.session == some h then (q.1, { q.2 with session := none }) else q }
  endCmds cmds 0x25 0 (s4.setSess { s4.sess with recs := MapOps.erase h s4.sess.recs, ends := s4.sess.ends.filter (·.1 != h) })

/-- A session is being ended. -/
def sessEnding (s : State) (h : Nat) : Bool := s.sess.ends.any (·.1 == h)

/-- A session begins to end (R129 step 1): the runs that serve it end with a status, and the rest follows once they have. -/
def beginEnd (h status : Nat) (cmd : Option Nat) (s : State) : State :=
  let waits := (s.sess.attendWaits.filter fun q => q.1 == h).map (·.2)
  endCmds waits status 0 (s.setSess { s.sess with
    attendWaits := s.sess.attendWaits.filter (fun q => q.1 != h), ends := s.sess.ends ++ [(h, cmd)] })

/-- The sessions whose runs have ended go, and their SESSION-ENDs complete (R129 steps 2 to 5). -/
def pumpEnds (s : State) : State :=
  s.sess.ends.foldl (fun u e =>
    if u.cmp.runs.any fun r => r.session == some e.1 then u
    else
      let t := endSession e.1 u
      match e.2 with
      | some c => completeCmd c 0 0 0 t
      | none => t) s

/-- A session record visited by its engine (R105, R115). -/
def visitSession (h : Nat) (s : State) : State :=
  let r := sessOf s h
  let cls := classRow s r.cls
  let age := ageMs s r.lastTouch
  let s1 := if r.state == 0 && r.inFlight == 0 && age ≥ field cls 31 0 * 1000 then setSessState h 1 s else s
  let st := (sessOf s1 h).state
  if ! engineUp s1 h (kvDevs s1 r ++ logDevs s1 r) then s1
  else if st == 2 then match sessParkOf s1 false h with | some p => parkAgain p s1 | none => s1
  else if (st == 1 || st == 3) && r.inFlight == 0 && ! r.expoHeld then
    let mx0 := field cls 129 128
    let mx1 := if mx0 == 3 && bRebuild (bindRow s r.part r.binding) == 0 then 2 else mx0
    let mx := capLevel s mx1
    let ok := fun (l : Nat) => l ≤ mx && field cls (31 + 32 * l) (32 * l) != 0 && field cls (31 + 32 * l) (32 * l) * 1000 ≤ age
    let target := if ok 3 then 3 else if ok 2 then 2 else if ok 1 then 1 else 0
    if target > r.parkLevel then parkSession h target 130 [] s1 else s1
  else s1

/-- A prefix entry visited by its engine (R125). -/
def visitPfx (n : Nat) (s : State) : State :=
  let e := pfxOf s n
  let cls := classRow s e.cls
  let age := ageMs s e.idleSince
  if ! engineUp s n (pfxDevs s e) then s
  else match sessParkOf s true n with
  | some p => parkAgain p s
  | none =>
    if e.awake != 0 then s
    else
      let mx := capLevel s (min 2 (field cls 129 128))
      let ok := fun (l : Nat) => l ≤ mx && field cls (31 + 32 * l) (32 * l) != 0 && field cls (31 + 32 * l) (32 * l) * 1000 ≤ age
      let target := if ok 2 then 2 else if ok 1 then 1 else 0
      if target > e.parkLevel then startPark true n target 130 [] (pfxDevs s e) [] s else s

end Sys2Proof.Machine
end

