-- ==== Sys2Proof/Machine/TeOps.lean ====
section
/-! DEFINITION. Frames' memories and the work of tensor engines and vector units on them (R187 to R217). -/

namespace Sys2Proof.Machine

open Sys2Proof

/-! ### Formats in force (R189, R195) -/

/-- The code-point sets of the format tables. -/
def codePoints (s : State) : CodePoints :=
  { tf4 := (List.range 8).map (tableRow s 0x5051), tf8 := (List.range 4).map (tableRow s 0x5052) }

/-- A code is enabled. -/
def fmtValid (s : State) (c : Nat) : Bool := bitAt (tableRow s 0x5050 c) 0

/-- A code rounds to nearest. -/
def fmtNear (s : State) (c : Nat) : Bool := ! bitAt (tableRow s 0x5050 c) 29

/-- A code saturates. -/
def fmtSat (s : State) (c : Nat) : Bool := bitAt (tableRow s 0x5050 c) 28

/-- Accepted as a TE input (Table 5-3). -/
def teInput (s : State) (c : Nat) : Bool := (elemOf c).isSome && c != 8 && fmtValid s c

/-- Accepted for VU load and store and for a drain. -/
def vuFormat (s : State) (c : Nat) : Bool := (elemOf c).isSome && fmtValid s c

/-- An element format, FP32 standing for none. -/
def elemD (c : Nat) : Elem := (elemOf c).getD (.float fp32)

/-- Array shape K × N by the wider of two element widths (Table 5-2). (DEDUCED, log entry 29.) -/
def arrayShape (bits : Nat) : Nat × Nat := if bits ≤ 4 then (128, 128) else if bits ≤ 8 then (128, 64) else (64, 64)

/-! ### Frames and trays (R213 to R216) -/

/-- A frame. -/
def frameOf (s : State) (n : Nat) : Frame := MapOps.getD n {} s.cmp.frames

/-- Changes a frame. -/
def modFrame (n : Nat) (f : Frame → Frame) (s : State) : State :=
  s.setCmp { s.cmp with frames := MapOps.insert n (f (frameOf s n)) s.cmp.frames }

/-- Bytes of a tray. -/
def trayBytes : Nat := 0x1800000

/-- A tray range that a step may name: inside the tray, its base on a 64 B boundary. -/
def trayOk (a n : Nat) : Bool := a % 64 == 0 && a + n ≤ trayBytes

/-- Bytes of a tray as read. -/
def trayRead (fr : Frame) (a n : Nat) : List Byte := memRead fr.tray a n

/-- Some byte of a range is poisoned. -/
def trayBad (fr : Frame) (a n : Nat) : Bool := fr.trayPoison.any fun x => a ≤ x && x < a + n

/-- Poisoned bytes of a range. (DEDUCED, log entry 31.) -/
def trayBadCount (fr : Frame) (a n : Nat) : Nat := (fr.trayPoison.filter fun x => a ≤ x && x < a + n).length

/-- Bytes of a range that a read corrects in flight (R215). -/
def traySingles (fr : Frame) (a n : Nat) : Nat := (poisonIn fr.traySingle a n).length

/-- Bytes written to a tray, sound or poisoned. What lies there is no longer a delivered coded block. -/
def trayStore (a : Nat) (bytes : List Byte) (bad : Bool) (fr : Frame) : Frame :=
  let n := bytes.length
  { fr with
    tray := memStore fr.tray a bytes
    trayPoison := if bad then (span a n).foldl (fun l x => setInsert x l) fr.trayPoison else poisonClear fr.trayPoison a n
    traySingle := poisonClear fr.traySingle a n
    codedAt := fr.codedAt.filter fun p => p.1 + 4096 ≤ a || a + n ≤ p.1 }

/-- Element i of an array packed from a base (R192). -/
def trayElem (fr : Frame) (base i w : Nat) : Nat :=
  if w ≤ 8 then (memAt fr.tray (base + i * w / 8)).toNat / 2 ^ (i * w % 8) % 2 ^ w
  else ofBytes (trayRead fr (base + i * (w / 8)) (w / 8))

/-- Bytes of n elements. -/
def elemBytes (n w : Nat) : Nat := ceilDiv (n * w) 8

/-- Bytes from one row of A to the next (R200). -/
def rowStride (n w : Nat) : Nat := ceilDiv (elemBytes n w) 64 * 64

/-- Packs elements into bytes (R192). -/
def packElems (w : Nat) (es : List Nat) : List Byte :=
  toBytes (elemBytes es.length w) ((es.zipIdx.foldl (fun a p => a + put p.1 w (w * p.2)) 0))

/-! ### What a unit's work gives -/

/-- A frame after a unit's work, with what is counted: TE cycles, uncorrectable reads by the detail of their event, corrected bytes, and
buffer loads (Table 5-12). -/
structure UnitDone where
  frame : Frame
  cycles : Nat
  bads : List (Nat × Nat)
  corrected : Nat
  loads : Nat
  deriving DecidableEq, Repr

/-- How a unit takes a step: it waits, faults with STEP_FAULT, or works. -/
inductive UnitEnd where
  | wait
  | fault
  | works (d : UnitDone)
  deriving DecidableEq, Repr

/-! ### Accumulator memory (R199, R217) -/

/-- The number of a word of an engine's accumulator. -/
def accKey (te word : Nat) : Nat := te * 131072 + word

/-- An accumulator word. -/
def accAt (fr : Frame) (te word : Nat) : Nat := MapOps.getD (accKey te word) 0 fr.acc

/-- Writes an accumulator word. -/
def setAcc (te word v : Nat) (bad : Bool) (fr : Frame) : Frame :=
  { fr with
    acc := MapOps.put (accKey te word) 0 v fr.acc
    accPoison := if bad then setInsert (accKey te word) fr.accPoison else setErase (accKey te word) fr.accPoison }

/-! ### Tensor engines -/

/-- The fields of a RUN step (Table 6-8). -/
structure RunStep where
  te : Nat
  mode : Nat
  coded : Bool
  aFmt : Nat
  bFmt : Nat
  outFmt : Nat
  m : Nat
  k : Nat
  n : Nat
  aAddr : Nat
  bAddr : Nat
  acc : Nat
  aScale : Nat
  bScale : Nat
  deriving DecidableEq, Repr

/-- Reads the fields of a RUN step. -/
def runStep (w : Nat) : RunStep :=
  { te := field w 19 16, mode := field w 33 32, coded := bitAt w 34, aFmt := field w 47 40, bFmt := field w 55 48
    outFmt := field w 63 56, m := field w 73 64 + 1, k := 32 * (field w 85 74 + 1), n := 16 * (field w 95 86 + 1)
    aAddr := field w 120 96, bAddr := field w 152 128, acc := field w 176 160, aScale := field w 216 192
    bScale := field w 248 224 }

/-- The limits of Table 5-6 that hold for every RUN step. -/
def runLimits (r : RunStep) : Bool := r.k ≤ 65536 && r.m * r.n ≤ 131072 && r.acc + r.m * r.n ≤ 131072

/-- The width of the wider operand of a multiply. -/
def wider (r : RunStep) : Nat := max (elemD r.aFmt).bits (elemD r.bFmt).bits

/-- Stationary tiles of B (R200, R201). -/
def bTiles (r : RunStep) : Nat := ceilDiv r.k (arrayShape (wider r)).1 * ceilDiv r.n (arrayShape (wider r)).2

/-- The tray ranges that a multiply reads, as address and length: A, B and their scale arrays. -/
def runReads (r : RunStep) : List (Nat × Nat) :=
  if r.mode == 2 then []
  else
    let a := [(r.aAddr, r.m * rowStride r.k (elemD r.aFmt).bits)]
    let b := [(r.bAddr, if r.coded then r.k * r.n / 2 else 8192 * bTiles r)]
    let sa := if isMx r.aFmt then [(r.aScale, r.m * (r.k / 32))] else []
    let sb := if isMx r.bFmt && ! r.coded then [(r.bScale, r.n * (r.k / 32))] else []
    a ++ b ++ sa ++ sb

/-- Where element (k, n) of B lies, as an address and an element number from it. (DEDUCED, log entry 29.) -/
def bPlace (r : RunStep) (k n : Nat) : Nat × Nat :=
  let sh := arrayShape (wider r)
  (r.bAddr + 8192 * ((n / sh.2) * ceilDiv r.k sh.1 + k / sh.1), (n % sh.2) * sh.1 + k % sh.1)

/-- Elements of row m of A from place k0. -/
def aVals (cp : CodePoints) (fr : Frame) (r : RunStep) (m k0 cnt : Nat) : List Val :=
  let el := elemD r.aFmt
  (List.range cnt).map fun i => elemVal cp el (trayElem fr (r.aAddr + m * rowStride r.k el.bits) (k0 + i) el.bits)

/-- Elements of column n of B from place k0. -/
def bVals (cp : CodePoints) (fr : Frame) (r : RunStep) (n k0 cnt : Nat) : List Val :=
  let el := elemD r.bFmt
  (List.range cnt).map fun i => let p := bPlace r (k0 + i) n; elemVal cp el (trayElem fr p.1 p.2 el.bits)

/-- The scale byte of block j of a row or column, 127 where the format has none. (DEDUCED, log entry 29.) -/
def scaleAt (fr : Frame) (mx : Bool) (base row k j : Nat) : Nat :=
  if mx then (memAt fr.tray (base + row * (k / 32) + j)).toNat else 127

/-- The terms of output (m, n) of a plain multiply, one for each 32 K indices (R203). -/
def plainTerms (cp : CodePoints) (fr : Frame) (r : RunStep) (f : Nat → Nat) (m n : Nat) : List Nat :=
  (List.range (r.k / 32)).map fun j =>
    termOf (aVals cp fr r m (32 * j) 32) (bVals cp fr r n (32 * j) 32)
      (scaleAt fr (isMx r.aFmt) r.aScale m r.k j) (scaleAt fr (isMx r.bFmt) r.bScale n r.k j) (f j)

/-- A byte that output (m, n) of a plain multiply reads is poisoned. -/
def plainBad (fr : Frame) (r : RunStep) (m n : Nat) : Bool :=
  let wa := (elemD r.aFmt).bits
  let wb := (elemD r.bFmt).bits
  let sh := arrayShape (wider r)
  trayBad fr (r.aAddr + m * rowStride r.k wa) (elemBytes r.k wa)
    || (List.range (ceilDiv r.k sh.1)).any (fun c =>
        let p := bPlace r (sh.1 * c) n
        trayBad fr (p.1 + p.2 * wb / 8) (elemBytes (min sh.1 (r.k - sh.1 * c)) wb))
    || (isMx r.aFmt && trayBad fr (r.aScale + m * (r.k / 32)) (r.k / 32))
    || (isMx r.bFmt && trayBad fr (r.bScale + n * (r.k / 32)) (r.k / 32))

/-- Writes every output of a multiply into the accumulator: its terms added to its start value by `sum`, and whether it is poisoned. -/
def writeOutputs (r : RunStep) (sum : Nat → Nat → List Nat → Nat) (terms : Nat → Nat → List Nat) (bad : Nat → Nat → Bool)
    (fr : Frame) : Frame :=
  (List.range (r.m * r.n)).foldl (fun u i =>
    let m := i / r.n
    let n := i % r.n
    let ts := terms m n
    let start := if r.mode == 1 then accAt fr r.te (r.acc + i) else 0
    let was := r.mode == 1 && fr.accPoison.contains (accKey r.te (r.acc + i))
    setAcc r.te (r.acc + i) (sum i start ts) (was || bad m n) u) fr

/-- The terms of output i of draw n added in an order that free values choose (R203). -/
def anyOrder (draw i start : Nat) (ts : List Nat) : Nat := accumulate ts.length (fun j => Config.freeAt draw (i * 65536 + j)) start ts

/-- The groups' terms of output i of draw n added in ascending order, each sum rounded (R209, R210). -/
def inOrder (draw i start : Nat) (ts : List Nat) : Nat :=
  ts.zipIdx.foldl (fun a t => toF32 (Config.freeAt draw (i * 65536 + t.2)) ((ofF32 a).add (ofF32 t.1))) start

/-- Bytes that a step's reads of ranges correct in flight (R215). -/
def readsSingle (fr : Frame) (l : List (Nat × Nat)) : Nat := l.foldl (fun a p => a + traySingles fr p.1 p.2) 0

/-- Poisoned bytes that a step's ranges hold. -/
def readsBad (fr : Frame) (l : List (Nat × Nat)) : Nat := l.foldl (fun a p => a + trayBadCount fr p.1 p.2) 0

/-- Poisoned accumulator words of a region. (DEDUCED, log entry 31.) -/
def accBad (fr : Frame) (r : RunStep) : Nat :=
  ((List.range (r.m * r.n)).filter fun i => fr.accPoison.contains (accKey r.te (r.acc + i))).length

/-- A multiply of plain operands (R199 to R204). -/
def plainRun (s : State) (r : RunStep) (fr : Frame) : UnitEnd :=
  if ! (teInput s r.aFmt && teInput s r.bFmt && runLimits r && (runReads r).all fun p => trayOk p.1 p.2) then .fault
  else
    let cp := codePoints s
    let draw := s.fresh
    .works
      { frame := writeOutputs r (anyOrder draw) (fun m n => plainTerms cp fr r (fun j => Config.freeAt draw (2 ^ 40 + (m * r.n + n) * 65536 + j)) m n)
          (plainBad fr r) fr
        cycles := bTiles r * max r.m 32 + 160
        bads := [(0, readsBad fr (runReads r)), (1, if r.mode == 1 then accBad fr r else 0)]
        corrected := readsSingle fr (runReads r), loads := 0 }

/-! ### Coded-operand mode (R205 to R210) -/

/-- A block of a panel in the tray: where it lies and, if it landed coded, its length, slot and generation. -/
def panelBlocks (fr : Frame) (r : RunStep) : List (Nat × Option (Nat × Nat × Nat)) :=
  (List.range (r.k * r.n / 8192)).map fun j => (r.bAddr + 4096 * j, MapOps.get? (r.bAddr + 4096 * j) fr.codedAt)

/-- The slot and generation that the coded blocks of a panel name, each once. -/
def panelSheets (fr : Frame) (r : RunStep) : List (Nat × Nat) :=
  dedup' ((panelBlocks fr r).filterMap fun b => b.2.map (·.2))
where
  /-- The members of a list, each once. -/
  dedup' (l : List (Nat × Nat)) : List (Nat × Nat) := l.foldl (fun a x => if a.contains x then a else a ++ [x]) []

/-- The 512 vectors of a panel block. -/
def panelVectors (s : State) (fr : Frame) (b : Nat × Option (Nat × Nat × Nat)) : List Nat :=
  match b.2 with
  | none => vectors 8 512 (trayRead fr b.1 4096)
  | some (len, slot, gen) =>
    match decodeBlock len slot gen (bankView s slot gen) (trayRead fr b.1 len) with
    | .ok raw => vectors 8 512 raw
    | .error _ => List.replicate 512 0

/-- The vectors of a panel block that a poisoned byte reaches: of a raw block the vector itself, of a coded one those of its sub-stream
(R216; DESIGN CHOICE, log entry 92). -/
def panelBad (fr : Frame) (b : Nat × Option (Nat × Nat × Nat)) : List Bool :=
  match b.2 with
  | none => (List.range 512).map fun i => trayBad fr (b.1 + 8 * i) 8
  | some (len, _, _) =>
    let lens := (codedFacts (trayRead fr b.1 len)).lens
    (List.range 512).map fun i =>
      trayBad fr b.1 16 || trayBad fr (b.1 + 16 + (lens.take (i / 64)).foldl (· + ·) 0) (lens.getD (i / 64) 0)

/-- The tray ranges that a multiply with a coded panel reads: of a block that landed coded, its BLOCK_LEN bytes (R207). -/
def codedReads (fr : Frame) (r : RunStep) : List (Nat × Nat) :=
  (r.aAddr, r.m * rowStride r.k (elemD r.aFmt).bits) :: (if isMx r.aFmt then [(r.aScale, r.m * (r.k / 32))] else [])
    ++ (panelBlocks fr r).map fun b => (b.1, match b.2 with | some (len, _, _) => len | none => 4096)

/-- The sixteen elements of a vector (R206). -/
def vecElems (cp : CodePoints) (el : Elem) (v : Nat) : List Val := (List.range 16).map fun i => elemVal cp el (v / 2 ^ (4 * i) % 16)

/-- The product tables of the last two groups stay in the product-table memory, group g in half g mod 2 (R187, R209, R210; DESIGN
CHOICE, log entry 92). -/
def leaveTables (r : RunStep) (groups : Nat) (entries : List Nat) (product : Nat → Nat → Nat → Nat) (fr : Frame) : Frame :=
  (List.range (min 2 groups)).foldl (fun u j =>
    let g := groups - 1 - j
    (List.range r.m).foldl (fun v m => entries.zipIdx.foldl (fun x e =>
      { x with tables := MapOps.put (r.te * 16384 + g % 2 * 8192 + m * entries.length + e.2) 0 (product g m e.1) x.tables }) v) u) fr

/-- Cycles that one group's tokens take, of which at most 8 of 128 may be literals (R210). -/
def gatherCycles : Nat → Nat → Nat → List Bool → Nat
  | 0, _, _, _ => 1
  | _, _, _, [] => 1
  | n + 1, tokens, lits, l :: ls =>
    if tokens == 128 || (l && lits == 8) then 1 + gatherCycles n 0 0 (l :: ls)
    else gatherCycles n (tokens + 1) (if l then lits + 1 else lits) ls

/-- MACs per cycle of an element width (Table 5-2). -/
def macRate (bits : Nat) : Nat := if bits ≤ 4 then 16384 else if bits ≤ 8 then 8192 else 4096

/-- A sheet buffer holds a generation. -/
def SheetBuf.holds (b : SheetBuf) (sh : Nat × Nat) : Bool := b.slot == sh.1 && b.gen == sh.2

/-- Takes a sheet into a frame's buffers, with the entries that its MD delivers where the frame does not hold it, or where its
buffer holds an uncorrectable error (R208, R217): whether it was loaded, and whether for such an error. -/
def useSheet (sh : Nat × Nat) (entries : List Nat) (fr : Frame) : Frame × Bool × Bool :=
  let rest := fr.sheets.filter fun b => ! b.holds sh
  match fr.sheets.find? (·.holds sh) with
  | some b =>
    if b.bad then ({ fr with sheets := ({ slot := sh.1, gen := sh.2, entries := entries } :: rest).take 2 }, true, true)
    else ({ fr with sheets := (b :: rest).take 2 }, false, false)
  | none => ({ fr with sheets := ({ slot := sh.1, gen := sh.2, entries := entries } :: rest).take 2 }, true, false)

/-- A multiply with a coded panel (R205). One whose sheet can no longer be loaded waits. (DESIGN CHOICE, log entry 118.) -/
def codedRun (s : State) (r : RunStep) (fr : Frame) : UnitEnd :=
  let okB := r.bFmt == 1 || r.bFmt == 2 || (0x20 ≤ r.bFmt && r.bFmt ≤ 0x27)
  if ! (teInput s r.aFmt && fmtValid s r.bFmt && okB && runLimits r && r.k % 128 == 0 && r.n % 64 == 0
        && (runReads r).all fun p => trayOk p.1 p.2) then .fault
  else
    let shs := panelSheets fr r
    let view := shs.map fun q => bankView s q.1 q.2
    if shs.length > 1 then .fault
    else if view.any (fun v => match v with | some (wide, size, es) => wide || size == 2 || decide (8192 < r.m * es.length) | none => false) then .fault
    else if view.any Option.isNone then .wait
    else
      let entries := match view.head? with | some (some (_, _, es)) => es | _ => []
      let vs := (panelBlocks fr r).flatMap (panelVectors s fr)
      let cp := codePoints s
      let el := elemD r.bFmt
      let draw := s.fresh
      let groups := r.k / 16
      let product := fun (g m v : Nat) =>
        termOf (aVals cp fr r m (16 * g) 16) (vecElems cp el v) (scaleAt fr (isMx r.aFmt) r.aScale m r.k (g / 2)) 127
          (Config.freeAt draw (2 ^ 40 + (m * groups + g) * 2 ^ 64 + v))
      let terms := fun (m n : Nat) => (List.range groups).map fun g => product g m (vs.getD (g * r.n + n) 0)
      let wa := (elemD r.aFmt).bits
      let badVs := (panelBlocks fr r).flatMap (panelBad fr)
      let upset := Config.tableUpset draw
      let build := ceilDiv (r.m * entries.length * 16) (macRate wa)
      let lit := fun (g n : Nat) => let b := (g * r.n + n) / 512
        ((panelBlocks fr r).getD b (0, none)).2.isNone || ! entries.contains (vs.getD (g * r.n + n) 0)
      let gather := fun (g : Nat) => gatherCycles (4 * r.n) 0 0 ((List.range r.n).map (lit g)) * ceilDiv r.m 8
      let tableBad := fun (m n : Nat) => upset.any fun x =>
        x.2.1 == m && decide (x.1 < groups) && ! lit x.1 n && entries[x.2.2]? == some (vs.getD (x.1 * r.n + n) 0)
      let bad := fun (m n : Nat) => ((List.range groups).any fun g => badVs.getD (g * r.n + n) false) || tableBad m n
        || trayBad fr (r.aAddr + m * rowStride r.k wa) (elemBytes r.k wa)
        || (isMx r.aFmt && trayBad fr (r.aScale + m * (r.k / 32)) (r.k / 32))
      let loaded := match shs.head? with | some sh => useSheet sh entries fr | none => (fr, false, false)
      .works
        { frame := leaveTables r groups entries product (writeOutputs r (inOrder draw) terms bad loaded.1)
          cycles := (List.range groups).foldl (fun a g => a + max build (gather g)) 0
          bads := [(0, readsBad fr (codedReads fr r)), (1, if r.mode == 1 then accBad fr r else 0)
            , (2, ((List.range (r.m * r.n)).filter fun i => tableBad (i / r.n) (i % r.n)).length)]
          corrected := readsSingle fr (codedReads fr r) + ofBool loaded.2.2
          loads := ofBool loaded.2.1 }

/-! ### Drains (R202) -/

/-- The tray ranges that a drain writes. (DEDUCED, log entry 16.) -/
def drainWrites (r : RunStep) : List (Nat × Nat) :=
  (r.bAddr, r.m * rowStride r.n (elemD r.outFmt).bits) :: (if isMx r.outFmt then [(r.bScale, r.m * ceilDiv r.n 32)] else [])

/-- One row of a drain: the scale bytes and the elements, with the poison of each element. (DEDUCED, log entry 16.) -/
def drainRow (cp : CodePoints) (s : State) (fr : Frame) (r : RunStep) (m : Nat) : List Nat × List Nat × List Bool :=
  let el := elemD r.outFmt
  let near := fmtNear s r.outFmt
  let sat := fmtSat s r.outFmt
  let val := fun n => ofF32 (accAt fr r.te (r.acc + m * r.n + n))
  let bad := fun n => fr.accPoison.contains (accKey r.te (r.acc + m * r.n + n))
  let free := fun n => Config.freeAt s.fresh (m * r.n + n)
  if isMx r.outFmt then
    let bs := (List.range (ceilDiv r.n 32)).map fun j =>
      let ns := span (32 * j) (min 32 (r.n - 32 * j))
      (packBlock cp el near (free (32 * j)) (ns.map val), ns.any bad)
    (bs.map fun b => b.1.1, bs.flatMap fun b => b.1.2, bs.flatMap fun b => b.1.2.map fun _ => b.2)
  else ([], (List.range r.n).map fun n =>
    if el == .float fp32 then flush32 (accAt fr r.te (r.acc + m * r.n + n)) else packElem cp el near sat (free n) (val n), (List.range r.n).map bad)

/-- Writes elements with their poison: a byte is poisoned where one of its elements is. -/
def storeElems (a w : Nat) (es : List Nat) (bad : List Bool) (fr : Frame) : Frame :=
  let fr1 := trayStore a (packElems w es) false fr
  bad.zipIdx.foldl (fun u p =>
    if p.1 then
      { u with trayPoison := (span (a + p.2 * w / 8) (max 1 (w / 8))).foldl (fun l x => setInsert x l) u.trayPoison }
    else u) fr1

/-- A drain of an accumulator region to the tray, row by row as operand A lies (R200; DESIGN CHOICE, log entry 16). -/
def drain (s : State) (r : RunStep) (fr : Frame) : UnitEnd :=
  if ! (vuFormat s r.outFmt && r.m * r.n ≤ 131072 && r.acc + r.m * r.n ≤ 131072
        && (drainWrites r).all fun p => trayOk p.1 p.2) then .fault
  else
    let cp := codePoints s
    let w := (elemD r.outFmt).bits
    let out := (List.range r.m).foldl (fun u m =>
      let row := drainRow cp s fr r m
      let u1 := storeElems (r.bAddr + m * rowStride r.n w) w row.2.1 row.2.2 u
      row.1.zipIdx.foldl (fun v p =>
        trayStore (r.bScale + m * ceilDiv r.n 32 + p.2) [BitVec.ofNat 8 p.1] (row.2.2.getD (32 * p.2) false) v) u1) fr
    .works
      { frame := out, cycles := ceilDiv (r.m * r.n) 128 * (if w == 32 then 2 else 1), bads := [(1, accBad fr r)], corrected := 0, loads := 0 }

/-- The work of a RUN step on its frame. -/
def teWork (s : State) (w : Nat) (fr : Frame) : UnitEnd :=
  let r := runStep w
  if r.mode == 2 then drain s r fr else if r.coded then codedRun s r fr else plainRun s r fr

/-! ### Vector units (R211, R237) -/

/-- The number of a lane. -/
def laneKey (vu reg lane : Nat) : Nat := (vu * 32 + reg) * 256 + lane

/-- The lanes of a register. -/
def laneVals (fr : Frame) (vu reg : Nat) : List Nat := (List.range 256).map fun i => MapOps.getD (laneKey vu reg i) 0 fr.vregs

/-- A lane is poisoned. (DEDUCED, log entry 31.) -/
def laneBad (fr : Frame) (vu reg lane : Nat) : Bool := fr.vregPoison.contains (laneKey vu reg lane)

/-- Writes a register: its lanes, and which are poisoned. -/
def setLanes (vu reg : Nat) (vs : List Nat) (bad : Nat → Bool) (fr : Frame) : Frame :=
  vs.zipIdx.foldl (fun u p =>
    let k := laneKey vu reg p.2
    { u with vregs := MapOps.put k 0 p.1 u.vregs
             vregPoison := if bad p.2 then setInsert k u.vregPoison else setErase k u.vregPoison }) fr

/-- Operands that an operation reads. -/
def vecArity (op : Nat) : Nat :=
  if op == 0x04 || op == 0x0A then 3
  else if (0x01 ≤ op && op ≤ 0x06) || op == 0x09 || (0x30 ≤ op && op ≤ 0x32) then 2 else 1

/-- The tray bytes of a VEC load or store: data, and scales. -/
def vecRanges (w addr : Nat) : List (Nat × Nat) :=
  let c := field w 47 40
  (addr, elemBytes 256 (elemD c).bits) :: (if isMx c then [(field w 184 160, 8)] else [])

/-- A VEC load at a tray address. -/
def vecLoad (s : State) (w addr : Nat) (fr : Frame) : UnitEnd :=
  let c := field w 47 40
  if ! (vuFormat s c && (vecRanges w addr).all fun p => trayOk p.1 p.2) then .fault
  else
    let el := elemD c
    let cp := codePoints s
    let sc := fun i => if isMx c then (memAt fr.tray (field w 184 160 + i / 32)).toNat else 127
    let one := fun i =>
      let bits := trayElem fr addr i el.bits
      if el == .float fp32 then flush32 bits
      else if sc i == 255 then nanPattern fp32 (Config.freeAt s.fresh i)
      else toF32 (Config.freeAt s.fresh i) ((elemVal cp el bits).scale ((sc i : Int) - 127))
    let bad := fun i => trayBad fr (addr + i * el.bits / 8) (max 1 (el.bits / 8)) || (isMx c && trayBad fr (field w 184 160 + i / 32) 1)
    .works
      { frame := setLanes (field w 19 16) (field w 60 56) ((List.range 256).map one) bad fr
        cycles := 0, bads := [(0, readsBad fr (vecRanges w addr))], corrected := readsSingle fr (vecRanges w addr), loads := 0 }

/-- A VEC store at a tray address. -/
def vecStore (s : State) (w addr : Nat) (fr : Frame) : UnitEnd :=
  let c := field w 47 40
  if ! (vuFormat s c && (vecRanges w addr).all fun p => trayOk p.1 p.2) then .fault
  else
    let el := elemD c
    let cp := codePoints s
    let vu := field w 19 16
    let reg := field w 60 56
    let pats := laneVals fr vu reg
    let bads := (List.range 256).map (laneBad fr vu reg)
    let free := fun i => Config.freeAt s.fresh i
    let n := (bads.filter (·)).length
    let out :=
      if isMx c then
        (List.range 8).foldl (fun u j =>
          let b := packBlock cp el (fmtNear s c) (free (32 * j)) ((slice pats (32 * j) 32 0).map ofF32)
          let bad := (slice bads (32 * j) 32 false).any (·)
          trayStore (field w 184 160 + j) [BitVec.ofNat 8 b.1] bad
            (storeElems (addr + elemBytes (32 * j) el.bits) el.bits b.2 (b.2.map fun _ => bad) u)) fr
      else
        storeElems addr el.bits (pats.zipIdx.map fun p =>
          if el == .float fp32 then flush32 p.1 else packElem cp el (fmtNear s c) (fmtSat s c) (free p.2) (ofF32 p.1)) bads fr
    .works { frame := out, cycles := 0, bads := [(3, n)], corrected := 0, loads := 0 }

/-- A VEC operation of Table 5-7. -/
def vecOp (s : State) (w : Nat) (fr : Frame) : UnitEnd :=
  let op := field w 55 48
  if ! vecOps.contains op then .fault
  else
    let vu := field w 19 16
    let regs := [field w 65 61, field w 70 66, field w 75 71]
    let a := laneVals fr vu (regs.getD 0 0)
    let b := laneVals fr vu (regs.getD 1 0)
    let c := laneVals fr vu (regs.getD 2 0)
    let used := regs.take (vecArity op)
    let free := fun i => Config.freeAt s.fresh i
    let reduces := op == 0x20 || op == 0x21 || op == 0x22
    let anyBad := fun (r : Nat) => (List.range 256).any (laneBad fr vu r)
    let vs := if reduces then vecReduce op a free :: List.replicate 255 0
      else (List.range 256).map fun i => vecLane op (a.getD i 0) (b.getD i 0) (c.getD i 0) i (a.headD 0) (free i)
    let bad := fun i =>
      if reduces then i == 0 && used.any anyBad
      else if op == 0x0B then laneBad fr vu (regs.getD 0 0) 0
      else used.any fun r => laneBad fr vu r i
    let n := if op == 0x0B then ofBool (laneBad fr vu (regs.getD 0 0) 0)
      else used.foldl (fun x r => x + ((List.range 256).filter (laneBad fr vu r)).length) 0
    .works { frame := setLanes vu (field w 60 56) vs bad fr, cycles := 0, bads := [(3, n)], corrected := 0, loads := 0 }

/-- Uncorrectable reads are counted for a frame's owner, and told with where they were (R216, R217). -/
def countBad (part : Nat) (s : State) (b : Nat × Nat) : State :=
  if b.2 == 0 then s else raise 0x0501 (some part) b.1 (countBy 0x3052 (part + 1) b.2 s)

/-- The cycles that a step's ports waited on busy banks: the manual states no timing of a step's accesses, so their number is a free
value (R214; DESIGN CHOICE, log entry 93). -/
def countPorts (part : Nat) (s : State) : State := countBy 0x3055 (part + 1) (freeValue s) (used s)

/-- Counts and events of a unit's work, for the frame's owner (R214 to R217, Table 5-12). -/
def countWork (n part : Nat) (d : UnitDone) (s : State) : State :=
  let s1 := countPorts part (modFrame n (fun _ => d.frame) s)
  let s2 := countBy 0x3054 (part + 1) d.cycles (countBy 0x3050 5 d.loads s1)
  d.bads.foldl (countBad part) (countBy 0x3051 (part + 1) d.corrected s2)

/-- The tile port or the remote queue reads tray bytes for a step: corrected and poisoned bytes are counted (R214 to R216). -/
def countTrayRead (fr : Frame) (part a n : Nat) (s : State) : State :=
  countBad part (countBy 0x3051 (part + 1) (traySingles fr a n) (countPorts part s)) (0, trayBadCount fr a n)

/-- What an error of the memories of a frame does (R215 to R217): one bit of a tray byte is corrected by every reader, and an
uncorrectable byte, word or lane is poisoned from then on. An error in a sheet buffer shows at its next use. -/
def upsetFrame (memory place : Nat) (fr : Frame) : Frame :=
  match memory with
  | 0 => if fr.trayPoison.contains (place % trayBytes) then fr else { fr with traySingle := setInsert (place % trayBytes) fr.traySingle }
  | 1 => { fr with trayPoison := setInsert (place % trayBytes) fr.trayPoison, traySingle := setErase (place % trayBytes) fr.traySingle }
  | 2 => { fr with accPoison := setInsert (place % 1310720) fr.accPoison }
  | 3 => { fr with vregPoison := setInsert (place % 40960) fr.vregPoison }
  | _ => { fr with sheets := fr.sheets.zipIdx.map fun b => if b.2 == place % 2 then { b.1 with bad := true } else b.1 }

/-- A microsecond leaves the error, if any, that its free value chooses (R215 to R217; DESIGN CHOICE, log entry 91). -/
def upsets (s : State) : State :=
  match Config.frameUpset s.fresh with
  | none => used s
  | some (frame, memory, place) => modFrame (frame % 36) (upsetFrame memory place) (used s)

end Sys2Proof.Machine
end

