-- ==== Sys2Proof/Machine/CompOps.lean ====
section
/-! DEFINITION. Frame ownership and grants, sequencers, and how runs stop and end (R218 to R225, R239 to R256). -/

namespace Sys2Proof.Machine

open Sys2Proof

/-! ### Runs -/

/-- A run. -/
def runOf (s : State) (id : Nat) : Option Run := s.cmp.runs.find? (·.id == id)

/-- Replaces a run. -/
def setRun (r : Run) (s : State) : State :=
  s.setCmp { s.cmp with runs := s.cmp.runs.map fun q => if q.id == r.id then r else q }

/-- The sequencer of a logical frame. -/
def seqOf (r : Run) (f : Nat) : Option Sequencer := r.seqs[f]?

/-- Replaces a sequencer of a run. -/
def setSeq (id f : Nat) (q : Sequencer) (s : State) : State :=
  match runOf s id with
  | none => s
  | some r => setRun { r with seqs := r.seqs.set f q } s

/-- Changes a sequencer of a run. -/
def modSeq (id f : Nat) (g : Sequencer → Sequencer) (s : State) : State :=
  match (runOf s id).bind fun r => seqOf r f with
  | none => s
  | some q => setSeq id f (g q) s

/-- The number of a sequencer that waits for another frame (R223). -/
def noFrame : Nat := 36

/-! ### The frame-share table (R219, R220) -/

/-- A frame-share row. -/
def shareRow (s : State) (p : Nat) : Nat := tableRow s 0x5053 p

/-- Places reservations on the lowest-numbered frames of each CD mask, partitions ascending (R220). -/
def placeReserved (rows : Nat → Nat) : List (Nat × Nat) :=
  (List.range 64).foldl (fun taken p =>
    let r := rows p
    let free := (List.range 36).filter fun f => bitAt r (12 + f / 9) && ! (taken.any fun t => t.1 == f)
    taken ++ (free.take (field r 5 0)).map fun f => (f, p)) []

/-- A frame-share table has been accepted: frames are reserved anew, and pooled frames' HOLD_US counts from now.
(DESIGN CHOICE, log entry 35.) -/
def placeFrames (s : State) : State :=
  let res := placeReserved (shareRow s)
  (List.range 36).foldl (fun u f =>
    modFrame f (fun fr => { fr with reservedFor := (res.find? (·.1 == f)).map (·.2), sinceUs := nowUs s }) u) s

/-! ### Grants (R218 to R222, R239) -/

/-- The COMPUTE clock of a frame is enabled and open (R221). -/
def frameClocked (s : State) (f : Nat) : Bool := bitAt s.start.frameEnable.toNat f && bitAt s.start.frameOpen.toNat f

/-- A partition's frames, those of a switch toward it among them. -/
def framesOf (s : State) (p : Nat) : List Nat :=
  (List.range 36).filter fun f => (frameOf s f).owner == some p || (frameOf s f).switching == some (some p)

/-- A frame may be granted to a partition. -/
def mayGrant (s : State) (p f : Nat) : Bool :=
  let fr := frameOf s f
  ! fr.outOfUse && frameClocked s f && fr.run.isNone && fr.switching.isNone && bitAt (shareRow s p) (12 + f / 9)
    && match fr.reservedFor with
      | some q => q == p
      | none => match fr.owner with
        | none => true
        | some q => q == p || decide (fr.sinceUs + field (shareRow s q) 31 16 ≤ nowUs s)

/-- The grant order of an eligible frame: the partition's own first, then its reserved ones, then pooled (R239). -/
def grantRank (s : State) (p f : Nat) : Nat :=
  if (frameOf s f).owner == some p then 0 else if (frameOf s f).reservedFor == some p then 1 else 2

/-- Eligible frames of a set, in grant order. -/
def grantOrder (s : State) (p : Nat) (fs : List Nat) : List Nat :=
  let ok := fs.filter (mayGrant s p)
  ok.filter (grantRank s p · == 0) ++ ok.filter (grantRank s p · == 1) ++ ok.filter (grantRank s p · == 2)

/-- The frames a run would be granted, ascending; none while they cannot all be granted at once. -/
def grantFor (s : State) (r : Run) : Option (List Nat) :=
  let pick := fun (fs : List Nat) =>
    let c := (grantOrder s r.part fs).take r.framesWanted
    let added := (c.filter fun f => grantRank s r.part f != 0).length
    if c.length == r.framesWanted && (framesOf s r.part).length + added ≤ field (shareRow s r.part) 11 6
    then some ((List.range 36).filter c.contains) else none
  if r.oneCd then (List.range 4).findSome? fun cd => pick (span (9 * cd) 9) else pick (List.range 36)

/-- A run comes before another: deadline-tagged ones by expiry first, then fetch order (R239). -/
def runBefore (r b : Run) : Bool :=
  match r.expiry, b.expiry with
  | some x, some y => decide (x < y) || (x == y && decide (r.order < b.order))
  | some _, none => true
  | none, some _ => false
  | none, none => r.order < b.order

/-- The head of the runs of a partition that wait (R239). -/
def waitingHead (s : State) (p : Nat) : Option Run :=
  (s.cmp.runs.filter fun r => r.part == p && ! r.granted).foldl (fun a r =>
    match a with
    | none => some r
    | some b => if runBefore r b then some r else some b) none

/-- A frame begins to change owner (Table 5-10, events 1 to 4): every memory is cleared and the epoch advances. -/
def startSwitch (f : Nat) (dst : Option Nat) (s : State) : State :=
  count 0x3050 1 (modFrame f (fun fr =>
    { reservedFor := fr.reservedFor, outOfUse := fr.outOfUse, sinceUs := fr.sinceUs, run := fr.run
      epoch := fr.epoch + 1, switching := some dst }) s)

/-- Gives a run a frame: a switch where the partition does not own it yet. -/
def giveFrame (r : Run) (f : Nat) (s : State) : State :=
  let s1 := modFrame f (fun fr => { fr with run := some r.id }) s
  if (frameOf s f).owner == some r.part then s1 else startSwitch f (some r.part) s1

/-- A frame that a run's sequencers want in place of one taken out of use, within the partition's MAX (R219, R223). -/
def refillFrames (r : Run) (s : State) : State :=
  r.seqs.zipIdx.foldl (fun u p =>
    if p.1.frame != noFrame then u
    else
      let cds := if r.oneCd then (r.seqs.filterMap fun q => if q.frame == noFrame then none else some (q.frame / 9)) else []
      let fs := (List.range 36).filter fun f => cds.all (· == f / 9)
      let room := fun (f : Nat) => grantRank u r.part f == 0 || decide ((framesOf u r.part).length < field (shareRow u r.part) 11 6)
      match ((grantOrder u r.part fs).filter room).head? with
      | none => u
      | some f => giveFrame r f (modSeq r.id p.2 (fun q => { q with frame := f }) u)) s

/-! ### How a run ends (R245, R255, R256) -/

/-- OPCODE of a step (Table 6-5). -/
def opOf (w : Nat) : Nat := field w 7 0

/-- The run's frames are idle and stay with the partition. -/
def freeFrames (r : Run) (s : State) : State :=
  r.seqs.foldl (fun u q => if q.frame == noFrame then u else modFrame q.frame (fun fr => { fr with run := none }) u) s

/-- Run-ahead moves whose load never issued (R252). -/
def unusedAhead (r : Run) : Nat := r.seqs.foldl (fun a q => a + q.ahead.length) 0

/-- Counts the end of a run by its status (Table 6-18). -/
def countEnd (status : Nat) (s : State) : State :=
  if status == 0 then count 0x3060 2 s else s

/-- A run is gone: its command completes with the status (Table 6-14, R121). -/
def closeRun (r : Run) (status : Nat) (s0 : State) : State :=
  let s := forgetWork 0 r.id (s0.setCmp { s0.cmp with runs := s0.cmp.runs.filter (·.id != r.id) })
  let ns := if r.granted then (nowUs s - r.grantUs) * 1000 else 0
  if r.kind == 2 then
    match r.session with
    | none => s
    | some h =>
      let kv := if status == 0 then (sessOf s h).logTokens else (sessOf s h).kvTokens
      rebuildEnds h status r.stallNs (match r.cmd with | some c => completeCmd c status kv r.stallNs s | none => s)
  else match r.cmd with
    | none => s
    | some c =>
      if r.kind == 1 then completeCmd c status ((r.session.map fun h => (sessOf s h).kvTokens).getD 0) r.stallNs s
      else completeCmd c status ns r.stallNs s

/-- A run reaches its end: frames are freed; an ATTEND that ends DONE with APPEND appends first (R259). (DEDUCED, log entry 36.) -/
def endRun (id status : Nat) (s : State) : State :=
  match runOf s id with
  | none => s
  | some r =>
    let s1 := forgetAhead r (countBy 0x3060 7 (unusedAhead r) (countEnd status (freeFrames r s)))
    match r.attend with
    | some (_, append, _, _) =>
      if status == 0 && append != 0 then
        setRun { r with seqs := [], appending := true, turn := 1 + s1.cmp.runs.foldl (fun a q => max a q.turn) 0 } s1
      else closeRun r status s1
    | none => closeRun r status s1
where
  /-- Run-ahead moves go on without the run (R256 step 6). -/
  forgetAhead (r : Run) (s : State) : State :=
    (List.range r.seqs.length).foldl (fun u f => forget (.runAhead r.id f) u) s

/-- A run that every frame has ended and no step of which is incomplete is over (R245, R255). -/
def checkEnd (id : Nat) (s : State) : State :=
  match runOf s id with
  | none => s
  | some r =>
    if r.granted && r.stopping.isNone && ! r.appending && r.seqs.all (fun q => q.ended && q.issued.isEmpty)
    then endRun id (if r.carriedPoison then 0x20 else 0) s else s

/-- Drops what a stopped run's steps still wait for, but for the blocks of an issued STORE-TILE (R256 steps 2 and 4). -/
def abandon (q : Sequencer) : Sequencer :=
  { q with issued := q.issued.filter (fun i => i.waiting.isEmpty || opOf i.word == 0x02), wordWait := none, stalledSince := none }

/-- The decision to stop a run (R256): no further step issues. A run that holds no frames ends at once. -/
def stopRun (id status : Nat) (s : State) : State :=
  match runOf s id with
  | none => s
  | some r =>
    if r.appending || ! r.granted then closeRun r status s
    else if r.stopping.isSome then s
    else setRun { r with stopping := some status, seqs := r.seqs.map abandon } s

/-- A run ends for a step's own fault, or for a failed remote step (R250, R255). (DEDUCED, log entry 36.) -/
def faultRun (id f step status : Nat) (s : State) : State :=
  match runOf s id with
  | none => s
  | some r =>
    if r.stopping.isSome then s
    else if status == 0x46 || status == 0x30 || status == 0x31 then
      stopRun id status (raise 0x0603 (some r.part) 0 (count 0x3060 8 s))
    else stopRun id status (raise 0x0602 (some r.part) (f + 256 * step) (count 0x3060 4 s))

/-- A run is stopped from outside (Table 6-18, RunsAborted). -/
def abortRun (id status : Nat) (s : State) : State :=
  match runOf s id with
  | none => s
  | some r => if r.stopping.isSome then s else stopRun id status (count 0x3060 5 s)

/-! ### Step words, loops and addresses (R234 to R238, R246) -/

/-- The step streams of a run's program. -/
def streamsOf (s : State) (r : Run) : List (List Nat) := (MapOps.getD r.program {} s.cmp.registry).streams

/-- The step at which a sequencer stands. -/
def stepAt (s : State) (r : Run) (f : Nat) (q : Sequencer) : Option Nat := ((streamsOf s r).getD f [])[q.pc]?

/-- An argument register. -/
def argOf (r : Run) (i : Nat) : Nat := r.args.getD i 0

/-- The sequencer after step n has issued, loops turned and closed (R246). -/
def afterStep : Nat → Nat → Sequencer → Sequencer
  | 0, n, q => { q with pc := n + 1 }
  | k + 1, n, q =>
    match q.open_ with
    | [] => { q with pc := n + 1 }
    | (lv, first, last, cnt) :: rest =>
      if last != n then { q with pc := n + 1 }
      else if q.loops.getD lv 0 + 1 < cnt then { q with loops := q.loops.set lv (q.loops.getD lv 0 + 1), pc := first }
      else afterStep k n { q with loops := q.loops.set lv 0, open_ := rest }

/-- The count of a LOOP step: COUNT, or an argument register divided and rounded up (Table 6-10). -/
def loopCount (r : Run) (w : Nat) : Nat :=
  if bitAt w 34 then ceilDiv (argOf r (field w 38 35)) (field w 95 64) else field w 63 40

/-- A LOOP step issues (R246). -/
def openLoop (cnt w : Nat) (q : Sequencer) : Sequencer :=
  if cnt == 0 then afterStep 5 (field w 127 96) q
  else { q with loops := q.loops.set (field w 33 32) 0, open_ := (field w 33 32, q.pc + 1, field w 127 96, cnt) :: q.open_, pc := q.pc + 1 }

/-- A loop index; 0 outside its loop. -/
def loopIdx (q : Sequencer) (l : Nat) : Nat := q.loops.getD l 0

/-- The address of a memory step (R235). -/
def stepAddr (r : Run) (q : Sequencer) (w : Nat) : Nat :=
  (argOf r (field w 35 32) + field w 79 48 + loopIdx q (field w 37 36) * field w 103 80
    + (if bitAt w 42 then loopIdx q (field w 41 40) * argOf r (field w 46 43) else 0)) % two64

/-- The tray address of a memory step (R235). -/
def stepTray (q : Sequencer) (w : Nat) : Nat :=
  (field w 152 128 + loopIdx q (field w 37 36) * field w 183 160) % two64

/-- The tray address of a VEC load or store (R237). -/
def vecTray (q : Sequencer) (w : Nat) : Nat :=
  (field w 120 96 + loopIdx q (field w 77 76) * field w 151 128) % two64

/-- The unit queue of a step and its room (Table 6-11): a number for each queue, none for sequencer steps. -/
def queueOf (w : Nat) : Option (Nat × Nat) :=
  let op := opOf w
  if op == 0x10 then some (field w 19 16, 4)
  else if op == 0x20 then some (16 + field w 19 16, 8)
  else if op == 0x01 || op == 0x02 || op == 0x03 then some (32, 32)
  else if op == 0x40 || op == 0x41 then some (33, 16)
  else none

/-- There is room in a step's unit queue. -/
def hasRoom (q : Sequencer) (w : Nat) : Bool :=
  match queueOf w with
  | none => true
  | some (u, n) => (q.issued.filter fun i => (queueOf i.word).map (·.1) == some u).length < n

/-- A tray range meets the arrival record (R242). -/
def arriving (q : Sequencer) (a n : Nat) : Bool :=
  q.issued.any fun i => match i.arrival with
    | some (line, cnt) => a < (line + cnt) * 64 && line * 64 < a + n
    | none => false

/-- The tray ranges whose arrival a step must wait for: those that a RUN, STORE-TILE or REMOTE-WRITE reads (R242). -/
def awaited (q : Sequencer) (w : Nat) : List (Nat × Nat) :=
  let op := opOf w
  if op == 0x10 then runReads (runStep w)
  else if op == 0x02 then [(stepTray q w, 4096 * (field w 111 108 + 1))]
  else if op == 0x40 then [(stepTray q w, field w 207 192 + 1)]
  else []

/-- A step of this word may issue: room in its queue, and nothing it reads still to arrive. -/
def mayIssue (q : Sequencer) (w : Nat) : Bool := hasRoom q w && ! (awaited q w).any fun p => arriving q p.1 p.2

/-- A record of a step that issues from a sequencer and waits for nothing. -/
def newIssue (q : Sequencer) (w : Nat) : Issued :=
  { step := q.pc, word := w, waiting := [], arrival := none, poisoned := false, key := 0, toCome := 0 }

/-- A step is issued and incomplete. (DESIGN CHOICE, log entry 32.) -/
def addIssue (q : Sequencer) (i : Issued) : Sequencer := { q with issued := q.issued ++ [i] }

/-! ### Tokens (R243) -/

/-- A token of a run. -/
def tokenOf (r : Run) (t : Nat) : Nat := MapOps.getD t 0 r.tokens

/-- Gives a token a value. -/
def setToken (id t v : Nat) (s : State) : State :=
  match runOf s id with
  | none => s
  | some r => setRun { r with tokens := MapOps.put t 0 (v % 2 ^ 32) r.tokens } s

/-- The value that a WAIT waits for. -/
def waitValue (q : Sequencer) (w : Nat) : Nat :=
  (field w 95 64 + loopIdx q (field w 41 40) * field w 127 96) % 2 ^ 32

/-- (x - V) mod 2^32 < 2^31. -/
def reached (x v : Nat) : Bool := (x + 2 ^ 32 - v) % 2 ^ 32 < 2 ^ 31

/-! ### Run-ahead (R251, R252) -/

/-- The tiles that marked LOAD-TILE steps of the next n steps address, every loop taken to continue. -/
def lookAhead (r : Run) (steps : List Nat) : Nat → Sequencer → List Nat
  | 0, _ => []
  | n + 1, q =>
    match steps[q.pc]? with
    | none => []
    | some w =>
      let here := if opOf w == 0x01 && bitAt w 38 then [stepAddr r q w] else []
      if opOf w == 0x5F then []
      else if opOf w == 0x50 then lookAhead r steps n (openLoop (2 ^ 30) w q)
      else here ++ lookAhead r steps n (afterStep 5 q.pc q)

/-- A run-ahead move of a tile is in progress. -/
def aheadBusy (s : State) (key : Nat) : Bool :=
  (moveOf s key).isSome || (s.tier.moveQueue.any (·.key == key)) || kindOf s (extOf key) == 2 || kindOf s (extOf key) == 3

/-- The run-ahead moves of a frame that are in progress (R251). -/
def aheadCount (s : State) (q : Sequencer) : Nat := ((q.ahead ++ q.aheadUsed).filter (aheadBusy s)).length

/-- Starts the run-ahead move of one tile, unless R251 skips it. -/
def aheadTile (id f : Nat) (t : Nat) (s : State) : State :=
  match (runOf s id).bind fun r => (seqOf r f).map fun q => (r, q) with
  | none => s
  | some (r, q) =>
    if 2 ^ 36 ≤ t || ! canRead s r.part (t / 32) || aheadCount s q ≥ 16 then s
    else match devOf s r.part (t / 32) with
    | none => s
    | some e =>
      let key := tileKey e (t % 32)
      let cd := q.frame / 9
      let mark := fun u => count 0x3060 6 (modSeq id f (fun v => { v with ahead := v.ahead ++ [key] }) u)
      if q.ahead.contains key then s
      else if kindOf s e == 3 && ((tdeOf s key).expoHeld || (tdeOf s key).tier == .ridge) then s
      else if kindOf s e == 2 || kindOf s e == 3 then
        mark (requestUnpark { ext := e, act := 0, master := 64 + r.part, tier := .ridge, md := none, cd := some cd, hint := 0
                              touched := t % 32, waiters := [.runAhead id f] } s)
      else if kindOf s e != 1 || (tdeOf s key).tier != .batten || (tdeOf s key).expoHeld then s
      else mark (requestMove (plainMove key .ridge (stackOfDie s cd) 9 (64 + r.part) [.runAhead id f]) s)

/-- A sequencer looks ahead. -/
def runAhead (id f : Nat) (s : State) : State :=
  match (runOf s id).bind fun r => (seqOf r f).map fun q => (r, q) with
  | none => s
  | some (r, q) =>
    let w := scalar s 0x2A00 2 64
    if w == 0 || r.stopping.isSome || q.frame == noFrame then s
    else
      let steps := (streamsOf s r).getD f []
      let q1 := { q with open_ := q.open_.map fun o => (o.1, o.2.1, o.2.2.1, 2 ^ 30) }
      let next := match steps[q1.pc]? with
        | none => q1
        | some x => if opOf x == 0x50 then openLoop (2 ^ 30) x q1 else afterStep 5 q1.pc q1
      (lookAhead r steps w next).foldl (fun u t => aheadTile id f t u) s

/-! ### Issue -/

/-- How a step that stands at its sequencer is taken. -/
inductive StepEnd where
  /-- It cannot issue now. -/
  | wait
  /-- It ends the run with this status. -/
  | fault (status : Nat) (t : State)
  /-- It issues, and the sequencer becomes this. -/
  | done (q : Sequencer) (t : State)

/-- The run takes steps now: granted, not stopping, and its frame owned by the partition with no switch in progress. -/
def running (s : State) (r : Run) (q : Sequencer) : Bool :=
  r.granted && r.stopping.isNone && ! r.appending && ! q.ended && q.frame != noFrame
    && (frameOf s q.frame).owner == some r.part && (frameOf s q.frame).switching.isNone

/-- The sequencer waits for its frame to change owner, or for another frame (R222, R223). -/
def awaitsFrame (s : State) (q : Sequencer) : Bool := ! q.ended && (q.frame == noFrame || (frameOf s q.frame).switching.isSome)

/-- A step makes requests on the package fabric: a tile, remote or word step (R437). -/
def makesRequests (w : Nat) : Bool :=
  match queueOf w with
  | some (u, _) => u ≥ 32
  | none => opOf w == 0x30 && field w 33 32 != 0

/-- The admission point of the frame's CD holds the requests of the run's step (R437, R253 cause 3). -/
def regulated (s : State) (r : Run) (q : Sequencer) (w : Nat) : Bool := makesRequests w && ! q.admitted && heldMaster s (64 + r.part)

/-- A step that has just issued takes its place among the issues of its run. -/
def numbered (r : Run) (n : Nat) (q : Sequencer) : Sequencer :=
  { q with issued := q.issued.map fun i => if i.step == n && i.seq == 0 then { i with seq := r.issues + 1 } else i }

/-- A run's step has issued, and its sequencer goes on. -/
def stepIssued (r : Run) (f n : Nat) (q : Sequencer) (s : State) : State :=
  match runOf s r.id with
  | none => s
  | some u => setRun { u with seqs := u.seqs.set f { numbered r n q with stalledSince := none, admitted := false }, issues := r.issues + 1 } s

/-- A step row: takes the step at which a sequencer stands, if it is of the row's kind. -/
def stepRow (id f : Nat) (pick : Nat → Bool) (eff : Run → Sequencer → Nat → State → StepEnd) (s : State) : State :=
  match runOf s id with
  | none => s
  | some r =>
    match seqOf r f with
    | none => s
    | some q =>
      match stepAt s r f q with
      | none => s
      | some w =>
        if ! pick w || q.wordWait.isSome then s
        else
          let stall := modSeq id f (fun u => { u with stalledSince := some (u.stalledSince.getD (nowUs s)) }) s
          if ! running s r q then (if r.granted && r.stopping.isNone && awaitsFrame s q then stall else s)
          else if regulated s r q w then stall
          else if ! hasRoom q w then s
          else if ! mayIssue q w then stall
          else match eff r q w s with
          | .wait => stall
          | .fault st t => checkEnd id (faultRun id f q.pc st t)
          | .done q1 t => checkEnd id (runAhead id f (stepIssued r f q.pc q1 t))

/-- A step that issues and is at once complete. -/
def passed (q : Sequencer) : Sequencer := afterStep 5 q.pc q

/-! ### Two steps at one tray byte (R214, R242) -/

/-- The tray ranges that a TE or VU step writes. -/
def unitWrites (q : Sequencer) (w : Nat) : List (Nat × Nat) :=
  if opOf w == 0x10 && field w 33 32 == 2 then drainWrites (runStep w)
  else if opOf w == 0x20 && field w 33 32 == 2 then vecRanges w (vecTray q w) else []

/-- The place of a step's write port in Table 5-8, and its unit: of two writes of one byte in one cycle the later stays (R214). -/
def portPlace (w : Nat) : Nat := if opOf w == 0x10 then 32 + field w 19 16 else if opOf w == 0x20 then 48 + field w 19 16 else 64

/-- The unit through whose port a step reads and writes the tray: the tile port serves the tile and the remote steps (Table 5-8). -/
def portUnit (w : Nat) : Option Nat := (queueOf w).map fun u => min 32 u.1

/-- A piece of a tray as it stands. -/
def trayPiece (fr : Frame) (a n : Nat) : TrayPiece := ⟨a, trayRead fr a n, poisonIn fr.trayPoison a n⟩

/-- Puts a piece into a tray. -/
def putPiece (fr : Frame) (p : TrayPiece) : Frame :=
  let u := trayStore p.addr p.bytes false fr
  { u with trayPoison := p.poison.foldl (fun l x => setInsert x l) u.trayPoison }

/-- The bytes that two ranges share. -/
def overlap (p q : Nat × Nat) : Option (Nat × Nat) :=
  let lo := max p.1 q.1
  let hi := min (p.1 + p.2) (q.1 + q.2)
  if lo < hi then some (lo, hi - lo) else none

/-- The incomplete steps of other units of a frame that have written the tray, oldest first, each with when its writes come for
this step: 0 later, 1 in the same cycle, 2 before. No token orders them, so that a free value chooses (R242; DESIGN CHOICE, log
entry 93). -/
def rivals (q : Sequencer) (w : Nat) (s : State) : List (Issued × Nat) :=
  ((q.issued.filter fun i => ! i.wrote.isEmpty && portUnit i.word != portUnit w).zipIdx).map fun p =>
    (p.1, Config.freeAt s.fresh (2 ^ 128 + p.2) % 3)

/-- A tray as a step sees it: a rival's write that comes later, or in the same cycle, has not been made yet (R214).
(DESIGN CHOICE, log entry 93.) -/
def seenFrame (rs : List (Issued × Nat)) (fr : Frame) : Frame :=
  (rs.reverse.filter fun p => p.2 != 2).foldl (fun u p => p.1.wrote.foldl putPiece u) fr

/-- A rival's write stays where both write a byte: it comes later, or in the same cycle through the later port (R214). -/
def rivalStays (w : Nat) (p : Issued × Nat) : Bool := p.2 == 0 || (p.2 == 1 && decide (portPlace w < portPlace p.1.word))

/-- A tray after writes of ranges, with the bytes at which a rival's write stays as they were before (R214). -/
def keepRivals (w : Nat) (rs : List (Issued × Nat)) (own : List (Nat × Nat)) (before after : Frame) : Frame :=
  (rs.filter (rivalStays w)).foldl (fun v p => p.1.wrote.foldl (fun x k =>
    (own.filterMap (overlap (k.addr, k.bytes.length))).foldl (fun y o => putPiece y (trayPiece before o.1 o.2)) x) v) after

/-- A tray after a step: what the step writes, but for the bytes at which a rival's write stays (R214).
(DESIGN CHOICE, log entry 93.) -/
def settleTray (q : Sequencer) (w : Nat) (rs : List (Issued × Nat)) (before after : Frame) : Frame :=
  if rs.isEmpty then after
  else
    let own := unitWrites q w
    let t := keepRivals w rs own before (own.foldl (fun v p => putPiece v (trayPiece after p.1 p.2)) before)
    { after with tray := t.tray, trayPoison := t.trayPoison, traySingle := t.traySingle, codedAt := t.codedAt }

/-- The sequencer after a step has issued to its unit, with what the step writes to the tray. -/
def unitIssued (q : Sequencer) (w : Nat) (fr : Frame) : Sequencer :=
  afterStep 5 q.pc (addIssue q { newIssue q w with wrote := (unitWrites q w).map fun p => trayPiece fr p.1 p.2 })

/-- A unit's work as a step. (DESIGN CHOICE, log entry 32.) -/
def unitStep (work : State → Nat → Frame → UnitEnd) (r : Run) (q : Sequencer) (w : Nat) (s : State) : StepEnd :=
  let fr := frameOf s q.frame
  let rs := rivals q w s
  match work s w (seenFrame rs fr) with
  | .wait => .wait
  | .fault => .fault 0x45 s
  | .works d => .done (unitIssued q w fr) (countWork q.frame r.part { d with frame := settleTray q w rs fr d.frame } s)

/-- Two records are of one issue of a step. -/
def sameIssue (i j : Issued) : Bool := i.seq == j.seq && i.step == j.step

/-- An issue of a step completes: its DONE_TOKEN advances, and the run may be over (R241). (DESIGN CHOICE, log entry 32.) -/
def completeStep (id f : Nat) (k : Issued) (s : State) : State :=
  match (runOf s id).bind fun r => (seqOf r f).map fun q => (r, q) with
  | none => s
  | some (r, q) =>
    match q.issued.find? (sameIssue k) with
    | none => s
    | some i =>
      let s1 := modSeq id f (fun u => { u with issued := u.issued.erase i }) s
      let s2 := if bitAt i.word 14 then setToken id (field i.word 13 8) (tokenOf r (field i.word 13 8) + 1) s1 else s1
      checkEnd id s2

/-- No earlier step of the same engine or vector unit is incomplete, so that steps of one complete in issue order (R241). -/
def firstOfUnit (q : Sequencer) (i : Issued) : Bool :=
  match queueOf i.word with
  | some (u, _) => u ≥ 32 || ((q.issued.find? fun j => (queueOf j.word).map (·.1) == some u) == some i)
  | none => true

end Sys2Proof.Machine
end

