-- ==== Sys2Proof/Machine/AccessOps.lean ====
section
/-! DEFINITION. How the device itself reads and writes tiles for commands and steps, and the requests it masters
through an LD (R54, R247 to R250, R288, R345 to R348). -/

namespace Sys2Proof.Machine

open Sys2Proof

/-! ### A tile that may be read or written now -/

/-- Whether a tile can be accessed. -/
inductive Ready where
  | now
  /-- It is parked, in a flip window or in a commit wait: the access waits. -/
  | late
  /-- Its image, its entry or its directory MD is lost: it reads as poison and takes no write. -/
  | lost
  deriving DecidableEq, Repr

/-- A write of the device waits for a home slot of an empty tile, and is counted once (R64). -/
def waitSlot (who : List Nat) (key : Nat) (s : State) : State :=
  if s.tier.slotWaits.any fun w => w.key == key && w.who == who then s
  else count 0x3020 0x0F (s.setTier { s.tier with slotWaits := s.tier.slotWaits ++ [{ key := key, who := who }] })

/-- A write of the device has waited in vain: it is discarded (R64). -/
def slotGone (s : State) (who : List Nat) (key : Nat) : Bool := s.tier.slotWaits.any fun w => w.key == key && w.who == who && w.late

/-- A write of the device no longer waits. -/
def endWait (who : List Nat) (key : Nat) (s : State) : State :=
  s.setTier { s.tier with slotWaits := s.tier.slotWaits.filter fun w => ! (w.key == key && w.who == who) }

/-- A write of the device to a tile goes on: a tile without a home gets one, or the write waits for a slot (R37, R64). It counts in
the tile's HEAT (R61). -/
def readyHome (who : List Nat) (key : Nat) (s : State) : Option State :=
  (if isHome (tdeOf s key).tier then some s else giveHome key s).map fun u => touchTile key (endWait who key u)

/-- Readies a tile for an access of a master, by the dies it comes from: a touch of a parked extent starts its unpark (R78), and a write
makes an unused extent resident (R37). Over a failed link the access waits (R18). -/
def tileReady (who via : List Nat) (key master : Nat) (isWrite : Bool) (s : State) : Ready × State :=
  let ext := extOf key
  if extGone s ext || imageLost s ext then (.lost, s)
  else if ! diesUp s (via ++ [dirMd s ext]) then (.late, s)
  else match kindOf s ext with
  | 0 => if ! isWrite then (.now, s) else match mapExtent ext s with
    | some t => (.now, t)
    | none => (.late, waitSlot who key s)
  | 2 =>
    let t := requestUnpark { ext := ext, act := 0, master := master, tier := .batten, md := none, cd := none, hint := 0
                             touched := key % 32, waiters := [] } s
    (if imageLost t ext then .lost else .late, t)
  | _ =>
    if (tdeOf s key).state == .parked then (.late, touchUnpark key [] s)
    else if ! diesUp s (via ++ if isWrite then writeDies s key else tileDies s key) then (.late, s)
    else if windowHolds s key || (isWrite && s.tier.parks.any fun p => p.ext == ext && p.committing) then (.late, s)
    else (.now, s)

/-- A master is charged for sectors of a tile in the tier of its home. -/
def chargeTile (master key n : Nat) (s : State) : State := chargeTier master (tdeOf s key).tier n s

/-- How a write of the device has gone. -/
inductive WriteEnd where
  /-- It waits. -/
  | late
  | done
  /-- Its extent's image, entry or directory MD is lost: nothing is written. The status is what a command makes of it (R87, R90). -/
  | lost (status : Nat)
  deriving DecidableEq, Repr

/-- The status of a command that names an extent which is lost (R87, R90). -/
def lostStatus (s : State) (ext : Nat) : Nat := if extGone s ext then 0x22 else 0x20

/-! ### Blocks for readers inside the device -/

/-- A sector as a reader gets it: its bytes, whether it is poisoned, and whether its block is DAMAGED. -/
structure ReadSector where
  bytes : List Byte
  poison : Bool
  damaged : Bool
  deriving DecidableEq, Repr

/-- A sector that cannot be read as data counts as poisoned (R290). -/
def ReadSector.bad (x : ReadSector) : Bool := x.poison || x.damaged

/-- A sector that reads as poison. -/
def poisonSector : ReadSector := ⟨zeros 64, true, false⟩

/-- A tile's block is stored coded and can be asked for. -/
def storedCoded (s : State) (key b : Nat) : Bool :=
  let t := tdeOf s key
  kindOf s (extOf key) != 0 && t.state != .poisoned && ! isDamaged t b && (homeOf t).isSome && blockLen t b != 0

/-- A block that a reader wants has come: false while its tile must land or its decode runs. A coded block is asked for here (R169). -/
def blockCome (who via : List Nat) (master key b : Nat) (s : State) : Bool × State :=
  if (decodedFor s who key b).isSome then (true, s)
  else if decodingFor s who key b then (false, s)
  else match tileReady who via key master false s with
  | (.lost, t) => (true, t)
  | (.late, t) => (false, t)
  | (.now, t) => if storedCoded t key b then (false, askDecode who master key b t) else (true, t)

/-- Reads n sectors from sector i of a block that has come, charged where they are raw. It counts in the tile's HEAT (R61). -/
def blockRead (who : List Nat) (master key b i n : Nat) (s0 : State) : List ReadSector × State :=
  if extGone s0 (extOf key) || imageLost s0 (extOf key) then (List.replicate n poisonSector, s0)
  else
    let pick := fun (l : List (List Byte × Bool)) => (l.drop i).take n
    let s := if kindOf s0 (extOf key) == 0 then s0 else touchTile key s0
    match decodedFor s who key b with
    | some d => match d.data with
      | some raw => ((pick (sectorsOf raw)).map fun x => ⟨x.1, x.2, false⟩, s)
      | none => (List.replicate n ⟨zeros 64, true, true⟩, s)
    | none =>
      let t := tdeOf s key
      let dam := isDamaged t b && t.state != .poisoned
      let r := readBlock key b (if (homeOf t).isSome && t.state != .poisoned && ! dam then chargeTile master key n s else s)
      ((pick r.1).map fun x => ⟨x.1, x.2, dam⟩, r.2)

/-! ### Blocks for program steps (R247, R248) -/

/-- What a LOAD-TILE gets of a block. -/
inductive LoadEnd where
  | late
  | poisoned
  | raw (bytes : List Byte)
  | coded (bytes : List Byte) (len slot gen : Nat)
  deriving DecidableEq, Repr

/-- Deciphers a block of a partition whose first byte lies at a DPA (R476, R477). -/
def decipherBlock (s : State) (part dpa : Nat) (bytes : List Byte) : List Byte :=
  match keysAt s part dpa with
  | none => bytes
  | some _ => (List.range (bytes.length / 64)).flatMap fun i => decipherAt s part (dpa + 64 * i) ((bytes.drop (64 * i)).take 64)

/-- A reader takes what has been decoded for it (R169, R170). -/
def takeDecoded (d : Decoded) (asCode : Bool) (s : State) : LoadEnd × State :=
  let u := forgetReads (· == d.who) s
  match d.data with
  | none => (.poisoned, u)
  | some raw =>
    let n := d.coded.length
    (if asCode then .coded (slice d.coded 0 (ceilDiv n 64 * 64) 0) n d.slot d.gen else .raw raw, u)

/-- Reads a block for a step of a partition: n of its sectors where it is raw, and through the developers of its home where it is coded.
(DESIGN CHOICE, log entry 88.) -/
def loadBlock (who via : List Nat) (part key b dpa n : Nat) (asCode : Bool) (s0 : State) : LoadEnd × State :=
  match decodedFor s0 who key b with
  | some d => takeDecoded d asCode s0
  | none =>
  if decodingFor s0 who key b then (.late, s0)
  else match tileReady who via key (64 + part) false s0 with
  | (.lost, s) => (.poisoned, s)
  | (.late, s) => (.late, s)
  | (.now, s1) =>
    if kindOf s1 (extOf key) == 0 then (.raw (zeros 4096), s1)
    else
      let s := touchTile key s1
      let t := tdeOf s key
      if t.state == .poisoned || isDamaged t b then (.poisoned, s)
      else match homeOf t with
      | none => (.raw (zeros 4096), s)
      | some k =>
        if blockLen t b != 0 then (.late, askDecode who (64 + part) key b s)
        else if hasPoison s t b then (.poisoned, chargeTile (64 + part) key n s)
        else (.raw (decipherBlock s part dpa (memRead s.tier.mem (sectorNo k (64 * b) * 64) 4096)), chargeTile (64 + part) key n s)

/-- A block lands in a tray (R207, R247). -/
def landInTray (a : Nat) (e : LoadEnd) (fr : Frame) : Frame :=
  match e with
  | .raw bytes => trayStore a bytes false fr
  | .coded bytes len slot gen =>
    let u := trayStore a bytes false fr
    { u with codedAt := MapOps.insert a (len, slot, gen) u.codedAt }
  | _ => fr

/-- The tray bytes that a landing block takes. -/
def LoadEnd.size (e : LoadEnd) : Nat :=
  match e with
  | .raw bytes => bytes.length
  | .coded bytes _ _ _ => bytes.length
  | _ => 0

/-- The compute die of a frame, as a die. -/
def frameDie (f : Nat) : Nat := 8 + f / 9

/-- What the blocks of a step have come to: those that still wait, whether poison holds one, and what the tray held where others have
landed. -/
structure Landing where
  waiting : List (Nat × Nat × Nat)
  poisoned : Bool
  wrote : List TrayPiece
  deriving DecidableEq, Repr

/-- The name of a step's access to a block: its run, the place of its issue, and the block. -/
def stepWho (run seq b : Nat) : List Nat := [0, run, seq, b]

/-- Tries the blocks that a LOAD-TILE still waits for. The tile port is the last of Table 5-8, so that of writes in one cycle its own
stays (R214). -/
def loadBlocks (part run seq frame dpa0 : Nat) (asCode : Bool) (w : Nat) (rs : List (Issued × Nat)) (ws : List (Nat × Nat × Nat))
    (s : State) : Landing × State :=
  ws.foldl (fun (a : Landing × State) b =>
    match loadBlock (stepWho run seq b.2.1) [frameDie frame] part b.1 b.2.1 (dpa0 + 4096 * b.2.1) 64 asCode a.2 with
    | (.late, u) => ({ a.1 with waiting := a.1.waiting ++ [b] }, u)
    | (.poisoned, u) => ({ a.1 with waiting := a.1.waiting ++ [b], poisoned := true }, u)
    | (e, u) =>
      let fr := frameOf u frame
      ({ a.1 with wrote := a.1.wrote ++ [trayPiece fr b.2.2 e.size] },
       modFrame frame (fun _ => keepRivals w rs [(b.2.2, e.size)] fr (landInTray b.2.2 e fr)) u)) (⟨[], false, []⟩, s)

/-- The sectors of a tray block with their poison, enciphered where the region is protected (R82, R248). -/
def traySectors (s : State) (part dpa : Nat) (fr : Frame) (a : Nat) : List (Nat × List Byte × Bool) :=
  (List.range 64).map fun i =>
    let bad := trayBad fr (a + 64 * i) 64
    (i, if bad then zeros 64 else encipherAt s part (dpa + 64 * i) (trayRead fr (a + 64 * i) 64), bad)

/-- Writes whole sectors of one block for a master. -/
def writeSectors (who via : List Nat) (master key b : Nat) (secs : List (Nat × List Byte × Bool)) (s0 : State) : WriteEnd × State :=
  if slotGone s0 who key then (.done, endWait who key s0)
  else match tileReady who via key master true s0 with
  | (.lost, s) => (.lost (lostStatus s (extOf key)), s)
  | (.late, s) => (.late, s)
  | (.now, s) =>
    if (tdeOf s key).state == .poisoned then (.done, discardWrites secs.length (endWait who key (touchTile key s)))
    else match readyHome who key s with
    | none => (.late, waitSlot who key s)
    | some u => (.done, writeBlock master key b secs u)

/-- A step carries poison out of its tray (R255). -/
def carryPoison (run : Nat) (bad : Bool) (s : State) : State :=
  if ! bad then s
  else match runOf s run with
    | some r => setRun { r with carriedPoison := true } s
    | none => s

/-- The tile port has read tray bytes for a step of a run: what it read is counted (R214 to R216), and poison is carried (R255). -/
def portRead (run part : Nat) (fr : Frame) (a n : Nat) (s : State) : State :=
  carryPoison run (trayBad fr a n) (countTrayRead fr part a n s)

/-- Tries the block writes that a STORE-TILE still waits for. Each block is read from the tray, by the tile port, when it is written. -/
def storeBlocks (part run seq frame dpa0 : Nat) (rs : List (Issued × Nat)) (ws : List (Nat × Nat × Nat)) (s : State) :
    List (Nat × Nat × Nat) × State :=
  ws.foldl (fun (a : List (Nat × Nat × Nat) × State) b =>
    let fr := seenFrame rs (frameOf a.2 frame)
    let secs := traySectors a.2 part (dpa0 + 4096 * b.2.1) fr b.2.2
    match writeSectors (stepWho run seq b.2.1) [frameDie frame] (64 + part) b.1 b.2.1 secs a.2 with
    | (.late, u) => (a.1 ++ [b], u)
    | (_, u) => (a.1, portRead run part fr b.2.2 4096 u)) ([], s)

/-- The blocks of a tile step: tile key, block and tray address (R235). -/
def stepBlocks (key w a : Nat) : List (Nat × Nat × Nat) :=
  (List.range (field w 111 108 + 1)).map fun i => (key, field w 107 104 + i, a + 4096 * i)

/-- A LOAD-TILE issues (R247): its lines await arrival until all of it has landed (R242). (DESIGN CHOICE, log entry 121.) -/
def loadStep (r : Run) (q : Sequencer) (w : Nat) (s : State) : StepEnd :=
  let t := stepAddr r q w
  let a := stepTray q w
  let n := field w 111 108 + 1
  if ! trayOk a (4096 * n) then .fault 0x45 s
  else if 2 ^ 36 ≤ t || ! canRead s r.part (t / 32) then .fault (goneStatus s r.part (t / 32)) s
  else match devOf s r.part (t / 32) with
  | none => .fault (goneStatus s r.part (t / 32)) s
  | some e =>
    let key := tileKey e (t % 32)
    let g := loadBlocks r.part r.id (r.issues + 1) q.frame (t * 65536) (bitAt w 39) w (rivals q w s) (stepBlocks key w a) s
    let q1 := { q with ahead := q.ahead.filter (· != key)
                       aheadUsed := (if q.ahead.contains key then [key] else []) ++ q.aheadUsed.filter (aheadBusy s) }
    let i := { newIssue q w with
      waiting := g.1.waiting, arrival := some (a / 64, 64 * n), poisoned := g.1.poisoned, key := key, wrote := g.1.wrote }
    .done (afterStep 5 q.pc (addIssue q1 i)) (countPorts r.part g.2)

/-- A STORE-TILE issues (R248). -/
def storeStep (r : Run) (q : Sequencer) (w : Nat) (s : State) : StepEnd :=
  let t := stepAddr r q w
  let a := stepTray q w
  let n := field w 111 108 + 1
  if ! trayOk a (4096 * n) then .fault 0x45 s
  else if 2 ^ 36 ≤ t then .fault 0x12 s
  else match devOf s r.part (t / 32) with
  | none => .fault (goneStatus s r.part (t / 32)) s
  | some e =>
    if ! canWrite s r.part (t / 32) then .fault 0x11 s
    else
      let key := tileKey e (t % 32)
      let g := storeBlocks r.part r.id (r.issues + 1) q.frame (t * 65536) (rivals q w s) (stepBlocks key w a) s
      .done (afterStep 5 q.pc (addIssue q { newIssue q w with waiting := g.1, key := key })) g.2

/-! ### One sector written in part (R259, R288) -/

/-- Writes a sector at a DPA of a partition under byte enables, as a host write does but with no answer: false while it
must wait. -/
def deviceWrite (who via : List Nat) (part master dpa : Nat) (e : BitVec 64) (bytes : List Byte) (poison : Bool) (s0 : State) :
    Bool × State :=
  match dpaKey s0 part dpa with
  | none => (true, s0)
  | some key =>
    if slotGone s0 who key then (true, endWait who key s0)
    else match tileReady who via key master true s0 with
    | (.lost, s) => (true, s)
    | (.late, s) => (false, s)
    | (.now, s1) =>
      let t := tdeOf s1 key
      if t.state == .poisoned then (true, discardWrites 1 (endWait who key (touchTile key s1)))
      else match readyHome who key s1 with
      | none => (false, waitSlot who key s1)
      | some s2 =>
        let i := dpa / 64 % 1024
        let merges := mergesCoded s2 key (i / 64)
        let s3 := rewriteRaw master key (i / 64) s2
        if isDamaged (tdeOf s3 key) (i / 64) then (true, discardWrites 1 s3)
        else if poison || (keysAt s3 part dpa).isNone then (true, storeSectorFor master key i e bytes poison merges s3)
        else
          let old := match homeOf (tdeOf s3 key) with
            | some k => if isHome t.tier then decipherAt s3 part dpa (sectorBytes s3 k i) else zeros 64
            | none => zeros 64
          (true, mergedSector master key i (e != BitVec.allOnes 64) (encipherAt s3 part dpa (mergeBytes e bytes old)) merges s3)

/-- Byte enables of n bytes from byte o of a sector. -/
def enablesOf (o n : Nat) : BitVec 64 := BitVec.ofNat 64 ((2 ^ n - 1) * 2 ^ o)

/-- Writes bytes at a DPA, sector by sector; false once one must wait, with the bytes from there on not written.
Fuel counts sectors. -/
def deviceBytes (who via : List Nat) (part master : Nat) : Nat → Nat → List Byte → Bool → State → Bool × State
  | 0, _, _, _, s => (true, s)
  | n + 1, dpa, bytes, poison, s =>
    if bytes.isEmpty then (true, s)
    else
      let o := dpa % 64
      let k := min (64 - o) bytes.length
      match deviceWrite (who ++ [dpa]) via part master dpa (enablesOf o k) (zeros o ++ bytes.take k) poison s with
      | (false, t) => (false, t)
      | (true, t) => deviceBytes who via part master n (dpa + k) (bytes.drop k) poison t

/-! ### Requests that the device masters (R345 to R347) -/

/-- An LD may master: bound, in D0, not frozen, with Bus Master Enable set (R345). (DEDUCED, log entry 64.) -/
def canMaster (s : State) (i : Nat) : Bool := ! ldFrozen s i && (ldPart s (i / 16) (i % 16)).isSome

/-- The status of a step or copy whose LD cannot master (R250). -/
def masterStatus (s : State) (i : Nat) : Nat := if contained s (i / 16) then 0x31 else 0x30

/-- Pieces of a request: at most `limit` bytes, none across a 4 KiB boundary (R346). Fuel counts pieces. -/
def pieces : Nat → Nat → Nat → Nat → List (Nat × Nat)
  | 0, _, _, _ => []
  | n + 1, limit, addr, len =>
    if len == 0 then []
    else
      let k := min (min limit (4096 - addr % 4096)) len
      (addr, k) :: pieces n limit (addr + k) (len - k)

/-- Writes to host or peer memory; each request carries EP where one of its bytes is poisoned. -/
def busWrite (i addr : Nat) (bytes : List Byte) (bad : Nat → Bool) (s : State) : State :=
  (pieces (bytes.length + 1) (ldOf s i).maxPayload addr bytes.length).foldl (fun u p =>
    let o := p.1 - addr
    emit .busWrite [i / 16, i % 16, p.1 % two64, ofBool ((List.range p.2).any fun j => bad (o + j))] ((bytes.drop o).take p.2) u) s

/-- Tags that a port may have outstanding. -/
def tagLimit (p : Port) : Nat := if p.tags14 then 8192 else 768

/-- Sends one read under a free tag, or leaves it waiting (R347). -/
def sendRead (w : TagWait) (port : Nat) (s : State) : State :=
  let p := portOf s port
  if tagLimit p ≤ p.tags.length || ! p.tagWaits.isEmpty then
    count 0x3090 7 (modPort port (fun q => { q with tagWaits := q.tagWaits ++ [w] }) s)
  else
    let tag := nthFree (p.tags.map (·.1)) 0
    emit .busRead [port, w.ld, tag, w.addr % two64, w.length] []
      (modPort port (fun q => { q with tags := MapOps.insert tag ⟨w.ld, w.part, w.use, w.length, false⟩ q.tags }) s)

/-- A piece of a read's use, o bytes further on. -/
def useAt (u : TagUse) (o : Nat) : TagUse :=
  match u with
  | .step r f n k tray p e => .step r f n k (tray + o) p e
  | .poll r f => .poll r f
  | .append r dpa => .append r (dpa + o)

/-- Reads host or peer memory through an LD. -/
def busRead (i part : Nat) (use : TagUse) (addr len : Nat) (s : State) : State :=
  (pieces (len + 1) (ldOf s i).maxRead addr len).foldl (fun u p =>
    sendRead ⟨i % 16, part, useAt use (p.1 - addr), p.1, p.2⟩ (i / 16) u) s

/-- Reads that wait for a tag go out while tags are free. Fuel counts them. -/
def pumpTags (port : Nat) : Nat → State → State
  | 0, s => s
  | n + 1, s =>
    let p := portOf s port
    match p.tagWaits with
    | [] => s
    | w :: rest =>
      if tagLimit p ≤ p.tags.length then s
      else
        let tag := nthFree (p.tags.map (·.1)) 0
        pumpTags port n (emit .busRead [port, w.ld, tag, w.addr % two64, w.length] []
          (modPort port (fun q => { q with tagWaits := rest, tags := MapOps.insert tag ⟨w.ld, w.part, w.use, w.length, false⟩ q.tags }) s))

/-- A REMOTE-WRITE issues (R249, R250). -/
def remoteWriteStep (r : Run) (q : Sequencer) (w : Nat) (s : State) : StepEnd :=
  let i := r.port * 16 + r.ld
  let a := stepTray q w
  let n := field w 207 192 + 1
  if ! trayOk a n then .fault 0x45 s
  else if ! canMaster s i then .fault (masterStatus s i) s
  else
    let fr := seenFrame (rivals q w s) (frameOf s q.frame)
    .done (afterStep 5 q.pc (addIssue q (newIssue q w)))
      (busWrite i (stepAddr r q w) (trayRead fr a n) (fun o => fr.trayPoison.contains (a + o)) (portRead r.id r.part fr a n s))

/-- A REMOTE-READ issues (R249, R250). -/
def remoteReadStep (r : Run) (f : Nat) (q : Sequencer) (w : Nat) (s : State) : StepEnd :=
  let i := r.port * 16 + r.ld
  let a := stepTray q w
  let n := field w 207 192 + 1
  if ! trayOk a n then .fault 0x45 s
  else if ! canMaster s i then .fault (masterStatus s i) s
  else .done (afterStep 5 q.pc (addIssue q { newIssue q w with toCome := n }))
    (busRead i r.part (.step r.id f q.pc (r.issues + 1) a q.frame (frameOf s q.frame).epoch) (stepAddr r q w) n s)

/-! ### Word WAITs (R243, R244) -/

/-- The word address of a WAIT (Table 6-10). -/
def wordAddr (r : Run) (w : Nat) : Nat :=
  if field w 33 32 == 1 then argOf r (field w 131 128) * 65536 + field w 163 132
  else (argOf r (field w 131 128) + field w 163 132) % two64

/-- What a device word reads as. -/
inductive WordEnd where
  | late
  | unmapped
  | failed
  | word (v : Nat)
  deriving DecidableEq, Repr

/-- Reads the 32-bit word at a DPA for a sequencer of a run. -/
def deviceWord (r : Run) (q : Sequencer) (dpa : Nat) (s : State) : WordEnd × State :=
  let part := r.part
  if 2 ^ 52 ≤ dpa || ! canRead s part (dpa / 2097152) then (.unmapped, s)
  else match dpaKey s part dpa with
  | none => (.unmapped, s)
  | some key =>
    match loadBlock [0, r.id, 0, q.frame] [frameDie q.frame] part key (dpa / 4096 % 16) (dpa / 4096 * 4096) 1 false s with
    | (.late, t) => (.late, t)
    | (.raw bytes, t) => (.word (ofBytes ((bytes.drop (dpa % 4096)).take 4)), t)
    | (_, t) => (.failed, t)

/-- A WAIT on a device word reads it (R244). -/
def deviceWait (r : Run) (q : Sequencer) (w : Nat) (s : State) : StepEnd :=
  let a := wordAddr r w
  match deviceWord r q a s with
  | (.unmapped, t) => .fault (goneStatus t r.part (a / 2097152)) t
  | (.failed, t) => .fault 0x46 t
  | (.late, t) => .done { q with wordWait := some (1, a) } t
  | (.word v, t) =>
    if reached v (waitValue q w) then .done (passed { q with wordWait := none }) t else .done { q with wordWait := some (1, a) } t

/-- A WAIT on a remote word sends its read (R244). -/
def remoteWait (r : Run) (f : Nat) (q : Sequencer) (w : Nat) (s : State) : StepEnd :=
  let i := r.port * 16 + r.ld
  let a := wordAddr r w
  if ! canMaster s i then .fault (masterStatus s i) s
  else .done { q with wordWait := some (2, a) } (busRead i r.part (.poll r.id f) a 4 s)

/-- A poll of this sequencer is outstanding or waits for a tag. -/
def polling (s : State) (r : Run) (f : Nat) : Bool :=
  let p := portOf s r.port
  (p.tags.any fun t => t.2.use == .poll r.id f && ! t.2.quarantined) || p.tagWaits.any fun t => t.use == .poll r.id f

/-- The poll period of a word WAIT ends: the word is read again (R243). -/
def pollAgain (id f : Nat) (s : State) : State :=
  match (runOf s id).bind fun r => (seqOf r f).map fun q => (r, q) with
  | none => s
  | some (r, q) =>
    match q.wordWait, stepAt s r f q with
    | some (mode, _), some w =>
      if ! running s r q || regulated s r q w || polling s r f then s
      else
        match (if mode == 1 then deviceWait r q w s else remoteWait r f q w s) with
        | .wait => s
        | .fault st t => checkEnd id (faultRun id f q.pc st t)
        | .done q1 t => checkEnd id (runAhead id f (setSeq id f
            { q1 with
              stalledSince := if q1.wordWait.isSome then some (q.stalledSince.getD (nowUs s)) else none, admitted := false } t))
    | _, _ => s

/-- A remote word has arrived: the WAIT ends, or waits for its next poll. -/
def wordArrives (id f v : Nat) (s : State) : State :=
  match (runOf s id).bind fun r => (seqOf r f).map fun q => (r, q) with
  | none => s
  | some (r, q) =>
    match q.wordWait, stepAt s r f q with
    | some (2, _), some w =>
      if running s r q && reached v (waitValue q w) then
        checkEnd id (runAhead id f (setSeq id f { passed { q with wordWait := none } with stalledSince := none } s))
      else s
    | _, _ => s

/-! ### Steps that wait and complete -/

/-- Changes the record of an issue. -/
def modIssue (id f : Nat) (i : Issued) (g : Issued → Issued) (s : State) : State :=
  modSeq id f (fun u => { u with issued := u.issued.map fun j => if sameIssue i j then g j else j }) s

/-- Tries what an issued step still waits for: blocks that are late and, on the retry of R247, blocks held by poison. -/
def retryStep (id f : Nat) (i : Issued) (s : State) : State :=
  match (runOf s id).bind fun r => (seqOf r f).map fun q => (r, q) with
  | none => s
  | some (r, q) =>
    match i.waiting.head? with
    | none => s
    | some (key, _, _) =>
      let dpa := match dpaExtOf s r.part (extOf key) with | some x => x * 2097152 + key % 32 * 65536 | none => 0
      let rs := rivals q i.word s
      if i.poisoned && ! canRead s r.part (dpa / 2097152) then faultRun id f i.step (goneStatus s r.part (dpa / 2097152)) s
      else if opOf i.word == 0x01 then
        let g := loadBlocks r.part id i.seq q.frame dpa (bitAt i.word 39) i.word rs i.waiting s
        modIssue id f i (fun j => { j with waiting := g.1.waiting, poisoned := g.1.poisoned, wrote := j.wrote ++ g.1.wrote }) g.2
      else
        let g := storeBlocks r.part id i.seq q.frame dpa rs i.waiting s
        modIssue id f i (fun j => { j with waiting := g.1 }) g.2

/-- The incomplete issues of a step of a frame, oldest first: a loop may have issued it more than once (R246). -/
def issuesOf (s : State) (id f n : Nat) : List (Sequencer × Issued) :=
  match (runOf s id).bind fun r => seqOf r f with
  | none => []
  | some q => (q.issued.filter (·.step == n)).map fun i => (q, i)

/-- The reads of a LOAD-TILE that wait under poison, or other blocks that wait, are tried again, of every issue of a step. -/
def retryIssues (poisoned : Bool) (id f n : Nat) (s : State) : State :=
  (issuesOf s id f n).foldl (fun u p => if p.2.waiting.isEmpty || p.2.poisoned != poisoned then u else retryStep id f p.2 u) s

/-- An issue of a step has done its work, so that it may complete (R241). -/
def workDone (q : Sequencer) (i : Issued) : Bool := i.waiting.isEmpty && i.toCome == 0 && firstOfUnit q i

/-- STEP_COMPLETED: the oldest issue of a step whose work is done completes; those that wait for blocks try them first. -/
def stepDone (id f n : Nat) (s : State) : State :=
  let s1 := retryIssues false id f n s
  match (issuesOf s1 id f n).find? fun p => workDone p.1 p.2 with
  | none => s1
  | some p => completeStep id f p.2 s1

/-! ### Stalls (R253, R254) -/

/-- The code of the tier that a late load waits for (Table 6-13). -/
def lateCause (s : State) (i : Issued) : Nat :=
  if i.poisoned then 4
  else
    let t := tdeOf s i.key
    if kindOf s (extOf i.key) == 2 || t.state == .parked then 3 else if t.tier == .ridge then 1 else 2

/-- The oldest of issued steps. -/
def oldest (l : List Issued) : Option Issued :=
  l.foldl (fun a i => match a with
    | none => some i
    | some b => if i.seq < b.seq then some i else some b) none

/-- The share in thousandths of each µs for which derating withholds the issue of a frame's step: of TE and VU work alone (R225). -/
def withheld (s : State) (w : Nat) : Nat := if opOf w == 0x10 || opOf w == 0x20 then 1000 - s.pkg.fc else 0

/-- The cause of a frame's stall, the first that applies, but for THERMAL, which has its own share of each µs (R225, R253). -/
def stallCause (s : State) (r : Run) (f : Nat) (q : Sequencer) : Nat :=
  let w := (stepAt s r f q).getD 0
  let loads := r.seqs.flatMap fun u => u.issued.filter fun i => opOf i.word == 0x01
  if r.seqs.any (awaitsFrame s) then 7
  else if regulated s r q w then 6
  else if opOf w == 0x30 && field w 33 32 == 0 then
    match oldest (loads.filter fun i => bitAt i.word 14 && field i.word 13 8 == field w 39 34) with
    | some i => lateCause s i
    | none => 5
  else
    match oldest ((q.issued.filter fun i => opOf i.word == 0x01).filter fun i => match i.arrival with
        | some (line, cnt) => (awaited q w).any fun p => p.1 < (line + cnt) * 64 && line * 64 < p.1 + p.2
        | none => false) with
    | some i => lateCause s i
    | none => 5

/-- The stall limit of a frame's step runs out (R254). Whether derating withholds that very cycle is a free value. -/
def stallExpires (id f : Nat) (s : State) : State :=
  match (runOf s id).bind fun r => (seqOf r f).map fun q => (r, q) with
  | none => s
  | some (r, q) =>
    if ! (q.stalledSince.any fun u => decide (u + r.stallLimitUs ≤ nowUs s)) || r.stopping.isSome || ! r.granted then s
    else
      let c0 := stallCause s r f q
      let c := if c0 != 7 && decide (freeValue s % 1000 < withheld s ((stepAt s r f q).getD 0)) then 8 else c0
      stopRun id (if c == 4 then 0x20 else 0x23) (raise 0x0601 (some r.part) c (count 0x3060 3 (used s)))

/-! ### The append of an ATTEND (R259) -/

/-- An append of the same session comes before this run's: appends apply in the order their runs end (R259). -/
def appendWaits (s : State) (r : Run) : Bool :=
  s.cmp.runs.any fun q => q.appending && q.session == r.session && decide (q.turn < r.turn)

/-- Starts the reads of a run's append through its home LD. -/
def startAppend (id : Nat) (s : State) : State :=
  match runOf s id with
  | none => s
  | some r =>
    match r.attend, r.session with
    | some (first, append, _, addr), some h =>
      let i := r.port * 16 + r.ld
      let q := sessOf s h
      let b := bindRow s q.part q.binding
      let n := append * bBytes b
      let layers := min (bGroup b) (bLayers b - first)
      if ! r.appending || r.toCopy != 0 || ! r.copies.isEmpty || appendWaits s r then s
      else if ! canMaster s i then closeRun r (masterStatus s i) s
      else
        (List.range layers).foldl (fun u l =>
          busRead i r.part (.append id ((q.kvBase + (first + l) * q.layerStride) * 2097152 + q.kvTokens * bBytes b)) (addr + l * n) n u)
          (setRun { r with toCopy := layers * n } s)
    | _, _ => s

/-- Writes the pieces of an append that have arrived: those that cannot be written now, and the state after the others (R259, R346). -/
def appendPass (r : Run) (s : State) : List (Nat × List Byte × Bool) × State :=
  r.copies.foldl (fun a c =>
    match deviceBytes [2, r.id] [12 + r.port] r.part (64 + r.part) (c.2.1.length + 1) c.1 c.2.1 c.2.2 a.2 with
    | (true, u) => (a.1, u)
    | (false, u) => (a.1 ++ [c], u)) ([], s)

/-- The status of an append that may not write where its pieces go; 0 where it may. -/
def appendStatus (s : State) (r : Run) : Nat :=
  let mapped := fun (c : Nat × List Byte × Bool) => (rtFind s r.part (c.1 / 2097152)).isSome
  if r.copies.any fun c => goneStatus s r.part (c.1 / 2097152) == 0x13 then 0x13
  else if ! r.copies.all mapped then 0x12
  else if ! (r.copies.all fun c => canWrite s r.part (c.1 / 2097152)) then 0x11 else 0

/-- The pieces of an append that have arrived land as far as their tiles can be written now; once all have, the append is over (R259).
Its writes wait at the admission point while it holds their master, unless the window lets them go (R437). -/
def applyAppend (id : Nat) (go : Bool) (s : State) : State :=
  match runOf s id with
  | none => s
  | some r =>
    match r.attend, r.session with
    | some (_, append, last, _), some h =>
      if ! r.appending || r.copies.isEmpty || (! go && heldMaster s (64 + r.part)) then s
      else if appendStatus s r != 0 then closeRun r (appendStatus s r) s
      else
        let g := appendPass r s
        let r1 := { r with copies := g.1, copyBad := r.copyBad || r.copies.any (·.2.2) }
        if ! g.1.isEmpty || r.toCopy != 0 then setRun r1 g.2
        else if r1.copyBad then closeRun r1 0x20 g.2
        else
          let q := sessOf g.2 h
          closeRun r1 0 (if last then setSessRec h { q with kvTokens := q.kvTokens + append } g.2 else g.2)
    | _, _ => s

/-- The next append of a session that waits for its turn starts. -/
def nextAppend (s : State) : State :=
  (s.cmp.runs.filter fun r => r.appending && r.toCopy == 0 && r.copies.isEmpty).foldl (fun u r => startAppend r.id u) s

end Sys2Proof.Machine
end

