-- ==== Sys2Proof/Machine/RegOps.lean ====
section
/-! DEFINITION. Program images and the registration of programs and weight sets (R228 to R233). -/

namespace Sys2Proof.Machine

open Sys2Proof

/-! ### Steps as registration judges them (R233) -/

/-- The bits that a step may set, by its opcode (Tables 6-5 to 6-10). -/
def stepMask (w : Nat) : Nat :=
  let op := opOf w
  let head := mask 14 0 + mask 19 16
  let mem := mask 37 32 + mask 46 40 + mask 114 48 + mask 152 128 + mask 183 160 + mask 223 192
  if op == 0x01 then head + mem + mask 39 38
  else if op == 0x02 || op == 0x03 || op == 0x40 || op == 0x41 then head + mem
  else if op == 0x10 then
    head + mask 34 32 + mask 120 40 + mask 152 128 + mask 176 160 + mask 216 192 + mask 248 224
  else if op == 0x20 then head + mask 33 32 + mask 77 40 + mask 120 96 + mask 151 128 + mask 184 160
  else if op == 0x30 then head + mask 41 32 + mask 163 64
  else if op == 0x31 then head + mask 38 32 + mask 95 64
  else if op == 0x50 then head + mask 38 32 + mask 127 40
  else head

/-- The opcodes of Table 6-6. -/
def stepOps : List Nat := [0x00, 0x01, 0x02, 0x03, 0x10, 0x20, 0x30, 0x31, 0x40, 0x41, 0x50, 0x5F]

/-- The unit number and DONE_EN of a step are allowed (R234, Table 6-5). -/
def stepHead (w : Nat) : Bool :=
  let op := opOf w
  let u := field w 19 16
  (if op == 0x10 then u ≤ 9 else if op == 0x20 then u ≤ 4 else u == 0)
    && (! bitAt w 14 || ! [0x00, 0x30, 0x31, 0x50, 0x5F].contains op)

/-- The tray fields of a memory step, as far as they are known before it runs. -/
def memFields (w n : Nat) : Bool := field w 152 128 % 64 == 0 && field w 183 160 % 64 == 0 && field w 152 128 + n ≤ trayBytes

/-- The fields of a RUN step hold to Tables 5-6 and 5-3 (R205, R233). (DEDUCED, log entry 30.) -/
def runFields (s : State) (w : Nat) : Bool :=
  let r := runStep w
  if r.mode == 3 then false
  else if r.mode == 2 then
    vuFormat s r.outFmt && r.m * r.n ≤ 131072 && r.acc + r.m * r.n ≤ 131072 && (drainWrites r).all fun p => trayOk p.1 p.2
  else
    r.outFmt == 0 && teInput s r.aFmt && teInput s r.bFmt && runLimits r && (isMx r.aFmt || r.aScale == 0)
      && ((runReads r).all fun p => trayOk p.1 p.2)
      && (! r.coded || (r.k % 128 == 0 && r.n % 64 == 0 && (r.bFmt == 1 || r.bFmt == 2 || (0x20 ≤ r.bFmt && r.bFmt ≤ 0x27))))

/-- A step is one that registration accepts, apart from the nesting of loops. (DEDUCED, log entry 30.) -/
def stepGood (s : State) (w : Nat) : Bool :=
  let op := opOf w
  stepOps.contains op && w &&& stepMask w == w && stepHead w &&
    if op == 0x01 || op == 0x02 then
      decide (field w 107 104 + field w 111 108 ≤ 15) && memFields w (4096 * (field w 111 108 + 1))
    else if op == 0x03 then 1 ≤ field w 114 112 && field w 114 112 ≤ 5 && decide (field w 107 104 + field w 111 108 ≤ 15)
    else if op == 0x40 || op == 0x41 then
      field w 79 48 % 4 == 0 && (field w 207 192 + 1) % 4 == 0 && memFields w (field w 207 192 + 1)
    else if op == 0x10 then runFields s w
    else if op == 0x20 then
      let k := field w 33 32
      k != 3 && (k == 1 || (vuFormat s (field w 47 40) && field w 151 128 % 64 == 0 && (vecRanges w (field w 120 96)).all fun p => trayOk p.1 p.2))
    else if op == 0x30 then field w 33 32 != 3 && field w 163 132 % 4 == 0
    else if op == 0x50 then field w 95 64 != 0
    else true

/-- Loops nest as R246 requires, and END is the last step and no other: steps from number n, with the ends of the
bodies that are open, innermost first, and the number of steps. -/
def nested (total : Nat) : Nat → List Nat → List Nat → Bool
  | _, ends, [] => ends.isEmpty
  | n, ends, w :: ws =>
    let op := opOf w
    let last := n + 1 == total
    let close := fun (es : List Nat) => es.filter (· != n)
    if (op == 0x5F) != last then false
    else if op == 0x50 then
      let e := field w 127 96
      decide (n < e) && decide (e < total) && field w 33 32 == ends.length && decide (ends.length < 4)
        && (match ends with | [] => true | m :: _ => decide (e ≤ m)) && ! ends.contains n && nested total (n + 1) (e :: ends) ws
    else nested total (n + 1) (close ends) ws

/-- What a program image gives. -/
structure Image where
  kind : Nat
  frames : Nat
  oneCd : Bool
  stallLimit : Nat
  streams : List (List Nat)
  deriving DecidableEq, Repr

/-- The steps of a stream. -/
def readSteps (img : List Byte) (off n : Nat) : List Nat :=
  (List.range n).map fun i => ofBytes ((img.drop (off + 32 * i)).take 32)

/-- Two streams overlap. -/
def streamsMeet (a b : Nat × Nat) : Bool := a.1 < b.1 + 32 * b.2 && b.1 < a.1 + 32 * a.2

/-- Reads a program image, if registration accepts it (R233, Tables 6-3 and 6-4). -/
def parseImage (s : State) (img : List Byte) : Option Image :=
  let h := ofBytes (img.take 128)
  let frames := field h 43 38 + 1
  let stall := field h 95 64
  let table := (List.range frames).map fun f =>
    let e := ofBytes ((img.drop (128 + 8 * f)).take 8)
    (field e 31 0, field e 63 32)
  let headOk := field h 31 0 == 0x50479040 && field h 35 32 == 1 && field h 37 36 != 3 && frames ≤ 36
    && (! bitAt h 44 || frames ≤ 9) && field h 63 45 == 0 && (stall == 0 || (100 ≤ stall && stall ≤ 10000000))
    && field h 127 96 == img.length && field h 1023 128 == 0
  let tableOk := table.all fun t => t.1 % 32 == 0 && 128 + 8 * frames ≤ t.1 && 1 ≤ t.2 && t.2 ≤ 2097152 && t.1 + 32 * t.2 ≤ img.length
  let apart := table.zipIdx.all fun a => table.zipIdx.all fun b => a.2 == b.2 || ! streamsMeet a.1 b.1
  if ! (headOk && tableOk && apart) then none
  else
    let streams := table.map fun t => readSteps img t.1 t.2
    if streams.all fun st => st.all (stepGood s) && nested st.length 0 [] st then
      some { kind := field h 37 36, frames := frames, oneCd := bitAt h 44, stallLimit := stall, streams := streams }
    else none

/-! ### Registration (R229 to R232) -/

/-- The registry key of a kind (0 program, 1 weight set) and number. -/
def regKey (kind number : Nat) : Nat := if kind == 0 then number else weightKey number

/-- The highest number of a kind (Table 6-11). -/
def regTop (kind : Nat) : Nat := if kind == 0 then 4095 else 1023

/-- The lowest free number of a kind. -/
def regFree (s : State) (kind : Nat) : Option Nat :=
  (span 1 (regTop kind)).find? fun n => (MapOps.get? (regKey kind n) s.cmp.registry).isNone

/-- RegStatus of a partition. (DEDUCED, log entry 34.) -/
def regStatus (s : State) (part : Nat) : Nat := regObj s part 8 0

/-- A registration command of a partition ends. -/
def regEnds (part status : Nat) (s : State) : State :=
  setRegObj part 8 status (forgetReads (· == [4, part]) (s.setCmp { s.cmp with regJobs := s.cmp.regJobs.filter (·.part != part) }))

/-- Makes extents writable for one partition, and read-only for the others that map them (R232): the lock's count
falls in that partition's rows alone. -/
def ownerRows (part : Nat) (devs : List Nat) (up : Bool) (s : State) : State :=
  mapRows devs (fun r => if rtPart r == part then rtSetLocks r (if up then rtLocks r + 1 else rtLocks r - 1) else r) s

/-- The blocks of a registration: the place of each in the content, with its tile. -/
def regBlocks (s : State) (part first extents length : Nat) : List (Nat × Nat) :=
  (List.range (min (ceilDiv length 4096) (extents * 512))).filterMap fun i =>
    (dpaKey s part (first * 2097152 + 4096 * i)).map fun key => (i, key)

/-- All blocks of a registration have come; those that have not are asked for. -/
def regCome (part first extents length : Nat) (s : State) : Bool × State :=
  (regBlocks s part first extents length).foldl (fun a p =>
    let r := blockCome [4, part] [frameDie 0] (64 + part) p.2 (p.1 % 16) a.2
    (a.1 && r.1, r.2)) (true, s)

/-- The bytes of a registration in DPA order, as plaintext; none while an extent must be unparked or waits, or a block is being decoded.
Poison, a damaged block or a poisoned tile reads as no byte. -/
def regBytes (part first extents length : Nat) (s : State) : Option (List Byte) × State :=
  match regCome part first extents length s with
  | (false, t) => (none, t)
  | (true, t) =>
    let g := (regBlocks t part first extents length).foldl (fun (a : List (List Byte) × State) p =>
      let r := blockRead [4, part] (64 + part) p.2 (p.1 % 16) 0 64 a.2
      (a.1 ++ [if r.1.any (·.bad) then []
               else decipherBlock r.2 part (first * 2097152 + 4096 * p.1) (r.1.flatMap (·.bytes))], r.2)) ([], t)
    (some (g.1.flatten.take length), forgetReads (· == [4, part]) g.2)

/-- Unparks into Batten what is parked of a list of extents, or is being parked (R229, R266). -/
def unparkAll (master : Nat) (devs : List Nat) (s : State) : State :=
  devs.foldl (fun v d => if kindOf v d == 2 || parking v d then
    requestUnpark { ext := d, act := 0, master := master, tier := .batten, md := none, cd := none, hint := 0
                    touched := 0, waiters := [] } v else v) s

/-- A write of 1 to RegCommand (R229 steps 1 and 2, R232). (DEDUCED, log entry 34.) -/
def regStart (part : Nat) (s : State) : State :=
  let kind := regObj s part 1 0
  let number := regObj s part 2 0
  let first := regObj s part 3 0
  let extents := regObj s part 4 1
  let length := regObj s part 5 0
  let digest := toBytes 32 (regObj s part 6 0)
  let old := MapOps.get? (regKey kind number) s.cmp.registry
  let devs := devExts s part first extents
  let start := fun (reload : Bool) (dg : List Byte) (u : State) =>
    setRegObj part 8 1 (u.setCmp { u.cmp with regJobs := u.cmp.regJobs ++
      [{ part := part, kind := kind, number := number, first := first, extents := extents, length := length, digest := dg, reload := reload
         locked := match old with | some e => if reload then e.locked else devs | none => devs }] })
  match old with
  | some e =>
    if kind == 1 && e.state == 2 && e.part == part then
      if e.first == first && e.extents == extents && e.length == length then start true e.digest (ownerRows part e.locked true s)
      else setRegObj part 8 5 s
    else regCheck part kind number first extents length digest devs start s
  | none => regCheck part kind number first extents length digest devs start s
where
  /-- Steps 1 and 2 of a first registration. -/
  regCheck (part kind number first extents length : Nat) (digest : List Byte) (devs : List Nat)
      (start : Bool → List Byte → State → State) (s : State) : State :=
    let sizeOk := 1 ≤ extents && extents ≤ 65536 && 1 ≤ length && length ≤ extents * 2097152
      && (kind != 0 || (256 ≤ length && length ≤ 67108864)) && number ≤ regTop kind
    if ! sizeOk || ! allMapped s part first extents then setRegObj part 8 5 s
    else match lockExts devs s with
      | none => setRegObj part 8 6 s
      | some u =>
        let u1 := if kind == 0 then
            unparkAll (64 + part) devs u
          else u
        start false digest u1

/-- Changes the registration whose digest runs for a partition. -/
def modRegJob (part : Nat) (f : RegJob → RegJob) (s : State) : State :=
  s.setCmp { s.cmp with regJobs := s.cmp.regJobs.map fun j => if j.part == part then f j else j }

/-- The digest of a registration is computed (R229 steps 3 to 6, R232), of a program once none of its extents is parked (R230), unless
the admission point holds its reads (R437). Its registry entry is there from the end of it on. (DESIGN CHOICE, log entry 120.) -/
def regDigest (part : Nat) (s0 : State) : State :=
  match s0.cmp.regJobs.find? (·.part == part) with
  | none => s0
  | some j =>
    if ! j.admitted && heldMaster s0 (64 + part) then s0
    else if j.kind == 0 && (devExts s0 part j.first j.extents).any (fun d => kindOf s0 d == 2 || kindOf s0 d == 3) then s0
    else match regBytes part j.first j.extents j.length s0 with
    | (none, s) => modRegJob part (fun k => { k with admitted := false }) s
    | (some bytes, s) =>
      let devs := j.locked
      let key := regKey j.kind j.number
      if j.reload then
        if bytes.length == j.length && sha256 bytes == j.digest then
          match MapOps.get? key s.cmp.registry with
          | some e =>
            setRegObj part 9 j.number (regEnds part 2 (s.setCmp { s.cmp with registry := MapOps.insert key { e with state := 1 } s.cmp.registry }))
          | none => regEnds part 5 s
        else regEnds part 3 (ownerRows part devs false s)
      else if ! (bytes.length == j.length && sha256 bytes == j.digest) then regEnds part 3 (unlockExts devs s)
      else
        let img := if j.kind == 0 then parseImage s bytes else some ⟨3, 0, false, 0, []⟩
        match img with
        | none => regEnds part 4 (unlockExts devs s)
        | some m =>
          let number := if j.number == 0 then regFree s j.kind else some j.number
          match number with
          | none => regEnds part 6 (unlockExts devs s)
          | some n =>
            if (MapOps.get? (regKey j.kind n) s.cmp.registry).isSome then regEnds part 8 (unlockExts devs s)
            else
              let e : RegEntry :=
                { state := 1, kind := m.kind, part := part, number := n, first := j.first, extents := j.extents
                  length := j.length, locked := j.locked, at_ := calMs s, digest := j.digest, frames := m.frames, oneCd := m.oneCd
                  stallLimit := m.stallLimit, streams := m.streams }
              setRegObj part 9 n (regEnds part 2 (s.setCmp { s.cmp with registry := MapOps.insert (regKey j.kind n) e s.cmp.registry }))

/-- A VALID binding row of a partition names a registration, or a run of the program waits or runs (R232). -/
def regInUse (s : State) (part kind number : Nat) : Bool :=
  let rows := (tableOf s (scalar s 0x2400 3 0x5031)).data
  (rows.any fun p => bitAt p.2 0 && field p.2 6 1 == part
      && (if kind == 0 then bAttend p.2 == number || bRebuild p.2 == number else bWeights p.2 == number))
    || (kind == 0 && s.cmp.runs.any fun r => r.program == number)

/-- Removes a registration and restores the extents' rights. (DEDUCED, log entry 34.) -/
def regRemove (key : Nat) (e : RegEntry) (s : State) : State :=
  let devs := e.locked
  let s1 := s.setCmp { s.cmp with registry := MapOps.erase key s.cmp.registry }
  if e.state == 2 then
    mapRows devs (fun r => if rtPart r == e.part then r else rtSetLocks r (rtLocks r - 1)) s1 |> fun u =>
      u.share.splits.foldl (fun v m => mergeSplit m v) u
  else unlockExts devs s1

/-- A write of 2 to RegCommand (R232). -/
def regUndo (part : Nat) (s : State) : State :=
  let kind := regObj s part 1 0
  let number := regObj s part 2 0
  match MapOps.get? (regKey kind number) s.cmp.registry with
  | none => setRegObj part 8 5 s
  | some e =>
    if e.part != part then setRegObj part 8 5 s
    else if regInUse s part kind number then setRegObj part 8 7 s
    else setRegObj part 8 2 (regRemove (regKey kind number) e s)

/-- A write of 3 to RegCommand (R232). -/
def regReload (part : Nat) (s : State) : State :=
  let number := regObj s part 2 0
  match MapOps.get? (weightKey number) s.cmp.registry with
  | none => setRegObj part 8 5 s
  | some e =>
    if regObj s part 1 0 != 1 || e.part != part || e.state != 1 then setRegObj part 8 5 s
    else
      setRegObj part 8 2 (ownerRows part e.locked false
        (s.setCmp { s.cmp with registry := MapOps.insert (weightKey number) { e with state := 2 } s.cmp.registry }))

/-- The 64 B of a registry entry (Table 6-2). -/
def regBytesOf (e : RegEntry) : List Byte :=
  toBytes 64 (1 + put e.state 2 1 + put e.kind 2 3 + put e.part 6 5 + put e.number 16 16 + put e.first 31 32
    + put e.extents 17 64 + put e.length 64 96 + put e.at_ 48 160 + put (ofBytes e.digest) 256 256)

end Sys2Proof.Machine
end

