-- ==== Sys2Proof/Machine/CheckOps.lean ====
section
/-! DEFINITION. The rights, mapping and protection checks that a descriptor meets at fetch (R274), command by command. An
action of an exposure meets the same checks as the command it names (R308). -/

namespace Sys2Proof.Machine

open Sys2Proof

/-! ### Extents and tiles that a descriptor names -/

/-- First DPA extent and number of extents of a HINT, PARK, UNPARK or DROP by extent. -/
def namedExts (d : Nat) : Nat × Nat := (field d 286 256, field d 307 288 + 1)

/-- First DPA tile and number of tiles of a MOVE, CLAIM or PUBLISH. -/
def namedTiles (d : Nat) : Nat × Nat := (field d 163 128, field d 207 192 + 1)

/-- First DPA extent and number of extents of a range of tiles. -/
def tileExts (first n : Nat) : Nat × Nat := (first / 32, (first + n - 1) / 32 + 1 - first / 32)

/-- The tile keys of a range of DPA tiles, where they are mapped. -/
def tileKeys (s : State) (part first n : Nat) : List Nat :=
  (List.range n).filterMap fun i => (devOf s part ((first + i) / 32)).map fun e => tileKey e ((first + i) % 32)

/-- The first status that is not 0. -/
def firstBad (l : List Nat) : Nat := (l.find? (· != 0)).getD 0

/-- A range of DPA extents as a status of check 3. -/
def mapStatus (s : State) (part first n : Nat) : Nat :=
  if allMapped s part first n then 0
  else if (List.range n).any fun i => goneStatus s part (first + i) == 0x13 then 0x13 else 0x12

/-- A range of DPA bytes that the device reads, as a status of check 3. -/
def readStatus (s : State) (part dpa len : Nat) : Nat :=
  if allReadable s part (extRange dpa len).1 (extRange dpa len).2 then 0
  else firstBad [mapStatus s part (extRange dpa len).1 (extRange dpa len).2, 0x12]

/-! ### Sessions (R96, R100, R101, R124) -/

/-- Whether a descriptor names a session of its sender's (R96, R132). -/
def sessCheck (s : State) (part d : Nat) : Nat :=
  let h := field d 145 128
  if recLost s h then 0x22
  else match MapOps.get? h s.sess.recs with
  | some r => if r.sessionId == field d 255 192 && r.part == part then 0 else 0x11
  | none => 0x11

/-- A binding row that a partition may use (R101). -/
def bindingOk (s : State) (part b : Nat) : Bool := bitAt (bindRow s part b) 0

/-- Every extent of a session is in the protected region of its key, or none is protected (R475). -/
def keysMatch (s : State) (part : Nat) (valid : Bool) (key : Nat) (exts : List Nat) : Bool :=
  exts.all fun e => keyOf s part e == (if valid then some key else none)

/-- The DPA extents of layers from a base: the whole stride of each. -/
def strideExts (base stride layers : Nat) : List Nat := span base (stride * layers)

/-- The DPA extents of a session's layers that a number of tokens fills (R98). -/
def filledExts (s : State) (r : Session) (tokens : Nat) : List Nat :=
  (layersOf s r.part r.binding).flatMap fun l => span (r.kvBase + l * r.layerStride) (layerExtents s r.part r.binding tokens)

/-- Some DPA extent of a list is mapped read-only: what would discard or write it is not permitted (R274 check 2). -/
def someReadOnly (s : State) (part : Nat) (l : List Nat) : Bool := l.any fun e => (rtFind s part e).isSome && ! canWrite s part e

/-- A descriptor that names a session discards its KV: a DROP, a PARK to DROP, or a HINT DROP (R109, R112). -/
def dropsKv (d : Nat) : Bool :=
  let op := field d 7 0
  bitAt d 146 && (op == 0x05 || (op == 0x03 && field d 154 153 == 3) || (op == 0x02 && field d 149 147 == 5))

/-- The DPA extents that the append of an ATTEND writes (R259). -/
def appendExts (s : State) (d : Nat) : List Nat :=
  let r := sessOf s (field d 145 128)
  let b := bindRow s r.part r.binding
  let first := field d 159 152
  let n := field d 175 160 * bBytes b
  if n == 0 then []
  else (List.range (min (bGroup b) (bLayers b - first))).flatMap fun l =>
    let e := extRange ((r.kvBase + (first + l) * r.layerStride) * 2097152 + r.kvTokens * bBytes b) n
    span e.1 e.2

/-- What a command that names a session would write or discard of it is not read-only (R274 check 2). -/
def sessWrites (s : State) (part d : Nat) : Nat :=
  let op := field d 7 0
  let r := sessOf s (field d 145 128)
  let exts := if dropsKv d then filledExts s r r.kvTokens
    else if op == 0x12 then appendExts s d
    else if op == 0x13 then filledExts s r r.logTokens else []
  if someReadOnly s part exts then 0x11 else 0

/-- Checks 2 and 3 of a HINT, PARK, UNPARK or DROP that names a session. -/
def subjectCheck (s : State) (part d : Nat) : Nat := firstBad [sessCheck s part d, sessWrites s part d]

/-- The checks of a BIND (R98 to R103, R124). (DESIGN CHOICE, log entry 21.) -/
def bindCheck (s : State) (part d : Nat) : Nat :=
  let b := field d 166 159
  let row := bindRow s part b
  let kv := strideExts (field d 286 256) (field d 303 288) (bLayers row)
  let log := span (field d 350 320) (field d 319 304)
  let tokens := field d 383 352
  let n := field d 178 167
  if bLayers row * field d 303 288 > 65536 || tokens * bBytes row > field d 303 288 * 2097152
      || field d 415 384 > field d 319 304 * 524288 then 0x10
  else if ! bindingOk s part b then 0x11
  else if ! (kv ++ log).all (fun e => (rtFind s part e).isSome) then 0x11
  else if bitAt d 148 && someReadOnly s part kv then 0x11
  else if ! keysMatch s part (bitAt d 150) (field d 190 179) (kv ++ log) then 0x11
  else if ! bitAt d 149 then 0
  else if pfxLost s n then 0x22
  else match MapOps.get? n s.sess.prefixes with
  | none => 0x11
  | some e =>
    let pr := bindRow s e.part e.binding
    if bLayers pr != bLayers row || bBytes pr != bBytes row || bWeights pr != bWeights row then 0x11
    else if ! (pfxDevs s e).all (fun dev => (dpaExtOf s part dev).isSome) then 0x11
    else if e.ending then 0x13 else 0

/-- The checks of a PREFIX (R123, R279). -/
def prefixCheck (s : State) (part d : Nat) : Nat :=
  let b := field d 166 159
  let row := bindRow s part b
  let tokens := field d 383 352
  let n := layerExtents s part b tokens
  let exts := (List.range (bLayers row)).flatMap fun l => span (field d 286 256 + l * field d 303 288) n
  if bLayers row * field d 303 288 > 65536 || tokens * bBytes row > field d 303 288 * 2097152 then 0x10
  else if ! bindingOk s part b then 0x11
  else if exts.all (fun e => (rtFind s part e).isSome) then 0 else 0x11

/-- The checks of an UPDATE, after its session is known (R102, R475). -/
def updateCheck (s : State) (part d : Nat) : Nat :=
  let r := sessOf s (field d 145 128)
  let m := field d 154 151
  let exts := strideExts r.kvBase r.layerStride (bLayers (bindRow s r.part r.binding)) ++ span r.logBase r.logExtents
  if bitAt m 0 && field d 415 384 > r.logExtents * 524288 then 0x10
  else if bitAt m 3 && ! keysMatch s part (bitAt d 150) (field d 190 179) exts then 0x11
  else 0

/-! ### Hints, parks and drops -/

/-- Extents of a range that a weight set in state REGISTERED occupies (R230). -/
def weightsIn (s : State) (part first n : Nat) : Bool :=
  s.cmp.registry.any fun p => decide (65536 ≤ p.1) && p.2.state == 1 && p.2.part == part && decide (p.2.first < first + n)
    && decide (first < p.2.first + p.2.extents)

/-- Rights of a hint of a code, a PARK (4) or a DROP (5) on a range of extents: what R59 and R230 forbid. -/
def hintRights (s : State) (part first n code : Nat) : Nat :=
  let devs := devExts s part first n
  if code == 5 && (devs.any (fun e => decide (1 < (mappers s e).length)) || weightsIn s part first n || anyReadOnly s part first n)
    then 0x11
  else if decide (3 ≤ code) && devs.any (progHolds s) then 0x11 else 0

/-! ### Publishing (R318) -/

/-- A parked extent's image holds a coded block of a tile. -/
def parkedCoded (s : State) (key : Nat) : Bool :=
  let number := if kindOf s (extOf key) == 2 then (entryOf s (extOf key)).link
    else match s.tier.unparks.find? (·.req.ext == extOf key) with | some u => u.epr | none => lostLink
  let img := imageAt s number
  let h := imageHeader img
  imageFlag h (key % 32) == 0 && (List.range 16).any fun b =>
    imageLen h (16 * (key % 32) + b) != 0 && imageLen h (16 * (key % 32) + b) != 4095

/-- A tile holds a coded block, in its home or in its image. -/
def tileCoded (s : State) (key : Nat) : Bool :=
  if kindOf s (extOf key) == 2 || (tdeOf s key).state == .parked then parkedCoded s key
  else ! (tdeOf s key).blockLen.isEmpty

/-- The share row that a PUBLISH names, where its whole region lies in one. -/
def publishRow (s : State) (part d : Nat) : Option (Nat × Nat) :=
  let t := namedTiles d
  let devs := (List.range (tileExts t.1 t.2).2).map fun i => devOf s part ((tileExts t.1 t.2).1 + i)
  match devs with
  | some e :: _ => match shareFind s e with
    | some q => if devs.all (fun x => match x with | some e => (shareFind s e).map (·.1) == some q.1 | none => false) then some q
                else none
    | none => none
  | _ => none

/-- The region tiles of a PUBLISH. -/
def publishRegion (s : State) (part d : Nat) : List Nat := tileKeys s part (namedTiles d).1 (namedTiles d).2

/-- The staging tiles of a PUBLISH. -/
def publishStaging (s : State) (part d : Nat) : List Nat := tileKeys s part (field d 291 256) (namedTiles d).2

/-- Rights of a PUBLISH (R318). -/
def publishRights (s : State) (part d : Nat) : Nat :=
  let n := (namedTiles d).2
  let st := field d 291 256
  let exts := span (tileExts st n).1 (tileExts st n).2
  let good := fun (e : Nat) => match rtFind s part e, devOf s part e with
    | some (_, r), some dev => rtWrite r && rtLocks r == 0 && ! rtKeyValid r && mappers s dev == [part] && (shareFind s dev).isNone
    | _, _ => false
  match publishRow s part d with
  | none => 0x11
  | some (_, r) =>
    if ! bitAt (field r 191 128) part || ! exts.all good then 0x11
    else if decide ((namedTiles d).1 < st + n) && decide (st < (namedTiles d).1 + n) then 0x11
    else if (publishStaging s part d).any (tileCoded s) then 0x11 else 0

/-! ### Check 2 to check 4 by opcode -/

/-- The DPA ranges that a near-memory command writes: none, or DST. -/
def nearWrites (d : Nat) : List Nat := if field d 7 0 == 0x22 then [] else [field d 179 128]

/-- The DPA ranges that a near-memory command reads. -/
def nearReads (d : Nat) : List Nat :=
  let op := field d 7 0
  if op == 0x20 then [] else if op == 0x21 then [field d 243 192] else [field d 243 192, field d 307 256]

/-- Checks 2 to 4 of R274 for a near-memory command. -/
def nearCheck (s : State) (part d : Nat) : Nat :=
  let len := nearLen d
  let ro := (nearWrites d).any fun a => anyReadOnly s part (extRange a len).1 (extRange a len).2
  let un := (nearWrites d).any (fun a => ! allMapped s part (extRange a len).1 (extRange a len).2)
    || (nearReads d).any fun a => ! allReadable s part (extRange a len).1 (extRange a len).2
  let pr := (nearWrites d ++ nearReads d).any fun a => anyProtected s part (extRange a len).1 (extRange a len).2
  let gone := (nearWrites d ++ nearReads d).any fun a => mapStatus s part (extRange a len).1 (extRange a len).2 == 0x13
  if ro then 0x11 else if gone then 0x13 else if un then 0x12 else if pr then 0x15 else 0

/-- The format and operation of a REDUCE are allowed (R291): a form check. -/
def reduceForm (s : State) (d : Nat) : Bool :=
  let f := field d 367 360
  let op := field d 375 368
  let len := field d 359 320
  if [0x30, 0x31, 0x32].contains op then f == 0
  else [0x01, 0x05, 0x06].contains op && f != 0 && fmtValid s f && (! isMx f || len % 2048 == 0)

/-- Rights of a claim named by a RELEASE (R316). -/
def releaseCheck (s : State) (part d : Nat) : Nat :=
  match MapOps.get? (field d 143 128) s.share.claims with
  | some c => if c.part == part then 0 else 0x11
  | none => 0x11

/-- Rights of an exposure named by ADD, COMMIT or ABORT (R307). -/
def expoCheck (s : State) (part d : Nat) : Nat :=
  match MapOps.get? (field d 143 136) s.share.expos with
  | some e => if e.part == part && ! e.publish then 0 else 0x11
  | none => 0x11

/-- Rights of the program a RUN names (R257): a general program registered to its sender. -/
def runCheck (s : State) (part d : Nat) : Nat :=
  match MapOps.get? (field d 139 128) s.cmp.registry with
  | some e => if e.part == part && e.state == 1 && e.kind == 0 then 0 else 0x11
  | none => 0x11

/-- Rights of the extents that a TESTSTRIP names (R152). -/
def stripCheck (s : State) (part d : Nat) : Nat :=
  let first := field d 158 128
  let n := field d 190 160 + 1 - first
  if ! allMapped s part first n then 0x11 else 0

/-- The status of checks 2 to 4 of R274 for a descriptor of a partition, 0 where it passes. -/
def checkRights (s : State) (part d : Nat) : Nat :=
  let op := field d 7 0
  let by_ := bitAt d 146
  let ex := namedExts d
  let tl := tileExts (namedTiles d).1 (namedTiles d).2
  if op == 0x01 then mapStatus s part tl.1 tl.2
  else if op == 0x02 then
    if by_ then subjectCheck s part d
    else if ! allMapped s part ex.1 ex.2 then 0x11 else hintRights s part ex.1 ex.2 (field d 149 147)
  else if op == 0x03 then
    if by_ then subjectCheck s part d else firstBad [hintRights s part ex.1 ex.2 4, mapStatus s part ex.1 ex.2]
  else if op == 0x04 then if by_ then subjectCheck s part d else mapStatus s part ex.1 ex.2
  else if op == 0x05 then
    if by_ then subjectCheck s part d else firstBad [hintRights s part ex.1 ex.2 5, mapStatus s part ex.1 ex.2]
  else if op == 0x10 then
    let f := field d 147 146
    if f == 0 then bindCheck s part d
    else if f == 1 then firstBad [sessCheck s part d, updateCheck s part d]
    else if f == 2 then sessCheck s part d
    else prefixCheck s part d
  else if op == 0x11 then
    if ! bitAt d 147 then sessCheck s part d
    else if pfxLost s (field d 139 128) then 0x22
    else match MapOps.get? (field d 139 128) s.sess.prefixes with
      | some e => if e.part == part then 0 else 0x11
      | none => 0x11
  else if op == 0x12 then
    firstBad [sessCheck s part d,
      if field d 159 152 < bLayers (bindRow s part (sessOf s (field d 145 128)).binding) then 0 else 0x10, sessWrites s part d]
  else if op == 0x13 then subjectCheck s part d
  else if op == 0x14 then firstBad [runCheck s part d, readStatus s part (field d 243 192) 128]
  else if [0x20, 0x21, 0x22].contains op then nearCheck s part d
  else if op == 0x23 then if reduceForm s d then nearCheck s part d else 0x10
  else if op == 0x24 then mapStatus s part (extRange (field d 243 192) (field d 359 320)).1 (extRange (field d 243 192) (field d 359 320)).2
  else if op == 0x25 then stripCheck s part d
  else if op == 0x30 then
    if anyReadOnly s part tl.1 tl.2 then 0x11 else mapStatus s part tl.1 tl.2
  else if op == 0x31 then releaseCheck s part d
  else if op == 0x32 then publishRights s part d
  else if op == 0x33 then
    let f := field d 129 128
    if f == 0 then 0
    else firstBad [expoCheck s part d, if f == 1 then readStatus s part (field d 243 192) (64 * field d 262 256) else 0]
  else readStatus s part (field d 243 192) 120

end Sys2Proof.Machine
end

