-- ==== Sys2Proof/Machine/ExpoOps.lean ====
section
/-! DEFINITION. Exposures, publishing and claims (chapter 8, R51 to R53, R307 to R322). -/

namespace Sys2Proof.Machine

open Sys2Proof

/-! ### Records -/

/-- An open exposure. -/
def expoOf (s : State) (id : Nat) : Option Expo := MapOps.get? id s.share.expos

/-- Writes an exposure. -/
def setExpo (id : Nat) (e : Expo) (s : State) : State := s.setShare { s.share with expos := MapOps.insert id e s.share.expos }

/-- A number that no open exposure has: which one is a free value (R307). (DESIGN CHOICE, log entry 44.) -/
def freeExpo (s : State) : Option Nat :=
  let taken := s.share.expos.map (·.1)
  if taken.length < 256 then some (nthFree taken (freeValue s % (256 - taken.length))) else none

/-- The open exposures of a partition that count against its 32 (R307, R318). -/
def expoCount (s : State) (part : Nat) : Nat := (s.share.expos.filter fun q => q.2.part == part && ! q.2.publish).length

/-- A fresh exposure. (DESIGN CHOICE, log entry 44.) -/
def newExpo (part ld : Nat) (publish : Bool) (cmd : Option Nat) (now : Nat) : Expo :=
  { part := part, ld := ld, actions := [], stage := 0, publish := publish, cmd := cmd, tries := 0, answers := [], applied := []
    rows := [], waitsRow := false, touchedUs := now }

/-- Bits of an action's body. -/
def Action.bits (a : Action) (hi lo : Nat) : Nat := field a.body hi lo

/-- The objects that an action holds (R309): tiles, a session record, a claim, a bank's slot or a Range Table row, each as a number. -/
def Action.objects (a : Action) : List Nat :=
  if a.opcode == 0x10 then [2 ^ 50 + a.bits 145 128]
  else if a.opcode == 0x31 then [2 ^ 51 + a.bits 143 128]
  else if a.opcode == 0x81 then [2 ^ 52 + a.bits 133 128]
  else if a.opcode == 0x82 then [2 ^ 53 + a.bits 12 0]
  else a.tiles

/-- An object is held by some open exposure. -/
def heldObject (s : State) (o : Nat) : Bool := s.share.expos.any fun q => q.2.actions.any fun a => a.objects.contains o

/-! ### What ADD reads and checks (R308, R309) -/

/-- A sector of a partition as the device reads it for a descriptor or a list: stored bytes and poison, or none while its
tile must land. (DEDUCED, log entry 38.) -/
def listSector (who : List Nat) (part dpa : Nat) (s : State) : Option (List Byte × Bool) × State :=
  match dpaKey s part dpa with
  | none => (some (zeros 64, true), s)
  | some key =>
    match blockCome who [] part key (dpa / 4096 % 16) s with
    | (false, t) => (none, t)
    | (true, t) =>
      let g := blockRead who part key (dpa / 4096 % 16) (dpa / 64 % 64) 1 t
      let x := g.1.headD poisonSector
      (some (x.bytes, x.bad), g.2)

/-- The sectors of a list, in order; none while one of them must land. -/
def listSectors (who : List Nat) (part dpa : Nat) : Nat → State → Option (List (List Byte × Bool)) × State
  | 0, s => (some [], s)
  | n + 1, s =>
    match listSectors who part dpa n s with
    | (none, t) => (none, t)
    | (some l, t) => match listSector who part (dpa + 64 * n) t with
      | (none, u) => (none, u)
      | (some x, u) => (some (l ++ [x]), u)

/-- The status of one entry's checks as a command (R308). -/
def entryCheck (s : State) (part d : Nat) : Nat :=
  let op := field d 7 0
  if field d 127 8 != 0 then 0x10
  else if op == 0x81 then
    if field d 511 144 != 0 then 0x10
    else match activeBank s (field d 133 128) with
      | some k => if (bankOf s k).owner == part && (bankOf s k).gen == field d 143 134 then 0 else 0x11
      | none => 0x11
  else if ! [0x01, 0x20, 0x10, 0x32, 0x31].contains op || ! formOk s d then 0x10
  else if op == 0x10 && field d 147 146 != 1 then 0x10
  else if op == 0x20 && (field d 179 128 % 65536 != 0 || field d 359 320 % 65536 != 0) then 0x10
  else checkRights s part d

/-- The action that an entry stages, with the tiles it holds and those its participants hold. -/
def actionOf (s : State) (part d : Nat) : Action :=
  let op := field d 7 0
  let tiles :=
    if op == 0x01 then tileKeys s part (namedTiles d).1 (namedTiles d).2
    else if op == 0x20 then tileKeys s part (field d 179 128 / 65536) (field d 359 320 / 65536)
    else if op == 0x32 then publishStaging s part d else []
  let region :=
    if op == 0x32 then publishRegion s part d
    else if op == 0x31 then ((MapOps.get? (field d 143 128) s.share.claims).map (·.tiles)).getD [] else []
  { opcode := op, body := d, tiles := tiles, region := region, fills := [] }

/-- A FILL that names a POISONED tile. -/
def fillPoisoned (s : State) (a : Action) : Bool := a.opcode == 0x20 && a.tiles.any fun k => (tdeOf s k).state == .poisoned

/-- An action that names a tile of an extent whose image is lost (R90). (DESIGN CHOICE, log entry 106.) -/
def namesLost (s : State) (a : Action) : Bool :=
  (a.tiles ++ (if a.opcode == 0x32 then a.region else [])).any fun k => imageLost s (extOf k)

/-- Objects that a list of new actions names and that are held already, or twice. -/
def clash (s : State) : List Nat → List Action → Bool
  | _, [] => false
  | seen, a :: as => (a.objects.any fun o => seen.contains o || heldObject s o) || clash s (a.objects ++ seen) as

/-- The status of a whole ADD (R308, R309), 0 where it may be staged. -/
def addCheck (s : State) (e : Expo) (ds : List Nat) : Nat :=
  let bad := firstBad (ds.map (entryCheck s e.part))
  let as := ds.map (actionOf s e.part)
  if bad != 0 then bad
  else if e.actions.length + ds.length > 64 then 0x47
  else if clash s [] as then 0x14
  else if as.any (fun a => fillPoisoned s a || namesLost s a) then 0x20 else 0

/-! ### Staging (Table 8-5) -/

/-- The exposure marks a tile that it holds (Table 2-2), where the tile has a TDE. -/
def markHeld (id key : Nat) (s : State) : State :=
  if (MapOps.get? key s.tier.tdes).isSome then modTde key (fun t => { t with expoHeld := true, expoId := id }) s else s

/-- The exposure no longer holds a tile. -/
def unmark (id key : Nat) (s : State) : State :=
  if (tdeOf s key).expoHeld && (tdeOf s key).expoId == id && (MapOps.get? key s.tier.tdes).isSome then
    modTde key (fun t => { t with expoHeld := false, expoId := 0 }) s else s

/-- A tile of an exposure is staged: its command waits for it no longer. (DESIGN CHOICE, log entry 45.) -/
def stagedTile (id key : Nat) (s : State) : State :=
  match expoOf s id with
  | none => s
  | some e =>
    let s1 := if e.actions.any (fun a => a.tiles.contains key) then markHeld id key s else s
    match e.cmd with | none => s1 | some c => modCmd c (fun q => { q with todo := q.todo.erase key }) s1

/-- Asks for the unpark of an extent for a partition. -/
def unparkFor (ext part : Nat) (tier : Tier) (md : Option Nat) (touched : Nat) (ws : List Waiter) (s : State) : State :=
  requestUnpark { ext := ext, act := 0, master := part, tier := tier, md := md, cd := none, hint := 0, touched := touched
                  waiters := ws } s

/-- The MD that a MOVE's tile goes to (R278). -/
def moveMd (s : State) (d : Nat) (tier : Tier) (t : Tde) : Nat :=
  if bitAt d 212 then (mostFree s tier).getD t.homeMd else field d 211 209

/-- A resident tile lies where a MOVE wants it (R278). -/
def moveInPlace (d : Nat) (t : Tde) : Bool :=
  t.tier == tierOf (field d 208 208) && (bitAt d 212 || t.homeMd == field d 211 209)

/-- A staged move of an exposure is asked for, waits or runs. -/
def asksMove (s : State) (id key : Nat) : Bool :=
  (s.tier.moves.any fun m => m.key == key && m.kind == .staged id)
    || (s.tier.moveQueue ++ s.tier.moveNext).any fun m => m.key == key && m.kind == .staged id

/-- An exposure waits for the unpark of an extent. -/
def waitsUnpark (s : State) (id ext : Nat) : Bool :=
  (s.tier.unparks.any fun u => u.req.ext == ext && u.req.waiters.contains (.expo id))
    || (s.tier.unparkQueue ++ s.tier.deferred).any fun r => r.ext == ext && r.waiters.contains (.expo id)

/-- Stages one tile of a MOVE (R51): a parked extent is unparked first, and the tile moves once the extent is resident; an empty,
poisoned or placed tile is staged as it is. -/
def stageMove (id part : Nat) (a : Action) (key : Nat) (s : State) : State :=
  let ext := extOf key
  let tier := tierOf (field a.body 208 208)
  let md := if bitAt a.body 212 then none else some (field a.body 211 209)
  match kindOf s ext with
  | 0 => stagedTile id key s
  | 1 =>
    let t := tdeOf s key
    let s1 := markHeld id key s
    if ! isHome t.tier || moveInPlace a.body t then stagedTile id key s1
    else if asksMove s id key then s1
    else requestMove { key := key, tier := tier, md := moveMd s a.body tier t, kind := .staged id, hint := 0, master := part
                       evict := none, waiters := [.expo id] } s1
  | _ =>
    let t := tdeOf s key
    if kindOf s ext == 3 && ! parking s ext && t.state != .parked && (! isHome t.tier || moveInPlace a.body t) then stagedTile id key s
    else if waitsUnpark s id ext then s
    else requestUnpark { ext := ext, act := 4, master := part, tier := tier, md := md, cd := none, hint := 0, touched := key % 32, waiters := [.expo id] } s

/-- Stages one tile of a FILL: a new slot in the home's tier and MD, or a Batten slot for an empty tile, written raw with
PATTERN. It waits while the tile is PARKED or no slot is free. -/
def stageFill (id part : Nat) (a : Action) (key : Nat) (s0 : State) : State :=
  let ext := extOf key
  let s1 := if kindOf s0 ext == 0 then (mapExtent ext s0).getD s0 else s0
  let t := tdeOf s1 key
  if kindOf s1 ext == 2 then unparkFor ext part .batten none (key % 32) [] s1
  else if kindOf s1 ext == 0 || t.state == .parked || parking s1 ext then s1
  else
    let place := if isHome t.tier then some (t.tier, t.homeMd) else (battenFor s1 (dirMd s1 ext)).map fun m => (Tier.batten, m)
    match place with
    | none => s1
    | some (tier, md) => match allocSlot s1 tier md (.dest key) with
      | none => s1
      | some (slot, s2) =>
        let pat := toBytes 8 (a.bits 447 384)
        let s3 := chargeTier part tier 1024 (storeRun (slotKey tier md slot) 0 ((List.replicate 8192 pat).flatten) s2)
        let s4 := match expoOf s3 id with
          | none => s3
          | some e => setExpo id { e with actions := e.actions.map fun b =>
              if b.opcode == 0x20 && b.tiles.contains key then { b with fills := b.fills ++ [(key, tier, md, slot)] } else b } s3
        stagedTile id key s4

/-- Stages one staging or region tile of a PUBLISH: its extent is made resident. -/
def stageSwap (id part key : Nat) (s0 : State) : State :=
  let ext := extOf key
  let s1 := if kindOf s0 ext == 0 then (mapExtent ext s0).getD s0 else s0
  if kindOf s1 ext == 1 then stagedTile id key s1
  else if kindOf s1 ext == 2 && ! imageLost s1 ext then unparkFor ext part .batten none (key % 32) [] s1
  else s1

/-! ### Aborting (R313) -/

/-- VERSION of a share row. -/
def shareVersion (s : State) (row : Nat) : Nat := field (tableRow s 0x2130 row) 95 64

/-- The version that a refused publish returns: that of the row it was refused on. -/
def refusedVersion (s : State) (e : Expo) : Nat := ((e.refused.orElse fun _ => e.rows.head?).map (shareVersion s)).getD 0

/-- The moves that an exposure staged of some tiles end, and those that wait are withdrawn. -/
def dropStaged (id : Nat) (keys : List Nat) (s : State) : State :=
  let mine := fun (k : Nat) (kind : MoveKind) => kind == .staged id && keys.contains k
  let s1 := s.setTier { s.tier with
    moveQueue := s.tier.moveQueue.filter fun m => ! mine m.key m.kind
    moveNext := s.tier.moveNext.filter fun m => ! mine m.key m.kind }
  let s2 := (s1.tier.moves.filter fun m => mine m.key m.kind).foldl (fun u m => afterMove m.key (endMove m .aborted u)) s1
  forget (.expo id) s2

/-- The record that a staged SESSION-BIND names is still the session it was staged for (R96, R130). -/
def stagedFor (a : Action) (r : Session) : Bool := r.expoHeld && r.sessionId == a.bits 255 192

/-- Undoes the staging of actions. -/
def unstage (id : Nat) (as : List Action) (s : State) : State :=
  let s1 := as.foldl (fun u a =>
    let u1 := a.fills.foldl (fun v f => freeSlot (slotKey f.2.1 f.2.2.1 f.2.2.2) v) u
    let u2 := a.tiles.foldl (fun v k => unmark id k v) u1
    if a.opcode == 0x10 then
      match MapOps.get? (a.bits 145 128) u2.sess.recs with
      | some r => if stagedFor a r then setSessRec (a.bits 145 128) { r with expoHeld := false } u2 else u2
      | none => u2
    else u2) s
  dropStaged id (as.flatMap (·.tiles)) s1

/-- A move that an ADD stages has ended without being staged: the device does not retry it (R48), so the ADD adds nothing and completes
with the status. (DESIGN CHOICE, log entry 45.) -/
def failAdd (id status : Nat) (s : State) : State :=
  match expoOf s id with
  | none => s
  | some e =>
    let n := e.actions.length - e.adding
    let s1 := setExpo id { e with actions := e.actions.take n, stage := 0, adding := 0, cmd := none, touchedUs := nowUs s }
      (unstage id (e.actions.drop n) s)
    match e.cmd with
    | none => s1
    | some c => completeCmd c status id 0 s1

/-- An exposure aborts (R313); a command that waits on it completes with a status. -/
def abortExpo (id status r0 : Nat) (s : State) : State :=
  match expoOf s id with
  | none => s
  | some e =>
    let s1 := count 0x3080 2 (unstage id e.actions s)
    let s2 := s1.setShare { s1.share with expos := MapOps.erase id s1.share.expos }
    match e.cmd with
    | none => s2
    | some c => completeCmd c status r0 0 (if status == 0x14 then countFor 0x3082 e.part s2 else s2)

/-! ### Staging as a whole -/

/-- Stages one tile of an exposure that is not staged yet; one of an extent whose image is lost ends its command with
POISONED_SOURCE (R90). (DESIGN CHOICE, log entries 45 and 106.) -/
def stageTile (id key : Nat) (s : State) : State :=
  match expoOf s id with
  | none => s
  | some e =>
    match e.actions.find? (fun a => a.tiles.contains key || (a.opcode == 0x32 && a.region.contains key)) with
    | none => s
    | some a =>
      if imageLost s (extOf key) then if e.publish then abortExpo id 0x20 (refusedVersion s e) s else failAdd id 0x20 s
      else if a.opcode == 0x01 then stageMove id e.part a key s
      else if a.opcode == 0x20 then stageFill id e.part a key s
      else stageSwap id e.part key s

/-- Adds actions to an exposure and begins their staging. (DESIGN CHOICE, log entry 45.) -/
def stageActions (id cmd : Nat) (as : List Action) (s : State) : State :=
  match expoOf s id with
  | none => s
  | some e =>
    let keys := dedup (as.flatMap fun a => a.tiles ++ (if a.opcode == 0x32 then a.region else []))
    let s1 := setExpo id { e with actions := e.actions ++ as, stage := 1, cmd := some cmd, adding := as.length, touchedUs := nowUs s } s
    let s2 := modCmd cmd (fun c => { c with todo := keys, started := c.started || ! e.publish }) s1
    let s3 := as.foldl (fun u a =>
      if a.opcode == 0x10 then setSessRec (a.bits 145 128) { sessOf u (a.bits 145 128) with expoHeld := true } u else u) s2
    keys.foldl (fun u k => stageTile id k u) s3

/-! ### Committing (R311) -/

/-- The share rows of an exposure's PUBLISH actions, ascending, each with the versions expected of it. -/
def shareRows (s : State) (e : Expo) : List (Nat × List Nat) :=
  let ps := e.actions.filter (·.opcode == 0x32)
  let rows := ps.foldl (fun l a => match publishRow s e.part a.body with | some q => setInsert q.1 l | none => l) []
  rows.map fun r => (r, (ps.filter fun a => (publishRow s e.part a.body).map (·.1) == some r).map fun a => a.bits 351 320)

/-- A PUBLISH action whose region no longer lies in one share row. -/
def rowGone (s : State) (e : Expo) : Bool := e.actions.any fun a => a.opcode == 0x32 && (publishRow s e.part a.body).isNone

/-- Takes share rows in ascending order (R311 step 2): those taken, whether one is waited for, and the row that refuses. -/
def takeRows (s : State) (id : Nat) : List (Nat × List Nat) → List Nat → List Nat × Bool × Option Nat
  | [], got => (got, false, none)
  | (r, vs) :: rest, got =>
    if s.share.expos.any fun q => q.1 != id && q.2.rows.contains r then (got, true, none)
    else if vs.all (· == shareVersion s r) then takeRows s id rest (got ++ [r])
    else (got ++ [r], false, some r)

/-- The participants of a commit (R311 step 3). (DEDUCED, log entry 46.) -/
def participants (s : State) (e : Expo) : List Participant :=
  let mds := (List.range 8).filter fun m => e.actions.any fun a => (a.tiles ++ a.region).any fun k => dirMd s (extOf k) == m
  let engines := (List.range 8).filter fun m => e.actions.any fun a => a.opcode == 0x10 && a.bits 145 128 % 8 == m
  let banks := if e.actions.any (·.opcode == 0x81) then List.range 8 else []
  let iods := if e.actions.any (·.opcode == 0x82) then List.range 4 else []
  mds.map (fun m => .dirMd (Fin.ofNat 8 m)) ++ engines.map (fun m => .sessionEngine (Fin.ofNat 8 m))
    ++ banks.map (fun m => .bankMd (Fin.ofNat 8 m)) ++ iods.map fun n => .iod (Fin.ofNat 4 n)

/-- The result that a commit returns: EXPO_ID for EXPOSE, the version in force for a PUBLISH command (Table 7-4). -/
def commitResult (s : State) (id : Nat) (e : Expo) : Nat :=
  if e.publish then match e.actions with
    | a :: _ => ((publishRow s e.part a.body).map fun q => shareVersion s q.1).getD 0
    | [] => 0
  else id

/-- A commit is done (R311 step 8). The device's own exposure of a Range Table write has no COMMIT to count (DESIGN CHOICE, log entry 95).
(DEDUCED, log entry 46.) -/
def commitDone (id : Nat) (s : State) : State :=
  match expoOf s id with
  | none => s
  | some e =>
    let s1 := s.setShare { s.share with expos := MapOps.erase id s.share.expos }
    if 256 ≤ id then s1 else
    let s2 := countFor 0x3081 e.part (count 0x3080 1 s1)
    match e.cmd with
    | none => s2
    | some c => completeCmd c 0 (commitResult s id e) 0 s2

/-- Moves of the tiles that an exposure names, other than its own, end before its commit takes effect (R52). -/
def yieldMoves (id : Nat) (e : Expo) (s : State) : State :=
  let keys := e.actions.flatMap fun a => if a.opcode == 0x31 then [] else a.tiles ++ a.region
  (s.tier.moves.filter fun m => keys.contains m.key && m.kind != .staged id).foldl
    (fun u m => afterMove m.key (endMove m .aborted (count 0x3020 4 u))) s

/-- Each share row of an exposure's publishes takes its new version (R319). -/
def newVersions (e : Expo) (s : State) : State :=
  e.rows.foldl (fun u r =>
    setTableRow 0x2130 r (setField (tableRow u 0x2130 r) 95 64 ((shareVersion u r + 1) % 2 ^ 32)) u) s

/-- The engine sends APPLY (R311 step 7): from here the commit completes whatever happens. -/
def commitPoint (id : Nat) (s : State) : State :=
  match expoOf s id with
  | none => s
  | some e =>
    let s1 := setExpo id { e with stage := 3 } (yieldMoves id e s)
    if (participants s e).isEmpty then commitDone id s1 else s1

/-- The SHEET payloads of an exposure's record: persisted banks whose change must be written first (R149, R311 step 6). -/
def recordSheets (s : State) (e : Expo) : List (Nat × Nat × Nat) :=
  if ! underlayUp s then []
  else e.actions.filterMap fun a =>
    if a.opcode == 0x81 then (activeBank s (a.bits 133 128)).bind fun k =>
      if (bankOf s k).persisted then some (k / 2, k % 2, 3) else none
    else none

/-- Every participant is READY: the record of step 6 is formed, or the commit point is reached. -/
def allReady (id : Nat) (e : Expo) (s : State) : State :=
  let sheets := recordSheets s e
  if sheets.isEmpty then commitPoint id s
  else formRecord (.exposure id sheets) (setExpo id { e with stage := 5 } s)

/-- A refusal (R311 step 4): a refused publish is counted and returns the row's version. -/
def refuse (id r0 : Nat) (publish : Bool) (s : State) : State :=
  abortExpo id 0x14 r0 (if publish then count 0x3080 4 s else s)

/-- Sends PREPARE to every participant (R311 step 3), or goes on at once where there is none. -/
def sendPrepare (id : Nat) (s : State) : State :=
  match expoOf s id with
  | none => s
  | some e =>
    let ps := participants s e
    let e1 := { e with stage := 2, answers := ps.map (fun p => (p, 0)), applied := [], refused := none }
    if ps.isEmpty then allReady id e1 (setExpo id e1 s) else setExpo id e1 s

/-- A commit takes its share rows and sends PREPARE (R311 steps 2 and 3). -/
def takeAndPrepare (id : Nat) (s : State) : State :=
  match expoOf s id with
  | none => s
  | some e =>
    let g := takeRows s id (shareRows s e) []
    let s1 := setExpo id { e with rows := g.1, waitsRow := g.2.1 } s
    if rowGone s e then refuse id 0 true s1
    else if g.2.1 then s1
    else match g.2.2 with
    | some r => refuse id (shareVersion s r) true s1
    | none => sendPrepare id s1

/-- A commit begins (R311 step 1). -/
def beginCommit (id cmd : Nat) (s : State) : State :=
  match expoOf s id with
  | none => s
  | some e =>
    takeAndPrepare id (markStarted cmd
      (setExpo id { e with stage := 2, cmd := some cmd, tries := 0, answers := [], applied := [], touchedUs := nowUs s } s))

/-- Commits that wait for a share row go on once it is free. -/
def retryRows (s : State) : State :=
  s.share.expos.foldl (fun u q => if q.2.waitsRow then takeAndPrepare q.1 u else u) s

/-- A region tile is claimed under a claim that the exposure does not release (R319). -/
def claimedElsewhere (s : State) (e : Expo) (key : Nat) : Bool :=
  (tdeOf s key).claimed && ! e.actions.any fun a => a.opcode == 0x31 && a.region.contains key

/-- What a participant answers to PREPARE: 1 READY, 2 REFUSE, 3 BUSY (R311 step 3, R319). -/
def prepareAnswer (s : State) (e : Expo) (w : Participant) : Nat :=
  match w with
  | .dirMd m =>
    let pubs := e.actions.filter (·.opcode == 0x32)
    let mine := fun (k : Nat) => dirMd s (extOf k) == m.val
    if pubs.any fun a => a.region.any fun k => mine k && (claimedElsewhere s e k || heldObject s k) then 2
    else if pubs.any fun a => (a.tiles ++ a.region).any fun k => mine k && kindOf s (extOf k) != 1 then 3
    else 1
  | _ => 1

/-- The share row of the publish that a directory MD refuses (R319). -/
def refusedRow (s : State) (e : Expo) (w : Participant) : Option Nat :=
  match w with
  | .dirMd m =>
    let bad := fun (k : Nat) => dirMd s (extOf k) == m.val && (claimedElsewhere s e k || heldObject s k)
    ((e.actions.filter (·.opcode == 0x32)).find? fun a => a.region.any bad).bind fun a =>
      (publishRow s e.part a.body).map (·.1)
  | _ => none

/-- A participant answers. -/
def answer (id : Nat) (w : Participant) (a : Nat) (s : State) : State :=
  match expoOf s id with
  | none => s
  | some e =>
    if e.stage == 2 && ! e.waitsRow && e.answers.contains (w, 0) then
      setExpo id { e with answers := e.answers.map fun q => if q.1 == w then (w, a) else q } s
    else s

/-- The last answer is in (R311 steps 4 to 6). -/
def answersIn (id : Nat) (s : State) : State :=
  match expoOf s id with
  | none => s
  | some e =>
    if e.stage != 2 || e.waitsRow || e.answers.isEmpty || e.answers.any (fun q => q.2 == 0) then s
    else if e.answers.any (fun q => q.2 == 2) then
      refuse id (if e.rows.isEmpty then 0 else refusedVersion s e) (! e.rows.isEmpty) s
    else if e.answers.any (fun q => q.2 == 3) then
      let s1 := setExpo id { e with stage := 4, answers := [], tries := e.tries + 1 } s
      if e.tries + 1 < 4 then count 0x3080 3 s1
      else if e.publish then abortExpo id 0x25 (refusedVersion s e) s1
      else
        let s2 := setExpo id { e with stage := 0, answers := [], tries := 0, rows := [], cmd := none, touchedUs := nowUs s } s1
        match e.cmd with | some c => completeCmd c 0x25 id 0 s2 | none => s2
    else allReady id e s

/-! ### Applying (R311 step 7) -/

/-- A staged move flips (R44 step 5). -/
def applyMove (id key : Nat) (s : State) : State :=
  match moveOf s key with
  | some m => if m.kind == .staged id && m.ready then afterMove key (flipMove m s) else s
  | none => s

/-- A FILL's tile flips to its new slot (Table 8-5), while an unpark still lands other tiles of its extent too. -/
def applyFill (f : Nat × Tier × Nat × Nat) (s : State) : State :=
  let key := f.1
  let t := tdeOf s key
  let k := slotKey f.2.1 f.2.2.1 f.2.2.2
  if t.state == .poisoned || t.state == .parked || (kindOf s (extOf key) != 1 && kindOf s (extOf key) != 3) then freeSlot k s
  else
    let s1 := match homeOf t with | some o => releaseSlot o s | none => s
    let s2 := s1.setTier { s1.tier with slots := MapOps.insert k (.home key) s1.tier.slots }
    let s3 := setTde key { t with
      state := .resident, tier := f.2.1, homeMd := f.2.2.1, homeSlot := f.2.2.2, flipGen := (t.flipGen + 1) % 256
      poisonMap := 0, damageMap := 0, blockLen := [], sheetSlot := 0, sheetGen := 0 } s2
    dropDamHeld (fun h => h.key == key) (storedDown t.sheetSlot t.sheetGen t.blockLen.length s3)

/-- A TDE with the home and content fields of its partner (R53). -/
def swapped (a b : Tde) : Tde :=
  { a with tier := b.tier, homeMd := b.homeMd, homeSlot := b.homeSlot, state := b.state, poisonMap := b.poisonMap
           damageMap := b.damageMap, blockLen := b.blockLen, sheetSlot := b.sheetSlot, sheetGen := b.sheetGen
           flipGen := (a.flipGen + 1) % 256 }

/-- A slot is the home of another tile. -/
def rehome (t : Tde) (key : Nat) (s : State) : State :=
  match homeOf t with
  | some k => s.setTier { s.tier with slots := MapOps.insert k (.home key) s.tier.slots }
  | none => s

/-- A region tile and its staging tile exchange homes (R53). -/
def swapTiles (a b : Nat) (s : State) : State :=
  let ta := tdeOf s a
  let tb := tdeOf s b
  let s1 := setTde b (swapped tb ta) (setTde a (swapped ta tb) s)
  dropDamHeld (fun h => h.key == a || h.key == b) (rehome ta b (rehome tb a s1))

/-- The held fields of an update are written (R102, Table 8-5). -/
def updateRecord (d : Nat) (r : Session) : Session :=
  let m := field d 154 151
  { r with
    logTokens := if bitAt m 0 then field d 415 384 else r.logTokens
    cls := if bitAt m 1 then field d 158 155 else r.cls
    userTag := if bitAt m 2 then field d 511 448 else r.userTag
    keyValid := if bitAt m 3 then bitAt d 150 else r.keyValid
    jobKey := if bitAt m 3 then field d 190 179 else r.jobKey }

/-- A claim's tiles are no longer claimed. -/
def unclaim (keys : List Nat) (s : State) : State :=
  keys.foldl (fun u k =>
    if (MapOps.get? k u.tier.tdes).isSome then modTde k (fun t => { t with claimed := false }) u else u) s

/-- A claim is released (R316). -/
def releaseClaim (id : Nat) (s : State) : State :=
  match MapOps.get? id s.share.claims with
  | none => s
  | some c => unclaim c.tiles (s.setShare { s.share with claims := MapOps.erase id s.share.claims })

/-- A directory MD applies its part of one action. -/
def applyDir (id m : Nat) (a : Action) (s : State) : State :=
  let mine := fun (k : Nat) => dirMd s (extOf k) == m
  let s1 :=
    if a.opcode == 0x01 then (a.tiles.filter mine).foldl (fun u k => applyMove id k u) s
    else if a.opcode == 0x20 then (a.fills.filter fun f => mine f.1).foldl (fun u f => applyFill f u) s
    else if a.opcode == 0x32 then ((a.region.zip a.tiles).filter fun q => mine q.1).foldl (fun u q => swapTiles q.1 q.2 u) s
    else if a.opcode == 0x31 then
      unclaim (a.region.filter mine) (s.setShare { s.share with claims := MapOps.erase (a.bits 143 128) s.share.claims })
    else s
  (a.tiles.filter mine).foldl (fun u k => unmark id k u) s1

/-- A session-service engine applies its part of one action. -/
def applySession (m : Nat) (a : Action) (s : State) : State :=
  let h := a.bits 145 128
  if a.opcode == 0x10 && h % 8 == m then
    match MapOps.get? h s.sess.recs with
    | some r => if stagedFor a r then setSessRec h { updateRecord a.body r with expoHeld := false } s else s
    | none => s
  else s

/-- The banks of an exposure's SHEET-RETIRE actions change once (Table 8-5): ACTIVE becomes RETIRING. -/
def applyBank (a : Action) (s : State) : State :=
  if a.opcode != 0x81 then s
  else match activeBank s (a.bits 133 128) with
    | some k =>
      let b := bankOf s k
      if b.gen == a.bits 143 134 then retireCheck k (setBank k { b with state := 3, persisted := b.persisted && underlayUp s } s)
      else s
    | none => s

/-- A row of the Range Table is written (Table 8-5). -/
def applyRange (a : Action) (s : State) : State :=
  if a.opcode == 0x82 then setTableRow 0x2120 (a.bits 12 0) (a.bits 255 128) s else s

/-- What a participant writes at APPLY: its objects, and with the first of them the versions of the share rows (R311 step 7, R319). -/
def applyObjects (id : Nat) (e : Expo) (w : Participant) (s0 : State) : State :=
  let s := if e.applied.isEmpty then newVersions e s0 else s0
  match w with
  | .dirMd m => e.actions.foldl (fun u a => applyDir id m.val a u) s
  | .sessionEngine m => e.actions.foldl (fun u a => applySession m.val a u) s
  | .bankMd _ => e.actions.foldl (fun u a => applyBank a u) s
  | .iod _ => e.actions.foldl (fun u a => applyRange a u) s

/-- The device as a diagnostic read sees it while commits apply: each held object as its participant will have written it, since the
read of a held object is answered once the hold is released (R311, R312). -/
def commitView (s : State) : State :=
  s.share.expos.foldl (fun u q =>
    if q.2.stage != 3 then u
    else ((q.2.answers.map (·.1)).filter fun w => ! q.2.applied.contains w).foldl (fun (a : Expo × State) w =>
      ({ a.1 with applied := a.1.applied ++ [w] }, applyObjects q.1 a.1 w a.2)) (q.2, u) |>.2) s

/-- A participant applies its objects and releases its holds; the last one completes the commit. -/
def applyAt (id : Nat) (w : Participant) (s : State) : State :=
  match expoOf s id with
  | none => s
  | some e =>
    if e.stage != 3 || ! (e.answers.any fun q => q.1 == w) || e.applied.contains w then s
    else
      let s1 := applyObjects id e w s
      let e1 := { e with applied := e.applied ++ [w] }
      let s2 := setExpo id e1 s1
      if e1.answers.all (fun q => e1.applied.contains q.1) then commitDone id s2 else s2

/-- The staging of an exposure goes on: a FILL waits for a slot, a PUBLISH for its extents. Once all is staged, an ADD
completes and a PUBLISH command commits. -/
def pumpExpo (id : Nat) (s : State) : State :=
  match expoOf s id with
  | none => s
  | some e =>
    if e.stage != 1 then s
    else match e.cmd with
    | none => s
    | some c =>
      let todo := match cmdOf s c with | some q => q.todo | none => []
      let slow := todo.filter fun k => e.actions.any fun a => a.opcode != 0x01 && (a.tiles.contains k || a.region.contains k)
      let s1 := slow.foldl (fun u k => stageTile id k u) s
      let done := match cmdOf s1 c with | some q => q.todo.isEmpty | none => true
      if ! done then s1
      else if e.publish then beginCommit id c s1
      else match expoOf s1 id with
        | none => s1
        | some e1 => completeCmd c 0 id 0 (setExpo id { e1 with stage := 0, adding := 0, cmd := none, touchedUs := nowUs s1 } s1)

/-- Everything that exposures wait for is looked at again. -/
def pumpExpos (s : State) : State :=
  retryRows (s.share.expos.foldl (fun u q => pumpExpo q.1 u) s)

/-- A tile or extent of an exposure's staging has ended. A move that did not reach its clean flip window fails the ADD (R48). -/
def expoNotice (id : Nat) (n : Notice) (s : State) : State :=
  match expoOf s id with
  | none => s
  | some e =>
    if e.stage != 1 then s
    else match e.cmd.bind (cmdOf s) with
    | none => s
    | some c =>
      let keys := if n.subject < 2 ^ 40 then [n.subject] else c.todo.filter fun k => extOf k == n.subject - 2 ^ 40
      let mine := keys.filter c.todo.contains
      match n.ending with
      | .done => if n.subject < 2 ^ 40 then mine.foldl (fun u k => stagedTile id k u) s
                 else mine.foldl (fun u k => stageTile id k u) s
      | .poisoned => if n.subject < 2 ^ 40 then mine.foldl (fun u k => stagedTile id k u) s
                     else mine.foldl (fun u k => stageTile id k u) s
      | x =>
        if n.subject < 2 ^ 40 && ! mine.isEmpty && ! e.publish then failAdd id (if x == .failed then 0x22 else 0x25) s
        else mine.foldl (fun u k => stageTile id k u) s

/-! ### The commands -/

/-- EXPOSE OPEN (R307). -/
def exposeOpen (id : Nat) (c : Cmd) (s : State) : State :=
  match freeExpo s with
  | none => completeCmd id 0x47 0 0 s
  | some n =>
    if expoCount s c.part ≥ 32 then completeCmd id 0x47 0 0 s
    else completeCmd id 0 n 0 (used (setExpo n (newExpo c.part (c.ring / 64) false none (nowUs s)) (markStarted id s)))

/-- EXPOSE ADD (R308, R309). It waits while its list must land or an earlier ADD is being staged. -/
def exposeAdd (id : Nat) (c : Cmd) (s : State) : State :=
  let n := c.bits 143 136
  let again := modCmd id (fun q => { q with begun := false })
  match expoOf s n with
  | none => completeCmd id 0x11 0 0 s
  | some e =>
    if e.part != c.part || e.publish then completeCmd id 0x11 0 0 s
    else if e.stage ≥ 2 then completeCmd id 0x14 n 0 (countFor 0x3082 c.part s)
    else if e.stage == 1 then again s
    else match listSectors [1, id] c.part (c.bits 243 192) (c.bits 262 256) s with
    | (none, t) => again t
    | (some l, t) =>
      if l.any (·.2) then completeCmd id 0x20 n 0 t
      else
        let ds := l.map fun q => ofBytes q.1
        let bad := addCheck t e ds
        if bad == 0x14 then completeCmd id bad n 0 (countFor 0x3082 c.part t)
        else if bad != 0 then completeCmd id bad n 0 t
        else pumpExpo n (stageActions n id (ds.map (actionOf t e.part)) t)

/-- EXPOSE COMMIT (R311). It waits while an ADD is being staged. (DEDUCED, log entry 46.) -/
def exposeCommit (id : Nat) (c : Cmd) (s : State) : State :=
  let n := c.bits 143 136
  match expoOf s n with
  | none => completeCmd id 0x11 0 0 s
  | some e =>
    if e.part != c.part || e.publish then completeCmd id 0x11 0 0 s
    else if e.stage ≥ 2 then completeCmd id 0x14 n 0 (countFor 0x3082 c.part s)
    else if e.stage == 1 then modCmd id (fun q => { q with begun := false }) s
    else beginCommit n id s

/-- EXPOSE ABORT (R313). -/
def exposeAbort (id : Nat) (c : Cmd) (s : State) : State :=
  let n := c.bits 143 136
  match expoOf s n with
  | none => completeCmd id 0x11 0 0 s
  | some e =>
    if e.part != c.part || e.publish then completeCmd id 0x11 0 0 s
    else if e.stage ≥ 2 then completeCmd id 0x14 n 0 s
    else completeCmd id 0 n 0 (abortExpo n 0x25 n (markStarted id s))

/-- PUBLISH (R318): it waits for a free number, then stages its one action. -/
def publishStart (id : Nat) (c : Cmd) (s : State) : State :=
  match freeExpo s with
  | none => modCmd id (fun q => { q with begun := false }) s
  | some n =>
    let bad := publishRights s c.part c.desc
    let a := actionOf s c.part c.desc
    if bad != 0 then completeCmd id bad 0 0 s
    else if namesLost s a then completeCmd id 0x20 (((publishRow s c.part c.desc).map fun q => shareVersion s q.1).getD 0) 0 s
    else if clash s [] [a] then completeCmd id 0x14 (((publishRow s c.part c.desc).map fun q => shareVersion s q.1).getD 0) 0
      (countFor 0x3082 c.part s)
    else
      let s1 := used (setExpo n (newExpo c.part (c.ring / 64) true (some id) (nowUs s)) s)
      pumpExpo n (stageActions n id [a] s1)

/-! ### Claims (R315 to R317) -/

/-- The tiles of a claim that still wait to be marked: their extent is parked, or is being parked and comes back after that (R315). -/
def claimTile (key part : Nat) (s0 : State) : State × Bool :=
  let ext := extOf key
  let s := if kindOf s0 ext == 0 then (mapExtent ext s0).getD s0 else s0
  match kindOf s ext with
  | 0 => (s, false)
  | 2 => (unparkFor ext part .batten none (key % 32) [] s, false)
  | k =>
    if k == 3 && parking s ext then
      (if s.tier.deferred.any (·.ext == ext) then s else unparkFor ext part .batten none (key % 32) [] s, false)
    else (modTde key (fun t => { t with claimed := true }) s, true)

/-- A claim goes on marking its tiles, and completes once all are marked; one that its host's death has released meanwhile completes
with ABORTED, and one that names an extent whose image is lost ends with POISONED_SOURCE and grants no claim (R90). (DEDUCED, log entry
46. DESIGN CHOICE, log entry 106.) -/
def pumpClaim (id : Nat) (s : State) : State :=
  match cmdOf s id with
  | none => s
  | some c =>
    if c.op != 0x30 || ! c.begun then s
    else if (MapOps.get? c.result0 s.share.claims).isNone then completeCmd id 0x25 0 0 s
    else
      let g := c.todo.foldl (fun (a : State × List Nat) k =>
        let h := claimTile k c.part a.1
        (h.1, if h.2 then a.2 else a.2 ++ [k])) (s, [])
      if c.todo.any fun k => imageLost g.1 (extOf k) then completeCmd id 0x20 0 0 (releaseClaim c.result0 g.1)
      else if g.2.isEmpty then completeCmd id 0 c.result0 0 g.1 else modCmd id (fun q => { q with todo := g.2 }) g.1

/-- Claims that wait are looked at again. -/
def pumpClaims (s : State) : State := s.queue.cmds.foldl (fun u q => if q.2.op == 0x30 then pumpClaim q.1 u else u) s

/-- CLAIM (R315). Which number it gets is a free value. (DESIGN CHOICE, log entry 44.) -/
def claimStart (id : Nat) (c : Cmd) (s : State) : State :=
  let keys := tileKeys s c.part (namedTiles c.desc).1 (namedTiles c.desc).2
  let taken := s.share.claims.map (·.1)
  if s.share.claims.any fun q => q.2.tiles.any keys.contains then
    completeCmd id 0x14 0 0 (countFor 0x3082 c.part (count 0x3080 5 s))
  else if keys.any fun k => imageLost s (extOf k) then completeCmd id 0x20 0 0 s
  else if taken.length ≥ 16384 || (s.share.claims.filter fun q => q.2.part == c.part).length ≥ 1024 then completeCmd id 0x48 0 0 s
  else
    let n := nthFree taken (freeValue s % (65536 - taken.length))
    let s1 := used (s.setShare { s.share with
      claims := MapOps.insert n { part := c.part, ld := c.ring / 64, tiles := keys, dying := none } s.share.claims })
    pumpClaim id (modCmd id (fun q => { q with started := true, todo := keys, result0 := n }) s1)

/-- RELEASE (R316). -/
def releaseStart (id : Nat) (c : Cmd) (s : State) : State :=
  let n := c.bits 143 128
  match MapOps.get? n s.share.claims with
  | none => completeCmd id 0x11 0 0 s
  | some q =>
    if q.part != c.part then completeCmd id 0x11 0 0 s
    else if q.dying.isSome || heldObject s (2 ^ 51 + n) then completeCmd id 0x14 0 0 s
    else completeCmd id 0 0 0 (releaseClaim n (markStarted id s))

/-! ### The death of a host (R321, R322) -/

/-- Writes poison into every sector of a tile (R322): an empty tile gets a home first. -/
def poisonClaimed (part key : Nat) (s : State) : State × Bool :=
  let ext := extOf key
  if kindOf s ext != 1 && kindOf s ext != 3 then (s, imageLost s ext || kindOf s ext == 0)
  else
    let t := tdeOf s key
    if t.state == .poisoned then (s, true)
    else if t.state == .parked then (s, false)
    else
      let s1 := if isHome t.tier then some s else giveHome key s
      match s1 with
      | none => (s, false)
      | some u => (chargeWrite part key 1024 (count 0x3080 6 ((List.range 16).foldl (fun v b => writeWhole key b allPoison v) u)), true)

/-- The next tile of a dying claim is poisoned; after the last, the claim is released and HOST_DEAD raised (R322). -/
def claimPoisonNext (id : Nat) (s : State) : State :=
  match MapOps.get? id s.share.claims with
  | none => s
  | some c => match c.dying with
    | none => s
    | some [] => releaseClaim id s
    | some (k :: rest) =>
      let g := poisonClaimed c.part k s
      if ! g.2 then s
      else if rest.isEmpty then
        let parts := (List.range 64).filter fun p => c.tiles.any fun t => (mappers s (extOf t)).contains p
        raiseEach 0x0802 parts c.ld (releaseClaim id g.1)
      else g.1.setShare { g.1.share with claims := MapOps.insert id { c with dying := some rest } g.1.share.claims }

/-- The host of an LD dies (R321, R322): its exposures short of the commit point abort, and its claims begin to die. -/
def killLd (i : Nat) (s : State) : State :=
  let s1 := (s.share.expos.filter fun q => q.2.ld == i && q.2.stage != 3).foldl (fun u q => abortExpo q.1 0x25 q.1 u) s
  s1.setShare { s1.share with
    claims := s1.share.claims.map fun q =>
      if q.2.ld == i && q.2.dying.isNone then (q.1, { q.2 with dying := some q.2.tiles }) else q }

end Sys2Proof.Machine
end

