-- ==== Sys2Proof/Machine/ScrubOps.lean ====
section
/-! DEFINITION. SQUEEGEE passes (R389 to R391). -/

namespace Sys2Proof.Machine

/-- The pass of a command. -/
def scrubOf (s : State) (cmd : Nat) : Option Scrub := s.dram.scrubs.find? (·.cmd == cmd)

/-- Replaces a pass. -/
def setScrub (p : Scrub) (s : State) : State :=
  s.setDram { s.dram with scrubs := s.dram.scrubs.map fun q => if q.cmd == p.cmd then p else q }

/-- A pass ends its bookkeeping. -/
def dropScrub (cmd : Nat) (s : State) : State :=
  s.setDram { s.dram with scrubs := s.dram.scrubs.filter (·.cmd != cmd) }

/-- The tile and home slot of a DPA in a pass; none where the sector is skipped. -/
def scrubHome (s : State) (part dpa : Nat) : Option (Nat × Nat) :=
  match dpaKey s part dpa with
  | none => none
  | some key =>
    let t := tdeOf s key
    let k := kindOf s (extOf key)
    if (k == 1 || k == 3) && ! extGone s (extOf key) && isHome t.tier then (homeOf t).map fun h => (key, h) else none

/-- The pass leaves a block: POISON_MAP bits without a poisoned sector behind them are cleared (R390). -/
def leaveBlock (p : Scrub) (dpa : Nat) (s : State) : State :=
  match scrubHome s p.part dpa with
  | some h => refreshPoison h.1 (dpa / 4096 % 16) s
  | none => s

/-- Scrubs n sectors of one block, from where the pass stands, with no bit newly in error: those whose stored copies have bits in
error are corrected and written back (R384, R390). -/
def scrubClean (n : Nat) (p : Scrub) (s : State) : Scrub × State :=
  let q := { p with pos := p.pos + 64 * n }
  let done := q.pos % 4096 == 0 || q.pos == p.first + p.length
  match scrubHome s p.part p.pos with
  | none => ({ q with skipped := q.skipped + n }, s)
  | some h =>
    let bad := (poisonIn s.tier.poison (sectorNo h.2 (p.pos / 64 % 1024)) n).length
    let i := p.pos / 64 % 1024
    let fixed := (dirtyIn s h.2 i n).length
    let s1 := cleanSectors (sectorNo h.2 i) n (countDirty h.2 i n (countBy 0x30A0 0x0B n (chargeTile 129 h.1 (n + fixed) s)))
    ({ q with read := q.read + n, poisoned := q.poisoned + bad, corrected := q.corrected + fixed }
     , if done then leaveBlock p p.pos s1 else s1)

/-- Scrubs up to a DPA, block by block; fuel counts blocks. -/
def scrubTo (dpa : Nat) : Nat → Scrub → State → Scrub × State
  | 0, p, s => (p, s)
  | f + 1, p, s =>
    if dpa ≤ p.pos then (p, s)
    else
      let r := scrubClean (min (dpa - p.pos) (4096 - p.pos % 4096) / 64) p s
      scrubTo dpa f r.1 r.2

/-- Blocks that a pass has at most. -/
def scrubFuel (p : Scrub) : Nat := p.length / 4096 + 2

/-- A pass may go on: it has not stopped, and its admission point does not hold it, or has let it go on (R437). -/
def scrubMay (s : State) (p : Scrub) : Bool := ! p.failed && p.stopped.isNone && (p.admitted || ! heldMaster s 129)

/-- A sector of a pass returns with bits newly in error (R390): those before it had none. -/
def scrubRead (cmd dpa : Nat) (severe : Bool) (error : List Byte) (s : State) : State :=
  match scrubOf s cmd with
  | none => s
  | some p0 =>
    if dpa % 64 != 0 || dpa < p0.pos || p0.first + p0.length ≤ dpa || ! scrubMay s p0 then s
    else
      let r := scrubTo dpa (scrubFuel p0) p0 s
      let p := r.1
      match scrubHome r.2 p.part dpa with
      | none => let q := scrubClean 1 p r.2
                setScrub q.1 q.2
      | some h =>
        let t := tdeOf r.2 h.1
        let got := readSlot t.tier t.homeMd t.homeSlot (dpa / 64 % 1024) severe error
          (count 0x30A0 0x0B (chargeTile 129 h.1 1 r.2))
        let q := { p with pos := dpa + 64, read := p.read + 1 }
        let q1 := match got.1 with
          | .clean => q
          | .corrected => { q with corrected := q.corrected + 1 }
          | .poison => { q with poisoned := q.poisoned + 1 }
          | .uncorrectable =>
            { q with
              uncorrectable := q.uncorrectable + 1
              listed := if q.listed.length < 16 then q.listed ++ [(dpa, tierCode t.tier)] else q.listed }
        let u := if got.1 == .corrected then chargeTile 129 h.1 1 (storeSector h.2 (dpa / 64 % 1024) got.2.1 false got.2.2) else got.2.2
        let s2 := if q.pos % 4096 == 0 || q.pos == p.first + p.length then leaveBlock q dpa u else u
        let failed := match scrubOf s2 cmd with | some x => x.failed | none => false
        setScrub { q1 with failed := failed, admitted := false } s2

/-- The 192 B of the summary (Tables 10-7 and 10-8). -/
def scrubSummary (p : Scrub) : List Byte :=
  [p.read, p.corrected, p.uncorrectable, p.poisoned, p.skipped, p.listed.length, p.first, p.pos].flatMap (toBytes 8)
    ++ (List.range 16).flatMap fun i => match p.listed[i]? with
      | some e => toBytes 8 (e.1 + 2 ^ 52 * e.2)
      | none => zeros 8

/-- Writes the summary through the ring's LD in three 64 B writes; while the LD masters nothing, none goes out (R345).
(DESIGN CHOICE, log entry 41.) -/
def writeSummary (p : Scrub) (ring : Nat) (s : State) : State :=
  let i := ring / 64
  if ! canMaster s i then s
  else
    let bs := scrubSummary p
    [0, 64, 128].foldl (fun u o => busWrite i (p.summary + o) ((bs.drop o).take 64) (fun _ => false) u) s

/-- A pass ends with a status: its summary goes out and its command completes, once the LD masters again where it only pauses
(R345, R391). One whose port is contained, or whose command nobody is told of, ends without a summary. -/
def finishScrub (p : Scrub) (c : Cmd) (status : Nat) (s : State) : State :=
  let i := c.ring / 64
  if canMaster s i || c.discard || contained s (i / 16) || decide (0x30 ≤ status) then
    completeCmd p.cmd status p.corrected p.uncorrectable (dropScrub p.cmd (writeSummary p c.ring s))
  else setScrub { p with stopped := some status } s

/-- A pass stops early with a status: the summary stands at the first sector not scrubbed (R391). -/
def stopScrub (cmd status : Nat) (s : State) : State :=
  match scrubOf s cmd, cmdOf s cmd with
  | some p, some c => finishScrub p c status s
  | _, _ => dropScrub cmd s

/-- A pass begins (R389). -/
def scrubBegin (id : Nat) (c : Cmd) (s : State) : State :=
  markStarted id (s.setDram { s.dram with scrubs := s.dram.scrubs ++
    [{ cmd := id, part := c.part, first := c.bits 243 192, length := c.bits 359 320, summary := c.bits 447 384
       pos := c.bits 243 192 }] })

/-- SQUEEGEE_PASS_DONE: the rest of the range had no bit newly in error, and the pass completes once its summary can go out (R391). -/
def scrubDone (cmd : Nat) (s : State) : State :=
  match scrubOf s cmd, cmdOf s cmd with
  | some p, some c =>
    if p.failed then stopScrub cmd 0x22 s
    else if contained s (c.ring / 64 / 16) then stopScrub cmd 0x31 s
    else if ! scrubMay s p then s
    else
      let r := scrubTo (p.first + p.length) (scrubFuel p) p s
      finishScrub r.1 c 0 (setScrub r.1 r.2)
  | _, _ => s

/-- The passes that the directory MDs' admission points held go on (R437). -/
def letScrubs (s : State) : State :=
  s.setDram { s.dram with scrubs := s.dram.scrubs.map fun p => { p with admitted := true } }

/-- Passes that must stop: part of their range has failed, or their LD is contained; and those that wait to write their summary (R391). -/
def pumpScrubs (s : State) : State :=
  s.dram.scrubs.foldl (fun u p =>
    match cmdOf u p.cmd with
    | none => dropScrub p.cmd u
    | some c =>
      match p.stopped with
      | some st => finishScrub p c st u
      | none =>
        if p.failed then stopScrub p.cmd 0x22 u
        else if contained u (c.ring / 64 / 16) then stopScrub p.cmd 0x31 u else u) s

end Sys2Proof.Machine
end

