-- ==== Sys2Proof/Machine/PartOps.lean ====
section
/-! DEFINITION. Partitions, the commits of the Host Identity, Range and Share tables, revokes and reassignment (chapter 8, R296 to
R306, R323, R324, R475, R481). -/

namespace Sys2Proof.Machine

open Sys2Proof

/-! ### Commands and runs that are stopped from outside -/

/-- A command in flight is stopped and completes with a status; what it started goes on without it. -/
def killCmd (id status : Nat) (s : State) : State :=
  match cmdOf s id with
  | none => s
  | some c =>
    let w : Waiter := .cmd id
    let s1 := forget w (withdraw w s)
    let runs := s1.cmp.runs.filter fun r => r.cmd == some id
    let s2 := runs.foldl (fun u r => abortRun r.id status u) s1
    let expos := s2.share.expos.filter fun q => q.2.cmd == some id && q.2.stage != 3
    let s3 := expos.foldl (fun u q => abortExpo q.1 status q.1 u) s2
    let strips := s3.codec.strips.filter (·.cmd == id)
    let s4 := strips.foldl (fun u t => dropStrip t u) s3
    let claims := if c.op == 0x30 && c.begun then [c.result0] else []
    let s5 := claims.foldl (fun u n => releaseClaim n u) s4
    let s6 := s5.setSess { s5.sess with
      parks := s5.sess.parks.map fun p => { p with cmds := p.cmds.erase id }
      wakes := s5.sess.wakes.map fun p => { p with cmds := p.cmds.erase id }
      attendWaits := s5.sess.attendWaits.filter fun q => q.2 != id }
    if (scrubOf s6 id).isSome then stopScrub id status s6
    else if runs.any (fun r => (runOf s6 r.id).isSome) then s6 else completeCmd id status 0 0 s6
where
  /-- A test strip ends, and its bank returns to FREE (R182). -/
  dropStrip (t : Strip) (s : State) : State :=
    let s1 := forgetReads (fun w => w.take 2 == [3, t.slot]) (s.setCodec { s.codec with strips := s.codec.strips.filter (·.cmd != t.cmd) })
    setBank (t.slot * 2 + t.bank) {} s1

/-- The DPA extents that a command names, as first extent and number. -/
def cmdExts (s : State) (c : Cmd) : List (Nat × Nat) :=
  let d := c.desc
  let op := c.op
  let tiles := [tileExts (namedTiles d).1 (namedTiles d).2]
  let sess := fun (r : Session) =>
    [(r.kvBase, r.layerStride * bLayers (bindRow s r.part r.binding)), (r.logBase, r.logExtents)]
  let named := match MapOps.get? (c.bits 145 128) s.sess.recs with | some r => sess r | none => []
  if op == 0x01 || op == 0x30 then tiles
  else if op == 0x32 then tiles ++ [tileExts (field d 291 256) (namedTiles d).2]
  else if op == 0x02 || op == 0x03 || op == 0x04 || op == 0x05 then if bitAt d 146 then named else [namedExts d]
  else if op == 0x10 && (c.bits 147 146 == 0 || c.bits 147 146 == 3) then
    let layers := c.bits 303 288 * bLayers (bindRow s c.part (c.bits 166 159))
    [(c.bits 286 256, layers)] ++ if c.bits 147 146 == 0 then [(c.bits 350 320, c.bits 319 304)] else []
  else if op == 0x10 || op == 0x12 || op == 0x13 then named
  else if op == 0x11 then if bitAt d 147 then [] else named
  else if op == 0x14 then [extRange (field d 243 192) 128]
  else if op == 0x20 || op == 0x21 || op == 0x22 || op == 0x23 then
    (nearWrites d ++ nearReads d).map fun a => extRange a (nearLen d)
  else if op == 0x24 then [extRange (field d 243 192) (field d 359 320)]
  else if op == 0x25 then [(field d 158 128, field d 190 160 + 1 - field d 158 128)]
  else if op == 0x33 then if field d 129 128 == 1 then [extRange (field d 243 192) (64 * field d 262 256)] else []
  else if op == 0x40 then [extRange (field d 243 192) 120]
  else []

/-- Two ranges of extents meet. -/
def meets (a b : Nat × Nat) : Bool := decide (a.1 < b.1 + b.2) && decide (b.1 < a.1 + a.2)

/-- The DPA extents that a run names: its arguments' command is looked at apart; here its program's. -/
def runExts (s : State) (r : Run) : List (Nat × Nat) :=
  match MapOps.get? r.program s.cmp.registry with
  | some e => [(e.first, e.extents)]
  | none => []

/-- Stops the commands and runs of a partition that name revoked extents (R323 step 1). -/
def stopNaming (part : Nat) (exts : List (Nat × Nat)) (status : Nat) (s : State) : State :=
  let s1 := (s.queue.cmds.filter fun q => q.2.part == part && (cmdExts s q.2).any fun a => exts.any (meets a)).foldl
    (fun u q => killCmd q.1 status u) s
  let s2 := (s1.cmp.runs.filter fun r => r.part == part && (runExts s1 r).any fun a => exts.any (meets a)).foldl
    (fun u r => abortRun r.id status u) s1
  let devs := fun (k : Nat) => match dpaExtOf s part (extOf k) with
    | some d => exts.any fun e => decide (e.1 ≤ d) && decide (d < e.1 + e.2)
    | none => false
  (s2.share.expos.filter fun q => q.2.part == part && q.2.stage != 3
      && q.2.actions.any fun a => (a.tiles ++ a.region).any devs).foldl (fun u q => abortExpo q.1 status q.1 u) s2

/-! ### The checks of the three tables (R298, R299, R475) -/

/-- Every pair of a list, earlier first, satisfies a test. -/
def allPairs (f : Nat → Nat → Bool) : List Nat → Bool
  | [] => true
  | a :: as => as.all (f a) && allPairs f as

/-- The Host Identity Table may hold these rows (R298). -/
def hitOk (s : State) (rows : List Nat) : Bool :=
  let v := rows.filter fun r => bitAt r 0
  let who := fun (r : Nat) => (field r 2 1, field r 6 3, field r 19 8)
  v.all (fun r => partState s (field r 25 20) == 1 && bitAt (ldMask s (field r 25 20)) (16 * field r 2 1 + field r 6 3))
    && allPairs (fun a b => who a != who b) v

/-- Two rows overlap in DPA extents. -/
def dpaMeet (a b : Nat) : Bool := meets (rtDpaFirst a, rtExtents a) (rtDpaFirst b, rtExtents b)

/-- Two rows overlap in device extents. -/
def devMeet (a b : Nat) : Bool := meets (rtDevFirst a, rtExtents a) (rtDevFirst b, rtExtents b)

/-- The VALID share rows. -/
def sharesIn (s : State) : List (Nat × Nat) := (tableOf s 0x2130).data.filter fun q => bitAt q.2 0

/-- DEV_FIRST and EXTENTS of a share row. -/
def shareSpan (r : Nat) : Nat × Nat := (field r 35 8, field r 63 36)

/-- Share rows cover every extent of a span: the row at its front covers it, and so on. Fuel counts rows. -/
def coveredBy (rows : List (Nat × Nat)) : Nat → Nat × Nat → Bool
  | 0, p => p.2 == 0
  | n + 1, p =>
    if p.2 == 0 then true
    else match rows.find? (fun q => decide (q.1 ≤ p.1) && decide (p.1 < q.1 + q.2)) with
      | none => false
      | some q => coveredBy rows n (q.1 + q.2, p.1 + p.2 - (q.1 + q.2))

/-- A share row is pending: some tile of its extents still holds a coded block (R303). -/
def sharePending (s : State) (r : Nat) : Bool :=
  (s.tier.exts.filter fun q => decide (field r 35 8 ≤ q.1) && decide (q.1 < field r 35 8 + field r 63 36)).any fun q =>
    if q.2.kind == 0 then false
    else if q.2.kind == 2 then (tilesOf q.1).any (parkedCoded s)
    else (s.tier.parks.any fun p => p.ext == q.1 && p.committing && ! p.coded.isEmpty) || (tilesOf q.1).any fun k =>
      let t := tdeOf s k
      if t.state == .parked then parkedCoded s k else ! t.blockLen.isEmpty

/-- The rows of the Range Table may stand together (R299, R475). -/
def rangeOkRows (s : State) (rows : List Nat) : Bool :=
  let v := rows.filter rtValid
  let shares := (sharesIn s).map fun q => shareSpan q.2
  let pend := (sharesIn s).filter fun q => sharePending s q.2
  let pair := fun (a b : Nat) =>
    if rtPart a == rtPart b then ! dpaMeet a b && ! devMeet a b
    else if devMeet a b then
      let lo := max (rtDevFirst a) (rtDevFirst b)
      let hi := min (rtDevFirst a + rtExtents a) (rtDevFirst b + rtExtents b)
      coveredBy shares 512 (lo, hi - lo)
    else true
  allPairs pair v
    && v.all fun r =>
      decide (1 ≤ rtExtents r) && decide (rtDpaFirst r + rtExtents r ≤ 2 ^ 31) && decide (rtDevFirst r + rtExtents r ≤ 2 ^ 28)
        && (partState s (rtPart r) == 1 || rtDraining r)
        && ! s.share.scrubbing.any (fun e => decide (rtDevFirst r ≤ e.1) && decide (e.1 < rtDevFirst r + rtExtents r))
        && ! pend.any (fun q => meets (shareSpan q.2) (rtDevFirst r, rtExtents r) && rtPart r != field q.2 6 1)
        && (! rtKeyValid r || (rtKey r / 64 == rtPart r && (MapOps.get? (rtKey r) s.sec.keys).isSome
              && ! shares.any fun p => meets p (rtDevFirst r, rtExtents r)))

/-! ### Revokes (R306, R323) -/

/-- A span without another: what is left below and above. -/
def minusSpan (a b : Nat × Nat) : List (Nat × Nat) :=
  if ! meets a b then [a]
  else
    (if a.1 < b.1 then [(a.1, b.1 - a.1)] else [])
      ++ (if b.1 + b.2 < a.1 + a.2 then [(b.1 + b.2, a.1 + a.2 - (b.1 + b.2))] else [])

/-- The DPA spans of an old row that the new rows no longer map to the same device extents. -/
def lostSpans (new : List Nat) (o : Nat) : List (Nat × Nat) :=
  let same := new.filter fun n => rtValid n && rtPart n == rtPart o && rtDpaFirst n + rtDevFirst o == rtDpaFirst o + rtDevFirst n
  same.foldl (fun l n => l.flatMap fun p => minusSpan p (rtDpaFirst n, rtExtents n)) [(rtDpaFirst o, rtExtents o)]

/-- The DRAINING row of a revoked part of a row. -/
def drainOf (o : Nat) (p : Nat × Nat) : Nat :=
  setField (rtBounds o p.1 (rtDevFirst o + (p.1 - rtDpaFirst o)) p.2) 1 1 1

/-- The DRAINING rows that a change of the table calls for, each with the number of the row it comes from. -/
def drainRows (old : Map Nat) (new : List Nat) : List (Nat × Nat) :=
  (old.filter fun q => rtValid q.2 && ! rtDraining q.2).flatMap fun q => (lostSpans new q.2).map fun p => (q.1, drainOf q.2 p)

/-- Places rows in a table: at their own number where that is not VALID, else in the lowest free row; none where too few
are free. -/
def placeRows : List (Nat × Nat) → TableObj → Option TableObj
  | [], t => some t
  | (n, r) :: rest, t =>
    if ! rtValid (t.row n) then placeRows rest (t.setRow n r)
    else
      let f := nthFree ((t.data.filter fun q => rtValid q.2).map (·.1)) 0
      if f < 8192 then placeRows rest (t.setRow f r) else none

/-- LOCKS that a new row carries: those of the rows that covered its extents. -/
def locksFor (old : Map Nat) (r : Nat) : Nat :=
  (old.filter fun q => rtValid q.2 && devMeet q.2 r).foldl (fun a q => max a (rtLocks q.2)) 0

/-- A row as a commit writes it: the read-only fields are the device's own. -/
def rangeRow (old : Map Nat) (n r : Nat) : Nat :=
  let o := MapOps.getD n 0 old
  if setField (setField r 30 23 0) 1 1 0 == setField (setField o 30 23 0) 1 1 0 then o
  else if rtValid r then setField (rtSetLocks r (locksFor old r)) 1 1 0
  else setField (setField r 30 23 0) 1 1 0

/-- The revokes of a change, one a partition: its DRAINING rows, with their numbers. -/
def revokesOf (t : TableObj) : List (Nat × List Nat) :=
  ((List.range 64).map fun p => (p, (t.data.filter fun q => rtDraining q.2 && rtPart q.2 == p).map (·.1))).filter
    fun q => ! q.2.isEmpty

/-- Begins a revoke of rows that have become DRAINING (R323 step 1); a ring whose SQ lies in them is FAULTED (R270).
(DEDUCED, log entry 47.) -/
def beginRevoke (part : Nat) (reassign : Bool) (rows : List Nat) (s : State) : State :=
  let exts := rows.map fun n => (rtDpaFirst (tableRow s 0x2120 n), rtExtents (tableRow s 0x2120 n))
  let r : Revoke := { part := part, reassign := reassign, rows := rows, scrub := [], stage := 1 }
  let s1 := s.setShare { s.share with
    revokes := MapOps.insert s.share.nextRevoke r s.share.revokes, nextRevoke := s.share.nextRevoke + 1 }
  let drained := rows.map (tableRow s 0x2120)
  let s2 := (s1.queue.rings.filter fun q => q.2.state == 1 && q.2.pinned.any fun e => drained.any fun r => rtHolds r e).foldl
    (fun u q => if ldPart u (q.1 / 1024) (q.1 / 64 % 16) == some part then faultRing q.1 3 u else u) s1
  stopNaming part exts (if reassign then 0x32 else 0x13) s2

/-- The exposure of a Range Table write (R306): one RANGE action for each row that the write changes, READY at all four IODs.
(DESIGN CHOICE, log entry 95.) -/
def rangeExpo (t : TableObj) (rows : List Nat) (now : Nat) : Expo :=
  { newExpo 0 0 false none now with
    stage := 2
    actions := rows.map fun n => { opcode := 0x82, body := n + put (t.row n) 128 128, tiles := [], region := [], fills := [] }
    answers := (List.range 4).map fun n => (.iod (Fin.ofNat 4 n), 1) }

/-- The write's exposure is committed and applied by the four IODs, in one step and under a number of the device's own (DESIGN
CHOICE, log entry 95). -/
def rangeThrough (t : TableObj) (rows : List Nat) (s : State) : State :=
  (List.range 4).foldl (fun u n => applyAt 256 (.iod (Fin.ofNat 4 n)) u)
    (commitPoint 256 (setExpo 256 (rangeExpo t rows (nowUs s)) s))

/-- A commit of the Range Table (R299, R306, R323): a status of Table 15-4, and the state. (DEDUCED, log entry 49.) -/
def rangeCommit (rows : Map Nat) (s : State) : Nat × State :=
  let t := tableOf s 0x2120
  let numbers := dedup ((t.data ++ rows).map (·.1))
  let new := numbers.foldl (fun (m : Map Nat) n => MapOps.put n 0 (rangeRow t.data n (MapOps.getD n 0 rows)) m) []
  let changed := numbers.filter fun n => MapOps.getD n 0 new != t.row n
  let vals := new.map (·.2)
  if changed.isEmpty then (0, s)
  else if changed.any (fun n => rtDraining (t.row n) || heldObject s (2 ^ 53 + n)) || ! s.share.revokes.isEmpty then (5, s)
  else if changed.length > 64 || ! rangeOkRows s vals then (3, s)
  else match placeRows (drainRows t.data vals) { t with data := new } with
  | none => (3, s)
  | some t1 =>
    let s1 := bumpVersion 0x2120 (setTable 0x2120 t1 (rangeThrough t1 changed s))
    (0, (revokesOf t1).foldl (fun u q => beginRevoke q.1 false q.2 u) s1)

/-- Extents that no partition maps, of the spans of rows. -/
def unmappedOf (s : State) (rows : List Nat) : List Nat :=
  (dedup (rows.flatMap fun r => span (rtDevFirst r) (rtExtents r))).filter fun e => (mappers s e).isEmpty

/-- The blocks on revoked extents that issued tile steps of a run still wait for. -/
def revokedBlocks (rows : List Nat) (r : Run) : Nat :=
  (r.seqs.flatMap (·.issued)).foldl (fun n i => n + (i.waiting.filter fun b => rows.any fun x => rtHolds x (extOf b.1)).length) 0

/-- The tile steps of a partition's runs that wait on revoked extents meet them: their blocks are waited for no more, and their runs stop
(R323 steps 1 and 3). -/
def drainSteps (part status : Nat) (rows : List Nat) (s : State) : State :=
  let on := fun (b : Nat × Nat × Nat) => rows.any fun x => rtHolds x (extOf b.1)
  let mine := s.cmp.runs.filter fun r => r.part == part && revokedBlocks rows r != 0
  mine.foldl (fun u r => abortRun r.id status (setRun { r with seqs := r.seqs.map fun q =>
    { q with issued := q.issued.map fun i => { i with waiting := i.waiting.filter fun b => ! on b } } } u)) s

/-- Requests of a partition still in flight on revoked extents complete with poison (R323 step 3). -/
def drainPoison (part status : Nat) (rows : List Nat) (s : State) : State :=
  let mine := fun (q : HostReq) => q.part == part && rows.any fun r => rtCovers r part (q.dpa / 2097152)
  let reads := s.tier.reads.filter fun r => mine r.req
  let held := s.tier.held.filter fun h => mine h.req && ! h.lost
  let blocks := (s.cmp.runs.filter (·.part == part)).foldl (fun a r => a + revokedBlocks rows r) 0
  let n := reads.length + held.length + blocks
  let s1 := s.setTier { s.tier with held := s.tier.held.filter fun h => h.lost || ! mine h.req }
  let s2 := reads.foldl (fun u r => dropRead r.id (answerRead r.req (zeros 64) true (tierCode r.tier) u)) s1
  let s3 := drainSteps part status rows (held.foldl (fun u h => poisonAnswer h u) s2)
  if n == 0 then s3 else raise 0x0803 (some part) 0 (countBy 0x3080 7 n s3)

/-- Claims of a partition on revoked tiles are poisoned and released (R323 step 4). (DEDUCED, log entry 47.) -/
def revokeClaims (part : Nat) (rows : List Nat) (s : State) : State :=
  let on := fun (k : Nat) => rows.any fun r => rtHolds r (extOf k)
  (s.share.claims.filter fun q => q.2.part == part && q.2.tiles.any on).foldl
    (fun u q => releaseClaim q.1 (q.2.tiles.foldl (fun v k => (poisonClaimed q.2.part k v).1) u)) s

/-- The rows of a revoke are removed, and what the split left is merged (R323 step 5). -/
def removeRows (rows : List Nat) (s : State) : State :=
  let s1 := rows.foldl (fun u n => setTableRow 0x2120 n 0 u) s
  s1.share.splits.foldl (fun u m => mergeSplit m u) (bumpVersion 0x2120 s1)

/-- The Key Table block of a partition is overwritten (Table 13-10). -/
def zeroKeys (part : Nat) (s : State) : State :=
  (span (64 * part) 64).foldl (fun u n => u.setSec { u.sec with keys := MapOps.erase n u.sec.keys }) s

/-- Extents that no partition maps are held by no read-only lock any more (R300). -/
def forgetLocks (devs : List Nat) (s : State) : State :=
  let keep := fun (l : List Nat) => l.filter fun d => ! devs.contains d
  let s1 := s.setSess { s.sess with prefixes := s.sess.prefixes.map fun q => (q.1, { q.2 with locked := keep q.2.locked }) }
  s1.setCmp { s1.cmp with
    registry := s1.cmp.registry.map fun q => (q.1, { q.2 with locked := keep q.2.locked })
    regJobs := s1.cmp.regJobs.map fun j => { j with locked := keep j.locked } }

/-- The drain limit of a revoke (R323 steps 3 to 5, and step 5 of R324). That of a reassignment comes after its runs have stopped
(R482). (DEDUCED, log entry 47.) -/
def drainEnds (id : Nat) (s : State) : State :=
  match MapOps.get? id s.share.revokes with
  | none => s
  | some v =>
    if v.reassign && (s.cmp.runs.any (·.part == v.part) || s.sess.recs.any (·.2.part == v.part)) then s else
    let rows := v.rows.map (tableRow s 0x2120)
    let s1 := revokeClaims v.part rows (drainPoison v.part (if v.reassign then 0x32 else 0x13) rows s)
    let s2 := removeRows v.rows s1
    let gone := unmappedOf s2 rows
    let s3 := s2.setShare { s2.share with revokes := MapOps.erase id s2.share.revokes }
    let s4 := gone.foldl (fun u e => scrubExt v.part e u) (forgetLocks gone s3)
    if v.reassign then
      zeroKeys v.part (s4.setShare { s4.share with scrubbing := gone.foldl (fun l e => MapOps.insert e v.part l) s4.share.scrubbing })
    else s4

/-! ### The Share Table (R301 to R303) -/

/-- The Share Table may hold these rows: VALID rows are in range, do not overlap, and leave no extent that
two partitions map uncovered; none covers a protected region (R301, R475). (DEDUCED, log entry 49.) -/
def shareOkRows (s : State) (rows : List Nat) : Bool :=
  let v := rows.filter fun r => bitAt r 0
  let spans := v.map shareSpan
  let rt := ((rtRows s).map (·.2)).filter rtValid
  v.all (fun r => decide (1 ≤ field r 63 36) && decide (field r 35 8 + field r 63 36 ≤ 2 ^ 28))
    && allPairs (fun a b => ! meets (shareSpan a) (shareSpan b)) v
    && allPairs (fun a b =>
        if rtPart a != rtPart b && devMeet a b then
          let lo := max (rtDevFirst a) (rtDevFirst b)
          coveredBy spans 512 (lo, min (rtDevFirst a + rtExtents a) (rtDevFirst b + rtExtents b) - lo)
        else true) rt
    && rt.all fun r => ! (rtKeyValid r && spans.any fun p => meets p (rtDevFirst r, rtExtents r))

/-- Starts the share rewrite of one extent (R303): resident tiles with coded blocks move, a parked extent is unparked. -/
def shareRewrite (ext owner : Nat) (s : State) : State :=
  match kindOf s ext with
  | 2 => if (tilesOf ext).any (parkedCoded s) && ! imageLost s ext then unparkFor ext owner .batten none 0 [] s else s
  | 1 =>
    (tilesOf ext).foldl (fun u k =>
      let t := tdeOf u k
      if isHome t.tier && ! t.blockLen.isEmpty && ! (u.tier.moves.any fun m => m.key == k)
          && ! u.tier.moveQueue.any (·.key == k) then
        requestMove { key := k, tier := t.tier, md := t.homeMd, kind := .shareRewrite, hint := 0, master := owner, evict := none
                      waiters := [] } u
      else u) s
  | _ => s

/-- The rewrites that pending share rows still need are asked for (R303). -/
def pumpShares (s : State) : State :=
  (sharesIn s).foldl (fun u q =>
    if sharePending u q.2 then
      ((u.tier.exts.filter fun e => decide (field q.2 35 8 ≤ e.1) && decide (e.1 < field q.2 35 8 + field q.2 63 36)).map (·.1)).foldl
        (fun v e => shareRewrite e (field q.2 6 1) v) u
    else u) s

/-- PARTITION of the map entries and TDEs of an extent follows the share row's OWNER, or the one partition that maps it (R301). -/
def setOwner (ext : Nat) (s : State) : State :=
  if kindOf s ext == 0 then s
  else
    let p := ownerOf s ext
    let s1 := s.setTier { s.tier with exts := MapOps.insert ext { entryOf s ext with part := p } s.tier.exts }
    (tilesOf ext).foldl (fun u k =>
      if (MapOps.get? k u.tier.tdes).isSome then modTde k (fun t => { t with part := p }) u else u) s1

/-- A move of a tile that a share row has come to cover codes nothing (R302): its encodes end, a block that it has coded is copied again
as it stands, and a re-encode leaves coded blocks as they are. (DESIGN CHOICE, log entry 108.) -/
def uncodeMove (m : Move) (s : State) : State :=
  let bs := (newlyCoded m).map (·.block)
  let s1 := keepSheet m.key s
  let s2 := s1.setTier { s1.tier with
    moves := s1.tier.moves.map fun q =>
      if q.key == m.key then { q with
        coded := m.coded.filter fun c => ! bs.contains c.block
        dirty := if q.ready then q.dirty else (bs.flatMap fun b => span (64 * b) 64).foldl (fun l i => setInsert i l) q.dirty } else q }
  if ! m.ready then s2
  else match homeOf (tdeOf s2 m.key) with
    | some k => bs.foldl (fun u b => copyBlock k (slotKey m.tier m.md m.slot) b u) s2
    | none => s2

/-- A park of an extent that a share row has come to cover packs raw what it would have coded (R302). -/
def uncodePark (p : Park) (s : State) : State :=
  let s1 := (tilesOf p.ext).foldl (fun u k => dropCoding k true u) s
  setPark { p with coded := [], plans := p.plans.map fun q => (q.1, none, false) } s1

/-- Coding under way of tiles that VALID share rows cover ends (R302); a park in its commit wait keeps its image, which R303 then brings
back. -/
def stopCoding (s : State) : State :=
  let s1 := (s.tier.moves.filter fun m => m.kind != .shareRewrite && (shareFind s (extOf m.key)).isSome).foldl (fun u m => uncodeMove m u) s
  (s1.tier.parks.filter fun p => ! p.committing && (shareFind s1 p.ext).isSome).foldl (fun u p => uncodePark p u) s1

/-- A commit of the Share Table: VERSION of each row is the device's own. (DEDUCED, log entry 49.) -/
def shareCommit (rows : Map Nat) (s : State) : Nat × State :=
  let t := tableOf s 0x2130
  let numbers := dedup ((t.data ++ rows).map (·.1))
  let row := fun (n : Nat) =>
    let r := MapOps.getD n 0 rows
    let o := t.row n
    if bitAt r 0 && bitAt o 0 && shareSpan r == shareSpan o then setField r 95 64 (field o 95 64)
    else if setField r 95 64 0 == setField o 95 64 0 then o else setField r 95 64 0
  let new := numbers.foldl (fun (m : Map Nat) n => MapOps.put n 0 (row n) m) []
  let taken := s.share.expos.any fun q => q.2.rows.any fun r => MapOps.getD r 0 new != t.row r
  if taken then (5, s)
  else if ! shareOkRows s (new.map (·.2)) then (3, s)
  else
    let s1 := bumpVersion 0x2130 (setTable 0x2130 { t with data := new } s)
    (0, pumpShares (stopCoding ((s1.tier.exts.map (·.1)).foldl (fun u e => setOwner e u) s1)))

/-- SharesPending (R303). -/
def sharesPending (s : State) : Nat := ((sharesIn s).filter fun q => sharePending s q.2).length

/-! ### Reassignment (R324, R481) -/

/-- STATE, SCRUB_PCT and LD_MASK of a partition are written. -/
def setPart (p st pct mask : Nat) (s : State) : State := setScalar 0x2101 (p + 1) (put st 2 0 + put pct 7 8 + put mask 64 64) s

/-- Clears VALID in the rows of a table whose owner field names a partition (R131, R481). -/
def clearRows (index bit p : Nat) (s : State) : State :=
  let t := tableOf s index
  let mine := t.data.filter fun q => bitAt q.2 0 && field q.2 (bit + 5) bit == p
  if mine.isEmpty then s
  else bumpVersion index (mine.foldl (fun u q => setTableRow index q.1 (setField q.2 0 0 0) u) s)

/-- The policy table that governs the codec (R160). -/
def codecPolicyIndex (s : State) : Nat := scalar s 0x2300 1 0x5040

/-- Once the sessions of a partition that is being scrubbed are gone, so are its prefixes and its binding rows (R131). -/
def finishSessions (p : Nat) (s : State) : State :=
  if s.sess.recs.any (·.2.part == p) then s
  else
    let s1 := (s.sess.prefixes.filter fun q => q.2.part == p).foldl (fun u q => freePfx q.1 u) s
    clearRows (scalar s1 0x2400 3 0x5031) 1 p s1

/-- Sessions and prefixes of a partition end as under R129, each session once its runs have (R131). -/
def endSessions (p : Nat) (s : State) : State :=
  finishSessions p (pumpEnds
    ((s.sess.recs.filter fun q => q.2.part == p && ! sessEnding s q.1).foldl (fun u q => beginEnd q.1 0x32 none u) s))

/-- The commits of a partition's exposures that have reached step 7 complete (R312, R324 step 2). -/
def finishCommits (p : Nat) (s : State) : State :=
  (s.share.expos.filter fun q => q.2.part == p && q.2.stage == 3).foldl (fun u q =>
    q.2.answers.foldl (fun v w => applyAt q.1 w.1 v) u) s

/-- The ring commands of a partition complete with PARTITION_SCRUBBING, and its ring blocks are reset (R272). -/
def endRings (p : Nat) (s : State) : State :=
  let lds := ldsOf s p
  let s1 := (s.queue.cmds.filter fun q => q.2.part == p).foldl (fun u q => completeCmd q.1 0x32 0 0 (killCmd q.1 0x32 u)) s
  s1.setQueue { s1.queue with
    rings := s1.queue.rings.filter fun q => ! lds.contains (q.1 / 64)
    heldRecords := s1.queue.heldRecords.filter fun h => ! lds.contains (h.1 / 64) }

/-- SPDM sessions at the LDs of a partition end, with their keys (Table 13-10). -/
def endSpdm (p : Nat) (s : State) : State :=
  let lds := ldsOf s p
  let mine := fun (a : SpdmAt) => match a with
    | .doe (.ld port n) => lds.contains (port.val * 16 + n.val)
    | _ => false
  s.setSec { s.sec with
    sessions := s.sec.sessions.filter fun q => ! mine q.2.at_
    waits := s.sec.waits.filter fun w => ! mine w.at_ }

/-- A write of STATE 2 (R324 steps 1 to 3, and the revoke's commit of Table 13-10). The row of PartitionClasses that returns to its
default counts as a table taken (R224). (DESIGN CHOICE, log entry 119.) -/
def reassign (p : Nat) (s : State) : State :=
  let s1 := setPart p 2 0 (ldMask s p) (finishCommits p s)
  let rows := ((rtRows s1).filter fun q => rtValid q.2 && rtPart q.2 == p && ! rtDraining q.2)
  let s2 := rows.foldl (fun u q => setTableRow 0x2120 q.1 (setField q.2 1 1 1) u) s1
  let s3 := (s2.share.expos.filter fun q => q.2.part == p && q.2.stage != 3).foldl (fun u q => abortExpo q.1 0x32 q.1 u) s2
  let s4 := (s3.cmp.runs.filter (·.part == p)).foldl (fun u r => abortRun r.id 0x32 u) s3
  let s5 := endSessions p (endRings p s4)
  let s6 := setTableRow 0x5053 p (builtinTable 0x5053).fill (endSpdm p s5)
  let s7 := clearRows (codecPolicyIndex s6) 1 p s6
  beginRevoke p true (rows.map (·.1)) (placeFrames s7)

/-- Idle frames of partitions that are being scrubbed switch to NONE (R224). -/
def scrubFrames (s : State) : State :=
  (s.cmp.frames.filter fun q => match q.2.owner with
    | some p => partState s p == 2 && q.2.run.isNone && q.2.switching.isNone && ! q.2.outOfUse
    | none => false).foldl (fun u q => startSwitch q.1 none u) s

/-- The registrations of a partition are removed, and its registration objects return to their defaults (Table 13-10). -/
def endRegs (p : Nat) (s : State) : State :=
  let s1 := (s.cmp.registry.filter fun q => q.2.part == p).foldl (fun u q => regRemove q.1 q.2 u) s
  let jobs := s1.cmp.regJobs.filter (·.part == p)
  let s1a := jobs.foldl (fun u j =>
    if j.reload then ownerRows p j.locked false u else unlockExts j.locked u) (forgetReads (· == [4, p]) s1)
  let s2 := s1a.setCmp { s1a.cmp with regJobs := s1a.cmp.regJobs.filter (·.part != p) }
  s2.setOd { s2.od with regVals := s2.od.regVals.filter fun q => q.1 / 256 != p }

/-- The SHEET records of a bank that are not durable yet mean nothing any more. -/
def dropSheetRecords (k : Nat) (s : State) : State :=
  let mine := fun (f : Fcr) => match f with | .sheet slot bank _ => 2 * slot + bank == k | _ => false
  let s1 := dropRecords mine s
  s1.setUnd { s1.und with programming := s1.und.programming.filter fun r => ! mine r.body }

/-- Every bank of a partition's slots becomes FREE and leaves the sheet store (R182). -/
def endSheets (p : Nat) (s : State) : State :=
  (s.codec.banks.filter fun q => q.2.owner == p).foldl (fun u q =>
    let u1 := dropSheetRecords q.1 (clearBank q.1 u)
    u1.setUnd { u1.und with store := MapOps.erase q.1 u1.und.store, sheetAt := MapOps.erase q.1 u1.und.sheetAt }) s

/-- The per-partition counters of a partition return to 0 and its log is emptied (Table 13-10). -/
def endCounters (p : Nat) (s : State) : State :=
  let own : List Nat :=
    span 0x3021 4 ++ span 0x3031 2 ++ span 0x3041 2 ++ span 0x3051 5 ++ span 0x3061 9 ++ span 0x3071 3 ++ span 0x3081 2
      ++ span 0x3091 3 ++ span 0x30A3 3 ++ span 0x30C1 4 ++ [0x30D1]
  let s1 := s.setCtr { s.ctr with vals := s.ctr.vals.filter fun q => ! (own.contains (q.1 / 256) && q.1 % 256 == p + 1) }
  s1.setLogs { s1.logs with events := MapOps.erase p s1.logs.events, tierEvents := setErase p s1.logs.tierEvents }

/-- The prefixes and registrations of partitions that are being scrubbed go once their runs are idle (R131, Table 13-10). -/
def scrubRegs (s : State) : State :=
  (List.range 64).foldl (fun u p =>
    if partState u p == 2 && ! u.cmp.runs.any (·.part == p) then
      let t := finishSessions p u
      if t.cmp.registry.any (·.2.part == p) || t.cmp.regJobs.any (·.part == p) then endRegs p t else t
    else u) s

/-- SCRUB_PCT of a partition that is being scrubbed advances (R324 step 5): by how much in a µs is a free value (DESIGN CHOICE,
log entry 95). -/
def scrubShare (s : State) (p : Nat) : State :=
  if partState s p == 2 && ! s.share.revokes.any (·.2.part == p) then
    let pct := min 100 (field (scalar s 0x2101 (p + 1) 0) 14 8)
    setPart p 2 (pct + freeValue s % (101 - pct)) (ldMask s p) (used s)
  else s

/-- The scrub of a partition may end: its revoke is over, its runs are gone, and its frames are clear. -/
def scrubMayEnd (s : State) (p : Nat) : Bool :=
  partState s p == 2 && ! (s.share.revokes.any fun q => q.2.part == p) && ! s.cmp.runs.any (·.part == p)
    && ! s.cmp.frames.any fun q => q.2.owner == some p

/-- A reassignment ends (R324 steps 5 and 6). -/
def scrubEnds (p : Nat) (s : State) : State :=
  if ! scrubMayEnd s p then s
  else
    let s1 := endSheets p (endRegs p s)
    let s2 := clearRows 0x2110 20 p s1
    let s3 := s2.setShare { s2.share with scrubbing := s2.share.scrubbing.filter fun e => e.2 != p }
    raise 0x0804 none 0 (endCounters p (setPart p 0 0 0 s3))

/-! ### Writes of a partition entry (R297) -/

/-- An LD_MASK is nonzero and shares no bit with another partition's. (DEDUCED, log entry 48.) -/
def maskFree (s : State) (p mask : Nat) : Bool :=
  (List.range 64).all fun q => q == p || mask &&& ldMask s q == 0

/-- LDs that a partition takes in send the MSI-X messages that waited while they were bound to none (R341, R345). -/
def bindLds (p mask : Nat) (s : State) : State :=
  ((List.range 64).filter fun i => bitAt mask i && ! bitAt (ldMask s p) i).foldl (fun u i => flushPba i u) (setPart p 1 0 mask s)

/-- A write of a partition entry: a status of Table 15-4, and the state. (DEDUCED, log entry 48.) -/
def writePart (p v : Nat) (s : State) : Nat × State :=
  let st := field v 1 0
  let mask := field v 127 64
  let old := partState s p
  if st == old && mask == ldMask s p then (0, s)
  else if old == 0 && st == 1 && mask != 0 && maskFree s p mask then (0, bindLds p mask s)
  else if old == 1 && st == 1 && mask &&& ldMask s p == ldMask s p && maskFree s p mask then
    (0, bindLds p mask s)
  else if old == 1 && st == 2 && mask == ldMask s p && ! (sharesIn s).any (fun q => field q.2 6 1 == p) then (0, reassign p s)
  else (3, s)

end Sys2Proof.Machine
end

