-- ==== Sys2Proof/Machine/LinkOps.lean ====
section
/-! DEFINITION. The PCIe and CXL endpoint: links, functions, mastering, function reset, containment, completions, interrupts and
power (chapter 9). -/

namespace Sys2Proof.Machine

open Sys2Proof

/-! ### Functions and errors -/

/-- A function's number in outputs: a port's PF0, or 16 + 16 × port + LD. -/
def fnCode : Fn → Nat
  | .pf0 p => p.val
  | .ld p n => 16 + 16 * p.val + n.val

/-- The port of a function. -/
def fnPort : Fn → Nat
  | .pf0 p => p.val
  | .ld p _ => p.val

/-- The device presents configuration space and serves requests: S4 or Safelight (R509). -/
def served (s : State) : Bool := s.start.stage == .lit || s.start.stage == .safelight

/-- A function is presented: its port is used, and an LD only with MLD and not in Safelight (R331). -/
def presented (s : State) (f : Fn) : Bool :=
  (portOf s (fnPort f)).up && match f with
    | .pf0 _ => true
    | .ld _ _ => (portOf s (fnPort f)).mld && s.start.stage != .safelight

/-- The LD of a port, as port × 16 + LD, is served. -/
def ldServed (s : State) (i : Nat) : Bool := isLit s && (portOf s (i / 16)).up && (portOf s (i / 16)).mld

/-- The place of an error in Table 9-15. -/
def errIndex : ErrKind → Nat
  | .receiverError => 0 | .badTlp => 1 | .badDllp => 2 | .replayTimerTimeout => 3 | .replayNumRollover => 4
  | .correctedInternal => 5 | .unexpectedCompletion => 6 | .completionTimeout => 7 | .poisonedCompletion => 8
  | .poisonedRequest => 9 | .unsupportedRequest => 10 | .malformedTlp => 11 | .dllProtocolError => 12
  | .flowControlError => 13 | .receiverOverflow => 14 | .surpriseDown => 15 | .ideCheckFailure => 16
  | .cxlRasUncorrectable => 17 | .uncorrectableInternal => 18

/-- How an error is reported: 0 correctable or advisory non-fatal, 1 non-fatal, 2 fatal, by Table 9-15 and the severity register, whose
bits name the fatal ones (R361). -/
def errSeverity (severity : Nat) (posted : Bool) (e : ErrKind) : Nat :=
  if errIndex e ≤ 5 then 0
  else if bitAt severity (errIndex e) then 2
  else match e with
    | .unexpectedCompletion | .poisonedCompletion | .poisonedRequest => 0
    | .unsupportedRequest => ofBool posted
    | _ => 1

/-- Reports an error that a function has logged, unless its mask hides it (R361). A link that is down carries no report.
(DESIGN CHOICE, log entry 110.) -/
def report (port code mask severity : Nat) (posted : Bool) (e : ErrKind) (s : State) : State :=
  if ! (portOf s port).up || bitAt mask (errIndex e) then s else emit .errMessage [port, code, errSeverity severity posted e] [] s

/-- Logs an error of a posted or other request in PF0's AER, and reports it (R360, R361). -/
def logPortAs (posted : Bool) (port : Nat) (e : ErrKind) (s : State) : State :=
  report port port (portOf s port).aerMask (portOf s port).aerSeverity posted e
    (modPort port (fun p => { p with aer := p.aer ||| 2 ^ errIndex e }) s)

/-- Logs an error in PF0's AER (R360). -/
def logPort (port : Nat) (e : ErrKind) (s : State) : State := logPortAs false port e s

/-- Logs an error of a posted or other request in an LD's AER, and reports it (R360, R361). -/
def logLdAs (posted : Bool) (i : Nat) (e : ErrKind) (s : State) : State :=
  report (i / 16) (16 + i) (ldOf s i).aerMask (ldOf s i).aerSeverity posted e
    (modLd i (fun l => { l with aer := l.aer ||| 2 ^ errIndex e }) s)

/-- Logs an error in an LD's AER (R360). -/
def logLd (i : Nat) (e : ErrKind) (s : State) : State := logLdAs false i e s

/-- Logs an error of a posted or other request in a function's AER. -/
def logFn (posted : Bool) (f : Fn) (e : ErrKind) (s : State) : State :=
  match f with
  | .pf0 p => logPortAs posted p.val e s
  | .ld p n => logLdAs posted (16 * p.val + n.val) e s

/-- The partitions with a bound LD on a port, ascending. -/
def portParts (s : State) (port : Nat) : List Nat := (List.range 64).filter fun p => (portsOf s p).contains port

/-! ### PF0's interrupts (R340) -/

/-- A bit of PF0's interrupt status is set and enabled. -/
def intActive (s : State) (port : Nat) : Bool := (portOf s port).intStatus &&& (portOf s port).intEnable != 0

/-- Signals after PF0's status, enables or interrupt mode changed: MSI once per rising of the condition, else INTA. -/
def intSignal (port : Nat) (before : Bool) (s : State) : State :=
  let p := portOf s port
  let now := intActive s port
  let s1 :=
    if p.msiEnable && now && ! before then
      if p.msiMask then modPort port (fun q => { q with msiPending := true }) s
      else emit .msi [port, p.msiAddr, p.msiData] [] s
    else s
  let level := now && ! p.msiEnable && ! p.intDisable
  if level == p.inta then s1 else emit .inta [port, ofBool level] [] (modPort port (fun q => { q with inta := level }) s1)

/-- Changes PF0 of a port, and signals what the change calls for. -/
def withInt (port : Nat) (f : Port → Port) (s : State) : State := intSignal port (intActive s port) (modPort port f s)

/-- Sets bits of PF0's interrupt status. -/
def setInt (port bit : Nat) (s : State) : State := withInt port (fun p => { p with intStatus := p.intStatus ||| BitVec.ofNat 5 (2 ^ bit) }) s

/-- Sets a bit of the interrupt status of every port: a device-wide source. -/
def setIntAll (bit : Nat) (s : State) : State := (List.range 4).foldl (fun u p => setInt p bit u) s

/-- The one MSI vector becomes unmasked: a pending message goes out. -/
def flushMsi (port : Nat) (s : State) : State :=
  let p := portOf s port
  if p.msiPending && p.msiEnable && ! p.msiMask then
    emit .msi [port, p.msiAddr, p.msiData] [] (modPort port (fun q => { q with msiPending := false }) s)
  else s

/-! ### LTR and L1 (R343, R344) -/

/-- The LTR state of a port: 0 DEADLINE, 1 ACTIVE, 2 IDLE, 3 QUIESCENT (Table 9-9). -/
def ltrState (s : State) (port : Nat) : Nat :=
  let mine := s.queue.cmds.filter fun q => q.2.ring / 1024 == port
  if mine.any fun q => q.2.bits 63 32 != 0 then 0
  else if ! mine.isEmpty || s.cmp.runs.any (fun r => r.port == port) then 1
  else if s.queue.rings.any fun q => q.1 / 1024 == port && ringState s q.1 == 1 then 2 else 3

/-- The largest LTR value, with its scale and requirement bit, that does not exceed a number of ns; 0 is no requirement. -/
def ltrCode (us : Nat) : Nat :=
  if us == 0 then 0
  else match (List.range 6).find? (fun k => us * 1000 / 32 ^ k ≤ 1023) with
    | some k => us * 1000 / 32 ^ k + put k 3 10 + put 1 1 15
    | none => 1023 + put 5 3 10 + put 1 1 15

/-- The object of an LTR state (Table 9-16). -/
def ltrUs (s : State) (st : Nat) : Nat :=
  scalar s 0x2900 (st + 1) (if st == 0 then 1 else if st == 1 then 10 else if st == 2 then 1000 else 0)

/-- A port reports a changed LTR state, at once or at the end of the running interval. -/
def ltrUpdate (port : Nat) (s : State) : State :=
  let p := portOf s port
  let st := ltrState s port
  if ! p.ltrEnable || ! p.up || p.ltrSent == some st then
    (if p.ltrDue && p.ltrSent == some st then modPort port (fun q => { q with ltrDue := false }) s else s)
  else if p.ltrWait then (if p.ltrDue then s else modPort port (fun q => { q with ltrDue := true }) s)
  else emit .ltr [port, st, ltrCode (ltrUs s st)] []
    (modPort port (fun q => { q with ltrSent := some st, ltrWait := true, ltrDue := false, l1 := false }) s)

/-- The ports on which an output goes out (R344). -/
def sentOn (e : Emission) : List Nat :=
  match e.kind with
  | .memData | .memCmp | .record | .msix | .msi | .inta | .busWrite | .busRead | .ltr | .errMessage => [e.args.headD 0]
  | .ioCompletion | .cfgCompletion | .mailbox | .doe =>
    let f := e.args.headD 0
    [if f < 16 then f else (f - 16) / 16]
  | .purlinAck | .purlinReplay | .odResponse | .spdm | .ideKm | .fmApi | .l1Request | .train | .thermtrip | .alert | .tdo | .ibi => []

/-- A port is in L1: it asked for it, has had no work since, and has sent nothing, since it returns to L0 before it sends (R344). -/
def inL1 (s : State) (port : Nat) : Bool :=
  let p := portOf s port
  p.l1 && ! (s.out.take (s.out.length - p.l1At)).any fun e => (sentOn e).contains port

/-- Every port looks at its LTR state, and leaves L1 where it has work. -/
def pumpLtr (s : State) : State :=
  (List.range 4).foldl (fun u p =>
    let v := ltrUpdate p u
    if (portOf v p).l1 && ltrState v p < 2 then modPort p (fun q => { q with l1 := false }) v else v) s

/-! ### Mastering stops and starts (R349) -/

/-- The tags that an LD has outstanding. -/
def tagsOfLd (s : State) (i : Nat) : List (Nat × Tag) :=
  (portOf s (i / 16)).tags.filter fun q => q.2.ld == i % 16 && ! q.2.quarantined

/-- The run and frame that a read is for. -/
def useRun : TagUse → Nat × Nat
  | .step r f _ _ _ _ _ => (r, f)
  | .poll r f => (r, f)
  | .append r _ => (r, 0)

/-- A remote request of a run has failed (R250): the run ends, or its append does. -/
def remoteFails (u : TagUse) (status : Nat) (s : State) : State :=
  match u with
  | .append r _ => match runOf s r with | some q => closeRun q status s | none => s
  | .step r f n _ _ _ _ => faultRun r f n status s
  | .poll r f => faultRun r f 0 status s

/-- A freeze of an LD meets the fetches of its rings that are in progress: each of their descriptors completes after the lift
(R271). -/
def cutFetches (i status : Nat) (s : State) : State :=
  s.setQueue { s.queue with rings := s.queue.rings.map fun q =>
    if q.1 / 64 == i && q.2.fetch == 1 then (q.1, { q.2 with fetch := status }) else q }

/-- Mastering stops for an LD: its outstanding requests are retired, their tags quarantined, and the runs that wait for
them, or whose append does, end with a status (R349, R354). -/
def stopMastering (i status : Nat) (s : State) : State :=
  let out := tagsOfLd s i
  let waits := (portOf s (i / 16)).tagWaits.filter (·.ld == i % 16)
  let s1 := modPort (i / 16) (fun p => { p with
    tags := p.tags.map fun q => if q.2.ld == i % 16 then (q.1, { q.2 with quarantined := true }) else q
    tagWaits := p.tagWaits.filter (·.ld != i % 16) }) (cutFetches i status s)
  let s2 := out.foldl (fun u q => remoteFails q.2.use status u) s1
  waits.foldl (fun u w => remoteFails w.use status u) s2

/-- The runs whose home LD this is end with a status. -/
def endRuns (i status : Nat) (s : State) : State :=
  (s.cmp.runs.filter fun r => r.port * 16 + r.ld == i).foldl (fun u r => abortRun r.id status u) s

/-- A freeze of an LD may have lifted: held records are written, and reads that waited go out (R271). -/
def liftFreeze (i : Nat) (s : State) : State := if ldFrozen s i then s else flushPba i (flushHeld i s)

/-- Every LD of a port. -/
def ldsAt (port : Nat) : List Nat := span (16 * port) 16

/-! ### Containment (R353 to R355) -/

/-- A port's LDs are contained. (DEDUCED, log entry 64.) -/
def contain (port cause : Nat) (s : State) : State :=
  if (portOf s port).cause != 0 then s
  else
    let s1 := setInt port 0 (modPort port (fun p => { p with cause := cause }) s)
    let s2 := (ldsAt port).foldl (fun u i => stopMastering i 0x31 (endRuns i 0x31 u)) s1
    raiseEach 0x0901 (portParts s port) cause (count 0x3090 4 s2)

/-- Containment of a port ends: held records are written (R271), or were discarded by a reset. -/
def uncontain (port : Nat) (s : State) : State :=
  let s1 := modPort port (fun p => { p with cause := 0, refused := false }) s
  raiseEach 0x0902 (portParts s port) 0 (setInt port 1 ((ldsAt port).foldl (fun u i => liftFreeze i u) s1))

/-- A write of RELEASE = 1 (R355). -/
def releasePort (port : Nat) (s : State) : State :=
  let p := portOf s port
  if p.cause == 0 then s
  else if ! p.up || p.cause == 5 then modPort port (fun q => { q with refused := true }) s
  else uncontain port s

/-! ### Links (R330, R568) -/

/-- The CDATs of a port's functions change. -/
def advanceCdat (port : Nat) (s : State) : State :=
  (ldsAt port).foldl (fun u i => modLd i (fun l => { l with cdatSeq := (l.cdatSeq + 1) % 2 ^ 32 }) u)
    (modPort port (fun p => { p with cdatSeq := (p.cdatSeq + 1) % 2 ^ 32 }) s)

/-- The link has left L0, or is sent to Detect: its link keys are cleared (R470). -/
def linkGone (port : Nat) (s : State) : State :=
  modPort port (fun p => { p with up := false, l1 := false })
    (s.setSec { s.sec with ide := s.sec.ide.filter fun q => q.1 / 4 != port })

/-- The SPDM exchanges and secured sessions of a function end, with their keys (R467); LD index or PF0 by its number. -/
def endSpdmAt (code : Nat) (s : State) : State :=
  let mine := fun (a : SpdmAt) => match a with
    | .doe f => fnCode f == code
    | .i3c => false
  s.setSec { s.sec with
    sessions := s.sec.sessions.filter fun q => ! mine q.2.at_
    waits := s.sec.waits.filter fun w => ! mine w.at_
    responders := MapOps.erase code s.sec.responders }

/-- A port reaches L0 (R330, R331): it is used from 16 GT/s and x8 on. In Safelight its PF0 shows INT_SAFELIGHT (R515). -/
def reachL0 (port rate width : Nat) (mld flits tags14 : Bool) (s : State) : State :=
  if rate == 0 || 3 < rate || (width != 8 && width != 16) then emit .train [port] [] (raise 0x0903 none port (linkGone port s))
  else
    let p := portOf s port
    let s1 := modPort port (fun q => { q with
      up := true, rate := rate, width := width, mld := mld, flits := flits || rate == 3, tags14 := tags14, l1 := false
      markFreeze := q.markFreeze && q.mark }) s
    let s2 := if p.rate == rate && p.width == width then s1 else advanceCdat port s1
    let s3 := if rate < 3 || width < 16 then raise 0x0904 none port s2 else s2
    let s4 := if mld then s3 else raise 0x0905 none port s3
    let s5 := if s.start.stage == .safelight then setInt port 4 s4 else s4
    (ldsAt port).foldl (fun u i => liftFreeze i u) (setInt port 2 s5)

/-- A write of n to PortQuiesce (R568). -/
def quiesce (port : Nat) (s : State) : State :=
  (ldsAt port).foldl (fun u i => stopMastering i 0x30 u) (modPort port (fun p => { p with mark := true, markFreeze := true }) s)

/-- A write of 0x80 + n to PortQuiesce (R568). -/
def unquiesce (port : Nat) (s : State) : State :=
  if ! (portOf s port).mark then s
  else (ldsAt port).foldl (fun u i => liftFreeze i u) (modPort port (fun p => { p with mark := false, markFreeze := false }) s)

/-! ### Function level reset (R350 to R352) -/

/-- The commands in flight of an LD's rings. -/
def cmdsOfLd (s : State) (i : Nat) : List Nat := (s.queue.cmds.filter fun q => q.2.ring / 64 == i).map (·.1)

/-- An FLR of an LD begins (Table 9-12 events 1 and 2): no new step of its commands starts (event 4). (DEDUCED, log entry 63.) -/
def flrBegin (i : Nat) (s : State) : State :=
  let s1 := modLd i (fun l => { l with flr := true }) (endSpdmAt (16 + i) s)
  let s2 := (cmdsOfLd s1 i).foldl (fun u c => withdraw (.cmd c) (modCmd c (fun q => { q with discard := true }) u)) s1
  let s3 := stopMastering i 0x25 (endRuns i 0x25 s2)
  (s3.share.expos.filter fun q => q.2.ld == i && q.2.stage != 3).foldl (fun u q => abortExpo q.1 0x25 q.1 u) s3

/-- R351: DROP of the extents that an FLR scrubs. -/
def scrubOnFlr (i part : Nat) (s : State) : State :=
  if ! bitAt (scalar s 0x2900 6 0) i then s
  else if ldsOf s part != [i] then count 0x3090 6 s
  else
    let sess := (s.sess.recs.filter fun q => q.2.part == part).flatMap fun q => kvAll s q.2 ++ logAll s q.2
    let pfx := (s.sess.prefixes.filter fun q => q.2.part == part).flatMap fun q => pfxDevs s q.2
    let keep := sess ++ pfx
    let regs := s.cmp.registry.flatMap fun q => devExts s q.2.part q.2.first q.2.extents
    let jobs := s.cmp.regJobs.flatMap fun j => devExts s j.part j.first j.extents
    (s.tier.exts.map (·.1)).foldl (fun u e =>
      if mappers s e == [part] && ! keep.contains e && ! regs.contains e && ! jobs.contains e
          && ! (tilesOf e).any (fun k => (tdeOf s k).claimed) && extUp s e then dropNow e u else u) s

/-- The registers of an LD take their After reset values (Table 9-12 event 5); decoders and the CXL DVSEC stay. -/
def resetLd (l : Ld) : Ld :=
  { decoders := l.decoders, notCommitted := l.notCommitted, memEnable := l.memEnable, cdatSeq := l.cdatSeq, cdatLen := l.cdatLen }

/-- The rings of an LD are reset, and records held for them are discarded. -/
def resetRings (i : Nat) (s : State) : State :=
  s.setQueue { s.queue with
    rings := s.queue.rings.filter fun q => q.1 / 64 != i
    heldRecords := s.queue.heldRecords.filter fun h => h.1 / 64 != i }

/-- The mailbox of a function takes its After reset values. -/
def resetMailbox (code : Nat) (s : State) : State := s.setLink { s.link with mailboxes := MapOps.erase code s.link.mailboxes }

/-- An FLR of an LD is complete (Table 9-12 events 3 to 6), once the runs whose home it is are idle. (DEDUCED, log entry 63.) -/
def flrEnds (i : Nat) (s : State) : State :=
  if ! (ldOf s i).flr || s.cmp.runs.any (fun r => r.port * 16 + r.ld == i && ! r.appending) then s
  else
    let s1 := (cmdsOfLd s i).foldl (fun u c => killCmd c 0x25 (modCmd c (fun q => { q with discard := true }) u)) s
    let s2 := resetMailbox (16 + i) (modLd i resetLd (resetRings i s1))
    let part := ldPart s (i / 16) (i % 16)
    let s3 := match part with | some p => scrubOnFlr i p s2 | none => s2
    raise 0x0906 part 0 (count 0x3090 5 s3)

/-- The registers of PF0 that its FLR resets (R352); containment, the link and the tags stay. -/
def resetPf0 (p : Port) : Port :=
  { p with
    intStatus := 0, intEnable := 0, msiEnable := false, msiMask := false, msiAddr := 0, msiData := 0, msiPending := false
    intDisable := false, ltrEnable := false, l1Enable := false, ltrSent := none, ltrDue := false, aer := 0, aerMask := 0
    aerSeverity := 0x7F800, ras := 0, winOp := 0, winCtx := 255, winOffset := 0, winOverrun := false, winBusy := false
    winStatus := 0, winLen := 0, winData := [], refused := false, maxPayload := 128, maxRead := 512, cplTimeout := 0
    d3 := false, bar0 := 0, flitErrors := 0 }

/-- An FLR of PF0 (R352). -/
def pf0Reset (port : Nat) (s : State) : State :=
  let mine := fun (r : Road) => match r with | .window p => p.val == port | _ => false
  let s0 := resetMailbox port (withInt port resetPf0 (endSpdmAt port s))
  let s1 := if s.start.stage == .safelight then setInt port 4 s0 else s0
  s1.setOd { s1.od with
    xfers := s1.od.xfers.filter (fun q => ! mine q.2.road)
    persisting := s1.od.persisting.map fun j => if mine j.road then { j with answers := false } else j
    snapshots := s1.od.snapshots.filter fun q => ! mine q.road }

/-- PERST# of a port falls (R352): the link goes down, PF0 and every LD are reset, and a containment of cause 1 to 4 ends.
(DEDUCED, log entry 63.) -/
def perstFalls (port : Nat) (s : State) : State :=
  let s1 := modPort port (fun p => { p with perst := true, mark := false, markFreeze := false }) (linkGone port s)
  let s2 := (ldsAt port).foldl (fun u i =>
    modLd i (fun l => { l with decoders := [], notCommitted := [], memEnable := false }) (flrBegin i u)) s1
  let s3 := pf0Reset port ((ldsAt port).foldl (fun u i => resetRingsHeld i u) s2)
  if (portOf s port).cause != 0 && (portOf s port).cause != 5 then
    raiseEach 0x0902 (portParts s port) 0 (modPort port (fun p => { p with cause := 0 }) s3)
  else s3
where
  /-- Held records of an LD are discarded. -/
  resetRingsHeld (i : Nat) (s : State) : State :=
    s.setQueue { s.queue with heldRecords := s.queue.heldRecords.filter fun h => h.1 / 64 != i }

/-! ### HDM decoders (R333) -/

/-- log2 of a power of two. -/
def log2Of (n : Nat) : Nat := Nat.log2 n

/-- Two ranges of addresses meet. -/
def spansMeet (a la b lb : Nat) : Bool := decide (a < b + lb) && decide (b < a + la)

/-- A write of an HDM decoder's Commit bit (R333). Decoders are committed in ascending order, at ascending addresses, and a decoder that
Lock On Commit has not locked is uncommitted in descending order, as CXL 3.1 has it. (PRESUMED, log entry 109.) -/
def commitDecoder (i n : Nat) (control : DecoderControl) (base size skip : Nat) (s : State) : State :=
  let l := ldOf s i
  let above := l.decoders.any fun e => decide (n < e.1)
  match MapOps.get? n l.decoders with
  | some d =>
    if control.commit || d.locked || above then s else modLd i (fun x => { x with decoders := MapOps.erase n x.decoders }) s
  | none =>
    if ! control.commit then modLd i (fun x => { x with notCommitted := setErase n x.notCommitted }) s
    else
      let q := 2 ^ 28
      let good := [1, 2, 4, 8, 16].contains control.ways && [256, 512, 1024, 2048, 4096, 8192, 16384].contains control.grain
      let d : Decoder :=
        { base := base / q * q, size := size / q * q, skip := skip / q * q, ways := log2Of control.ways, grain := log2Of control.grain
          locked := control.lock }
      let order := ! above && (List.range n).all fun m => (MapOps.get? m l.decoders).any fun e => decide (e.base + e.size ≤ d.base)
      let ds := MapOps.insert n d l.decoders
      let start := decoderDpa ds n d
      let len := fun (e : Decoder) => e.size / 2 ^ e.ways
      let meet := l.decoders.any fun e =>
        spansMeet d.base d.size e.2.base e.2.size || spansMeet start (len d) (decoderDpa ds e.1 e.2) (len e.2)
      if good && order && ! meet && start + len d < 2 ^ 52 then
        modLd i (fun x => { x with decoders := ds, notCommitted := setErase n x.notCommitted }) s
      else modLd i (fun x => { x with notCommitted := setInsert n x.notCommitted }) s

/-! ### Completions (R346, R348) -/

/-- A completion that matches no outstanding tag is discarded (R348). -/
def lateCompletion (port : Nat) (t : Option Tag) (s : State) : State :=
  count 0x3090 2 (match t with
    | some g => logLd (16 * port + g.ld) .unexpectedCompletion s
    | none => logPort port .unexpectedCompletion s)

/-- A piece of a read lands at its destination. One for an older epoch of its frame is discarded and counted (R222). -/
def landPiece (u : TagUse) (bytes : List Byte) (bad : Bool) (s : State) : State :=
  match u with
  | .step r f _ k tray phys epoch =>
    if (frameOf s phys).epoch != epoch then count 0x3050 4 s
    else match (runOf s r).bind fun x => seqOf x f with
    | none => s
    | some q =>
      let fr := frameOf s phys
      let put := fun (u : Frame) => trayStore tray bytes bad u
      match q.issued.find? (·.seq == k) with
      | none => modFrame phys put s
      | some i =>
        let own := [(tray, bytes.length)]
        modIssue r f i (fun j => { j with toCome := j.toCome - bytes.length, wrote := j.wrote ++ [trayPiece fr tray bytes.length] })
          (modFrame phys (fun u => keepRivals i.word (rivals q i.word s) own fr (put u)) s)
  | .poll r f => if bad then faultRun r f 0 0x46 s else wordArrives r f (ofBytes (bytes.take 4)) s
  | .append r dpa =>
    match runOf s r with
    | none => s
    | some x =>
      applyAppend r false (setRun { x with copies := x.copies ++ [(dpa, bytes, bad)], toCopy := x.toCopy - bytes.length } s)

/-- A completion arrives (R346, R249, R250). -/
def completion (port tag : Nat) (st : CplStatus) (bad : Bool) (bytes : List Byte) (s : State) : State :=
  match MapOps.get? tag (portOf s port).tags with
  | none => lateCompletion port none s
  | some g =>
    if g.quarantined then lateCompletion port (some g) s
    else
      let free := modPort port (fun p => { p with tags := MapOps.erase tag p.tags })
      match st with
      | .success =>
        let b := bytes.take g.remaining
        let s1 := if bad then logLd (16 * port + g.ld) .poisonedCompletion s else s
        let left := g.remaining - b.length
        let s2 := if left == 0 then free s1
          else modPort port (fun p => { p with
            tags := MapOps.insert tag { g with remaining := left, use := useAt g.use b.length } p.tags }) s1
        landPiece g.use b bad s2
      | _ => remoteFails g.use 0x46 (free s)

/-- A request times out (R348). -/
def tagTimeout (port tag : Nat) (s : State) : State :=
  match MapOps.get? tag (portOf s port).tags with
  | none => s
  | some g =>
    if g.quarantined then s
    else
      let s1 := modPort port (fun p => { p with tags := MapOps.insert tag { g with quarantined := true } p.tags }) s
      remoteFails g.use 0x46 (countFor 0x3093 g.part (count 0x3090 1 (logLd (16 * port + g.ld) .completionTimeout s1)))

/-! ### CDAT, mailbox and CXL FM API answers (R305, R337, R339) -/

/-- The DSMAS length of an LD (Table 9-4). -/
def dsmas (s : State) (i : Nat) : Nat :=
  match ldPart s (i / 16) (i % 16) with
  | none => 0
  | some p =>
    let top := (rtRows s).foldl (fun a q => if rtValid q.2 && rtPart q.2 == p && ! rtDraining q.2
      then max a (rtDpaFirst q.2 + rtExtents q.2) else a) 0
    ceilDiv (top * 2097152) (2 ^ 28) * 2 ^ 28

/-- The bandwidth that a port's CDAT gives, in MB/s (Table 9-4). -/
def cdatRate (s : State) (port : Nat) : Nat :=
  let p := portOf s port
  115000 * p.width / 16 * (if p.rate == 3 then 4 else if p.rate == 2 then 2 else 1) / 4

/-- The LDs whose DSMAS length may not be what their CDAT last gave: those with state of their own, and those in an LD_MASK. -/
def cdatLds (s : State) : List Nat :=
  dedup (s.link.lds.map (·.1) ++ (List.range 64).flatMap fun p => ldsOf s p)

/-- The CDAT sequence of each LD follows its DSMAS length (R337). -/
def pumpCdat (s : State) : State :=
  (cdatLds s).foldl (fun u i =>
    let n := dsmas u i
    if (ldOf u i).cdatLen == n then u
    else modLd i (fun l => { l with cdatLen := n, cdatSeq := (l.cdatSeq + 1) % 2 ^ 32 }) u) s

/-- A CXL.io request to an LD's BAR passes steps 1 and 2 of R304, and R471. (DEDUCED, log entry 60.) -/
def barOpen (s : State) (i spid : Nat) : Bool :=
  (requester s (i / 16) (i % 16) spid false).isSome && ! ideRefuses s (i / 16) 0

/-- The LD index of a function, where it is an LD. -/
def fnLd : Fn → Nat
  | .pf0 p => 16 * p.val
  | .ld p n => 16 * p.val + n.val

/-- Health of an LD's device: 1 while it derates, or once a tier event named the LD's partition (Table 9-8). -/
def unhealthy (s : State) (i : Nat) : Bool :=
  s.pkg.derating || match ldPart s (i / 16) (i % 16) with | some p => s.logs.tierEvents.contains p | none => false

/-- A BAR access to a function is taken by f, or gets UR, which a read is told (R338, R354, R357, R471). A function that is not served
answers nothing. -/
def barGate (f : Fn) (spid : Nat) (posted : Bool) (go : State → State) (s : State) : State :=
  let refuse := fun (u : State) =>
    logFn posted f .unsupportedRequest (if posted then u else emit .ioCompletion [fnCode f, 1, 0] [] u)
  match f with
  | .pf0 p => if ! (served s && presented s f) then s else if ideRefuses s p.val 0 then refuse s else go s
  | .ld p n =>
    let i := 16 * p.val + n.val
    if ! ldServed s i then s
    else if (ldOf s i).flr || contained s p.val || ! barOpen s i spid then refuse s else go s

/-- What the primary mailbox of a function answers to an opcode: the return code, 0 or Unsupported (0x15), and the payload (Table 9-8).
(PRESUMED, log entry 61.) -/
def mailboxAnswer (f : Fn) (op : Nat) (s : State) : Nat × List Byte :=
  let onLd := match f with | .pf0 _ => false | .ld _ _ => true
  let size := toBytes 8 (dsmas s (fnLd f))
  if op == 0x0001 then (0, slice s.sec.version 0 32 0)
  else if op == 0x0400 then (0, toBytes 4 Config.commandEffectsLog.length)
  else if op == 0x0401 then (0, Config.commandEffectsLog)
  else if onLd && op == 0x4000 then (0, size ++ size ++ toBytes 8 0)
  else if onLd && op == 0x4100 then (0, size)
  else if onLd && op == 0x4200 then (0, toBytes 1 (ofBool (unhealthy s (fnLd f))))
  else (0x15, [])

/-- A mailbox command runs: its answer stands in the mailbox's registers, and goes out. -/
def mailboxRun (f : Fn) (op : Nat) (s : State) : State :=
  let r := mailboxAnswer f op s
  emit .mailbox [fnCode f, op, r.1] r.2
    (s.setLink { s.link with mailboxes := MapOps.insert (fnCode f) { op := op, code := r.1, payload := r.2 } s.link.mailboxes })

/-- A command is written to a function's mailbox, with its doorbell (R339, R357). -/
def mailbox (f : Fn) (spid op : Nat) (s : State) : State := barGate f spid true (mailboxRun f op) s

/-- The mapped capacity of each LD of some ports, in bytes, 8 B each (R305). -/
def ldCapacities (s : State) (ports : List Nat) : List Byte :=
  ports.flatMap fun p => (ldsAt p).flatMap fun i =>
    let n := match ldPart s (i / 16) (i % 16) with
      | none => 0
      | some q => (rtRows s).foldl (fun a r => if rtValid r.2 && rtPart r.2 == q && ! rtDraining r.2 then a + rtExtents r.2 else a) 0
    toBytes 8 (n * 2097152)

end Sys2Proof.Machine
end

