-- ==== Sys2Proof/Machine/DramOps.lean ====
section
/-! DEFINITION. The DRAM controllers of chapter 10: calibration, refresh, queues, replay, self-refresh, and what their
reads return (R371 to R392). -/

namespace Sys2Proof.Machine

open Sys2Proof

/-- A controller's number: BCHn at n, HSm at 16 + m. -/
def ctlNo : Ctl → Nat
  | .ddr n => n.val
  | .hbm m => 16 + m.val

/-- A controller works: it is trained and not failed. -/
def ctlUp (s : State) (n : Nat) : Bool := (ctlOf s n).state == 1

/-! ### Where a sector lies (R366 to R368). Only the DRAM sees these coordinates -/

/-- The channel byte address C of byte A of an MD's Batten (R367). -/
def channelByte (s : State) (md a : Nat) : Nat :=
  let g := s.dram.grain
  if channelTrained s (2 * md) && channelTrained s (2 * md + 1) then a / (2 * g) * g + a % g else a

/-- The coordinates of Table 10-2. -/
structure DramPlace where
  byte : Nat
  subch : Nat
  colLo : Nat
  bg : Nat
  colHi : Nat
  ba : Nat
  cid : Nat
  rank : Nat
  dimm : Nat
  row : Nat
  deriving DecidableEq, Repr

/-- The coordinates of a channel byte address, with fields of c, r and d bits for the chip-ID, rank and DIMM (R368). -/
def dramPlace (c r d a : Nat) : DramPlace :=
  { byte := field a 5 0, subch := field a 6 6, colLo := field a 8 7, bg := field a 11 9, colHi := field a 16 12, ba := field a 18 17
    cid := a / 2 ^ 19 % 2 ^ c, rank := a / 2 ^ (19 + c) % 2 ^ r, dimm := a / 2 ^ (19 + c + r) % 2 ^ d, row := a / 2 ^ (19 + c + r + d) }

/-- The pseudo-channel, bank and row-and-column index of a stack byte, with a number of banks per pseudo-channel (R366). -/
def ridgePlace (banks a : Nat) : Nat × Nat × Nat := (field a 10 6, a / 2048 % banks, a / 2048 / banks)

/-- Width of the chip-ID field (R368). -/
def chipBits (s : State) : Nat := Nat.log2 s.dram.dies

/-- Width of the rank field (R368). -/
def rankBits (s : State) : Nat := Nat.log2 s.dram.ranks

/-- Width of the DIMM field (R368). -/
def dimmBits (s : State) : Nat := Nat.log2 s.dram.dpc

/-- The rank or pseudo-channel, the bank and the row of a sector of a controller (R366, R368). A row of a pseudo-channel holds 1 KiB.
(PRESUMED, log entry 115.) -/
def sectorPlace (s : State) (n sector : Nat) : Nat × Nat × Nat :=
  if n < 16 then
    let p := dramPlace (chipBits s) (rankBits s) (dimmBits s) (64 * sector)
    let rank := p.dimm * 2 ^ rankBits s + p.rank
    (rank, (((rank * 2 ^ chipBits s + p.cid) * 2 + p.subch) * 8 + p.bg) * 4 + p.ba, p.row)
  else
    let b := max 1 (ctlOf s n).banks
    let p := ridgePlace b (64 * sector)
    (p.1, p.1 * b + p.2.1, p.2.2 / 16)

/-- The sectors of a channel or stack. -/
def ctlSectors (s : State) (n : Nat) : Nat := (if n < 16 then s.dram.dpc * s.dram.dimmGiB else 24) * 2 ^ 24

/-- The slot and sector of a tile that a sector of a controller is, if it is one of a tile slot (R366, R367). -/
def slotAt (s : State) (n sector : Nat) : Option (Nat × Nat) :=
  let tier : Tier := if n < 16 then .batten else .ridge
  let md := if n < 16 then n / 2 else n - 16
  let c := 64 * sector
  let g := s.dram.grain
  let both := n < 16 && channelTrained s (2 * md) && channelTrained s (2 * md + 1)
  let a := if both then c / g * (2 * g) + n % 2 * g + c % g else c
  if a / 65536 < slotCount s tier md then some (slotKey tier md (a / 65536), a % 65536 / 64) else none

/-- The bytes of a sector of a controller as memory holds them; those of the reserves are the directory's and the sessions' own. -/
def ctlBytes (s : State) (n sector : Nat) : List Byte :=
  match slotAt s n sector with
  | some (k, i) => sectorBytes s k i
  | none => zeros 64

/-! ### Calibration and refresh (R371, R372) -/

/-- A calibration item belongs to a kind of controller, and names a rank, a pseudo-channel or a channel of it (Table 10-3). -/
def itemOf (s : State) (item : CalItem) (n place : Nat) : Bool :=
  match item with
  | .ddrZq | .ddrDqs | .ddrMr4 => decide (n < 16) && decide (place < s.dram.dpc * s.dram.ranks)
  | .dimmThermal => decide (n < 16)
  | .hbmTiming => decide (16 ≤ n) && decide (place < 32)
  | .hbmTemperature => decide (16 ≤ n) && decide (place < 16)
  | .phyImpedance => true

/-- The ns for which an item blocks its channel, rank or pseudo-channel (Table 10-3). -/
def itemNs : CalItem → Nat
  | .ddrZq => 30
  | .ddrDqs => 500
  | .ddrMr4 => 20
  | .dimmThermal => 0
  | .hbmTiming => 1000
  | .hbmTemperature => 20
  | .phyImpedance => 2000

/-- An item that runs blocks what a request goes to: the channel or stack, one rank, one pseudo-channel, or the two pseudo-channels of a
channel of a stack (Table 10-3). -/
def itemBlocks (item : CalItem) (place at_ : Nat) : Bool :=
  match item with
  | .phyImpedance => true
  | .hbmTemperature => at_ / 2 == place
  | .dimmThermal => false
  | _ => at_ == place

/-- A controller serves no request to a place now, for an item that runs there (R371). -/
def placeBlocked (s : State) (c : DramCtl) (at_ : Nat) : Bool :=
  c.blocked.any fun b => decide (nowUs s < b.2.2) && itemBlocks b.1 b.2.1 at_

/-- An item runs: it blocks its place for the time of Table 10-3, in whole µs, and is charged as background work (R371, R432).
(DESIGN CHOICE, log entry 66.) -/
def runItem (n : Nat) (s : State) (item : CalItem × Nat) : State :=
  let rate := if n < 16 then s.dram.rate * 8 else 819200
  let us := ceilDiv (itemNs item.1) 1000
  let s1 := if us == 0 then s
    else modCtl n (fun c => { c with
      blocked := (c.blocked.filter fun b => decide (nowUs s < b.2.2)) ++ [(item.1, item.2, nowUs s + us)] }) s
  charge backgroundMaster (if n < 16 then 1 else 0) (ceilDiv (itemNs item.1 * rate) 64000) s1

/-- A calibration item falls due: during self-refresh it waits for the exit, else it runs now (R371).
(DESIGN CHOICE, log entry 66.) -/
def calibration (item : CalItem) (n place : Nat) (s : State) : State :=
  if ! ctlUp s n || ! itemOf s item n place then s
  else if ! (ctlOf s n).selfRefresh then runItem n s (item, place)
  else modCtl n (fun c => { c with calDue := if c.calDue.contains (item, place) then c.calDue else c.calDue ++ [(item, place)] }) s

/-- A refresh closes a bank: in all-bank mode every bank of its rank, in same-bank mode one bank of each of its bank groups, and
one bank of a pseudo-channel in HBM3 (R372). -/
def refreshCloses (s : State) (n rank bank b : Nat) : Bool :=
  if n < 16 then b / (64 * 2 ^ chipBits s) == rank && (s.dram.mode == 0 || b % 4 == bank % 4)
  else b == rank * max 1 (ctlOf s n).banks + bank % max 1 (ctlOf s n).banks

/-- A refresh interval of a rank or pseudo-channel expires (R372): postponed while a burst of work is finished, by at most four intervals;
in doubled refresh each interval takes two refreshes. (DESIGN CHOICE, log entry 65.) -/
def refresh (n rank bank : Nat) (doubled postpone : Bool) (s : State) : State :=
  if ! ctlUp s n then s
  else
    let c := ctlOf s n
    let was := c.doubled.contains rank
    let late := MapOps.getD rank 0 c.postponed
    let s1 := modCtl n (fun q => { q with doubled := if doubled then setInsert rank q.doubled else setErase rank q.doubled }) s
    let s2 := if postpone && late < 4 then
        count 0x30A0 0x0A (modCtl n (fun q => { q with postponed := MapOps.insert rank (late + 1) q.postponed }) s1)
      else modCtl n (fun q => { q with
        postponed := MapOps.erase rank q.postponed, refreshes := q.refreshes + (late + 1) * (if doubled then 2 else 1)
        openRows := q.openRows.filter fun p => ! refreshCloses s n rank bank p.1 }) s1
    judgeRefresh (doubled && ! was) s2

/-! ### Queues (R373, R374) -/

/-- The level of a port by PortPriority (Table 10-4, Table 10-9). -/
def portLevel (s : State) (p : DramPort) : Nat :=
  let w := scalar s 0x2600 5 0xDA
  match p with
  | .host => field w 1 0
  | .program => field w 3 2
  | .mover => field w 5 4
  | .directory => field w 7 6
  | .background => field w 9 8

/-- Queued requests of one direction. -/
def queuedKind (c : DramCtl) (isWrite : Bool) : Nat := (c.queue.filter (·.isWrite == isWrite)).length

/-- There is room for a request: 64 reads and 64 writes on a channel, 256 requests on a stack (Table 10-6).
(DESIGN CHOICE, log entry 65.) -/
def queueRoom (c : DramCtl) (n : Nat) (isWrite : Bool) : Bool :=
  if n < 16 then decide (queuedKind c isWrite < 64) else decide (c.queue.length < 256)

/-- A read and a write of the same bank and row are queued (R374). -/
def rowMatch (q : List DramReq) (bank : Nat) : Bool :=
  q.any fun a => a.bank == bank && ! a.isWrite && q.any fun b => b.bank == bank && b.isWrite && a.row == b.row

/-- Writes drain from 48 queued until 16 are left (R374). -/
def drainState (c : DramCtl) : DramCtl :=
  let n := queuedKind c true
  { c with draining := if 48 ≤ n then true else if n ≤ 16 then false else c.draining }

/-- A request reaches a controller (R373, R374, R379): it acknowledges a write that it takes, and keeps its data; one that finds
no room stays outside. (DESIGN CHOICE, log entry 65.) -/
def dramRequest (n : Nat) (port : DramPort) (isWrite : Bool) (sector : Nat) (s : State) : State :=
  let c := ctlOf s n
  if ! ctlUp s n || ! queueRoom c n isWrite || ctlSectors s n ≤ sector then s
  else
    let p := sectorPlace s n sector
    let r : DramReq :=
      { id := s.dram.nextReq, port := port, isWrite := isWrite, sector := sector, place := p.1, bank := p.2.1, row := p.2.2
        data := if isWrite then ctlBytes s n sector else [], got := none, starved := false }
    let q := c.queue ++ [r]
    let s1 := if rowMatch q r.bank && ! rowMatch c.queue r.bank then count 0x30A0 8 s else s
    let s2 := modCtl n (fun x => drainState { x with queue := q, powerDown := if n < 16 then x.powerDown else setErase r.place x.powerDown }) s1
    s2.setDram { s2.dram with nextReq := s.dram.nextReq + 1 }

/-- A request may be served now: not behind a match of its bank, and in the direction that is preferred (R374), unless it has waited
StarveLimit (R373). -/
def mayServe (c : DramCtl) (r : DramReq) : Bool :=
  if rowMatch c.queue r.bank then ((c.queue.find? (·.bank == r.bank)).map (·.id)) == some r.id
  else if r.starved then true
  else if c.draining then r.isWrite || queuedKind c true == 0
  else ! r.isWrite || queuedKind c false == 0

/-- The better of two requests: starved first, then level, then row hit, then age; the first is the older. -/
def betterReq (s : State) (c : DramCtl) (a b : DramReq) : DramReq :=
  let rank := fun (r : DramReq) => (ofBool r.starved, portLevel s r.port, ofBool (MapOps.get? r.bank c.openRows == some r.row))
  let x := rank a
  let y := rank b
  let more := decide (x.1 < y.1) || (x.1 == y.1 && (decide (x.2.1 < y.2.1) || (x.2.1 == y.2.1 && decide (x.2.2 < y.2.2))))
  if more then b else a

/-- The request that a controller serves next (R373), of those that no calibration blocks. -/
def nextServed (s : State) (c : DramCtl) : Option DramReq :=
  let open_ := c.queue.filter fun r => ! placeBlocked s c r.place
  match open_.filter (mayServe c) with
  | [] => open_.head?
  | r :: rs => some (rs.foldl (betterReq s c) r)

/-- The bytes that a read returns: those of the newest write of its sector that waits, else those in memory (R374). -/
def readGets (s : State) (n : Nat) (c : DramCtl) (r : DramReq) : List Byte :=
  match (c.queue.filter fun w => w.isWrite && w.sector == r.sector).getLast? with
  | some w => w.data
  | none => ctlBytes s n r.sector

/-- A controller issues a request: its row is open, and the retry buffer keeps it, with its data, among its last 64 (R376). -/
def issueReq (s : State) (n : Nat) (r : DramReq) (c : DramCtl) : DramCtl :=
  let r1 := { r with got := if r.isWrite then none else some (readGets s n c r) }
  drainState { c with
    queue := c.queue.filter (·.id != r.id), openRows := MapOps.insert r.bank r.row c.openRows
    retry := (c.retry ++ [r1]).drop (c.retry.length - 63) }

/-- Serves a controller's queue; fuel counts requests. (DESIGN CHOICE, log entry 65.) -/
def serveQueue (n : Nat) : Nat → State → State
  | 0, s => s
  | f + 1, s =>
    match nextServed s (ctlOf s n) with
    | none => s
    | some r => serveQueue n f (modCtl n (issueReq s n r) s)

/-- What every controller serves in 1 µs: all that it has queued, unless an alert or self-refresh holds it (log entry 2). -/
def serveAll (s : State) : State :=
  s.dram.ctls.foldl (fun u q =>
    if q.2.alert || q.2.selfRefresh then u else serveQueue q.1 q.2.queue.length u) s

/-- A request has waited StarveLimit (R373). -/
def starve (n id : Nat) (s : State) : State :=
  modCtl n (fun c => { c with queue := c.queue.map fun r => if r.id == id then { r with starved := true } else r }) s

/-! ### Command parity and replay (R376, R377) -/

/-- An alert: issuing is held. -/
def parityAlert (n : Nat) (s : State) : State :=
  if ! ctlUp s n || (ctlOf s n).alert then s
  else count 0x30A0 5 (modCtl n (fun c => { c with alert := true }) s)

/-- The rows that stand open once every bank has been precharged and the buffered commands have been issued again in their order
(R376 steps 3 and 4). -/
def reissued (c : DramCtl) : Map Nat := c.retry.foldl (fun m r => MapOps.insert r.bank r.row m) []

/-- A buffered command is issued again: what a read returns is discarded where its first issue returned data (R376). -/
def reissue (s : State) (n : Nat) (c : DramCtl) (r : DramReq) : DramReq :=
  if r.isWrite || r.got.isSome then r else { r with got := some (readGets s n c r) }

/-- A replay of the episode has ended, or a wait has failed; the limit fails the channel or stack (R377). -/
def replayed (n : Nat) (ended : Bool) (s : State) : State :=
  if ! ctlUp s n || ! (ctlOf s n).alert then s
  else
    let s1 := count 0x30A0 6 (modCtl n (fun c => { c with
      alert := ! ended, episode := c.episode + 1, openRows := if ended then reissued c else c.openRows
      retry := if ended then c.retry.map (reissue s n c) else c.retry }) s)
    if 8 ≤ (ctlOf s1 n).episode then memoryFails n 0 s1 else s1

/-- 64 commands have completed without an alert. -/
def episodeEnds (n : Nat) (s : State) : State :=
  if (ctlOf s n).alert then s else modCtl n (fun c => { c with episode := 0 }) s

/-! ### Self-refresh and power-down (R378, R379) -/

/-- A channel idles for SelfRefreshIdle. -/
def enterSelfRefresh (n : Nat) (s : State) : State :=
  let c := ctlOf s n
  if ! ctlUp s n || scalar s 0x2600 4 200 == 0 || ! c.queue.isEmpty || ! c.calDue.isEmpty || c.selfRefresh || c.alert then s
  else count 0x30A0 9 (modCtl n (fun x => { x with selfRefresh := true, openRows := [] }) s)

/-- A channel has left self-refresh for the request that waits, and has run the calibration that fell due. -/
def exitSelfRefresh (n : Nat) (s : State) : State :=
  let c := ctlOf s n
  if c.selfRefresh && ! c.queue.isEmpty then
    modCtl n (fun x => { x with selfRefresh := false, calDue := [] }) (c.calDue.foldl (runItem n) s)
  else s

/-- A pseudo-channel without requests enters power-down. -/
def powerDown (m pseudo : Nat) (s : State) : State :=
  let c := ctlOf s (16 + m)
  if ! ctlUp s (16 + m) || c.queue.any (fun r => r.place == pseudo) then s
  else modCtl (16 + m) (fun x => { x with powerDown := setInsert pseudo x.powerDown }) s

/-! ### Reserved areas (R386, R392) -/

/-- Sectors of the Tile Directory in an MD's reserved Batten: one TDE a sector (R27). -/
def dirSectors (s : State) (md : Nat) : Nat :=
  if s.tier.dirMds.contains md then s.tier.battenTiles.getD md 0 else 0

/-- Sectors of an MD's reserved Batten: the Tile Directory, then the extent map. (DEDUCED, log entry 12.) -/
def battenSectors (s : State) (md : Nat) : Nat := s.tier.battenReserve.getD md 0 * 1024

/-- Sectors of a stack's reserve: 4 MiB of session records, then 16 KiB of prefix entries (R95). (DEDUCED, log entry 12.) -/
def ridgeSectors : Nat := 65536 + 256

/-- A TDE in a lost sector: its tile has no known home (R88). -/
def tdeLost (key : Nat) (s : State) : State :=
  if ((MapOps.get? key s.tier.tdes).isNone) then s
  else raise 0x0209 (some (tdeOf s key).part) 0 (poisonTile key true s)

/-- An extent-map entry in a lost sector (R386). -/
def entryLost (ext : Nat) (s : State) : State :=
  if s.tier.mapEntries ≤ ext || s.tier.badEntries.contains ext then s
  else
    let part := if (mappers s ext).isEmpty then none else some (ownerOf s ext)
    let s1 := loseExtents (· == ext) s
    let s2 := s1.setTier { s1.tier with badEntries := setInsert ext s1.tier.badEntries }
    match part with
    | some p => raise 0x0209 (some p) 0 s2
    | none => s2

/-- A session record is lost (R132): what runs for it ends with TIER_FAILED, and its extents stay as they are.
(DEDUCED, log entry 25.) -/
def loseRec (h : Nat) (s : State) : State :=
  match MapOps.get? h s.sess.recs with
  | none => s
  | some r =>
    let cmds := (s.queue.cmds.filter fun q => q.2.session == some h).map (·.1)
    let runs := s.cmp.runs.filter fun q => q.session == some h
    let s1 := dropWake h (dropSessPark false h (forget (.session h) (withdraw (.session h) s)))
    let s2 := runs.foldl (fun u q => abortRun q.id 0x22 u) s1
    let s3 := cmds.foldl (fun u c => killCmd c 0x22 u) s2
    let s4 := leavePfx r s3
    s4.setSess { s4.sess with recs := MapOps.erase h s4.sess.recs, attendWaits := s4.sess.attendWaits.filter (·.1 != h), ends := s4.sess.ends.filter (·.1 != h) }

/-- A prefix entry is lost (R132); its extents stay as they are. (DEDUCED, log entry 25.) -/
def losePfx (n : Nat) (s : State) : State :=
  let cmds := (s.queue.cmds.filter fun q => q.2.op == 0x11 && bitAt q.2.desc 147 && q.2.bits 139 128 == n).map (·.1)
  let s1 := cmds.foldl (fun u c => killCmd c 0x22 u) (dropSessPark true n (forget (.pfx n) s))
  s1.setSess { s1.sess with prefixes := MapOps.erase n s1.sess.prefixes }

/-- Records and prefix entries that a stack or a sector has lost, with RECORDS_LOST for each partition that held one. -/
def loseRecords (hs ns : List Nat) (s : State) : State :=
  let parts := hs.map (fun h => (sessOf s h).part) ++ ns.map (fun n => (pfxOf s n).part)
  raiseEach 0x0305 ((dedup parts).mergeSort (· ≤ ·)) 0 (ns.foldl (fun u n => losePfx n u) (hs.foldl (fun u h => loseRec h u) s))

/-- Records that are still kept although their stack has failed are lost now. -/
def pumpLost (s : State) : State :=
  if s.tier.ridgeDown == 0 then s
  else
    let hs := (s.sess.recs.filter fun q => recLost s q.1).map (·.1)
    let ns := (s.sess.prefixes.filter fun q => pfxLost s q.1).map (·.1)
    if hs.isEmpty && ns.isEmpty then s else loseRecords hs ns s

/-- An uncorrectable sector of a stack's reserve (R132). -/
def recordSector (md n : Nat) (s : State) : State :=
  if n < 65536 then
    let h := n / 2 * 8 + md
    let s1 := s.setSess { s.sess with lostRecs := setInsert h s.sess.lostRecs }
    if (MapOps.get? h s.sess.recs).isSome then loseRecords [h] [] s1 else s1
  else
    let ns := [(2 * (n - 65536)) * 8 + md, (2 * (n - 65536) + 1) * 8 + md]
    let s1 := s.setSess { s.sess with lostPfx := ns.foldl (fun l k => setInsert k l) s.sess.lostPfx }
    let held := ns.filter fun k => (MapOps.get? k s.sess.prefixes).isSome
    if held.isEmpty then s1 else loseRecords [] held s1

/-- An uncorrectable sector of a directory MD's reserve (R386): its TDE, or the eight entries in it. (DEDUCED, log entry 12.) -/
def directorySector (md n : Nat) (s : State) : State :=
  if n < dirSectors s md then
    match MapOps.get? (md * 2 ^ 28 + n / 32) s.tier.groups with
    | some ext => tdeLost (tileKey ext (n % 32)) s
    | none => s
  else
    let pos := (s.tier.dirMds.findIdx? (· == md)).getD 0
    (List.range 8).foldl (fun u j => entryLost (((n - dirSectors s md) * 8 + j) * s.tier.k + pos) u) s

/-- The tile whose TDE a sector of an MD's reserve holds. -/
def sectorTile (s : State) (md n : Nat) : Option Nat :=
  if n < dirSectors s md then (MapOps.get? (md * 2 ^ 28 + n / 32) s.tier.groups).map fun ext => tileKey ext (n % 32) else none

/-- The bytes of a TDE fail its TDE_CRC (R38). -/
def tdeCrcFails (bytes : List Byte) : Bool := crc32 (bytes.take 60) != ofBytes (bytes.drop 60)

/-- A TDE has been read into the directory cache, its bytes changed by what its code did not see: TDE_CRC is checked (R38, R88). -/
def tdeRead (md n : Nat) (change : List Byte) (s : State) : State :=
  match sectorTile s md n with
  | none => s
  | some key => if tdeCrcFails (slice (xorBytes (tdeBytes key (tdeOf s key)) change) 0 64 0) then tdeLost key s else s

/-- The number of a reserved sector among the lost ones. -/
def reserveNo (md : Nat) (batten : Bool) (n : Nat) : Nat := n * 16 + md * 2 + ofBool batten

/-- A reserved sector holds the poison code: since it was lost, and for a TDE until the TDE is written again (R383, R386). -/
def reserveLost (s : State) (md : Nat) (batten : Bool) (n : Nat) : Bool :=
  s.dram.lostReserve.contains (reserveNo md batten n)
    && ! (batten && decide (n < dirSectors s md) && (sectorTile s md n).any fun k => (tdeOf s k).state != .poisoned)

/-- A reserved sector is lost: the poison code is written into it, and R386 applies (R383). -/
def loseReserve (md : Nat) (batten : Bool) (n : Nat) (s : State) : State :=
  let s1 := s.setDram { s.dram with lostReserve := setInsert (reserveNo md batten n) s.dram.lostReserve }
  if batten then directorySector md n s1 else recordSector md n s1

/-- A read of a reserved sector returns with bits newly in error (R386, R387): it is counted device-wide only, and a lost one once.
(DESIGN CHOICE, log entry 67.) -/
def reserveRead (md : Nat) (batten : Bool) (n : Nat) (severe : Bool) (error : List Byte) (s : State) : State :=
  let total := if batten then battenSectors s md else ridgeSectors
  let tier : Tier := if batten then .batten else .ridge
  let ctl := if batten then channelAt s md (65536 * slotCount s .batten md + 64 * n) else 16 + md
  if total ≤ n || ! ctlUp s ctl then s
  else
    let lost := reserveLost s md batten n
    let burst := if lost then poisonBurst batten else burstOf batten (zeros 64)
    let seen := slice (xorBytes burst error) 0 burst.length 0
    let change := burstData batten seen
    let check := fun (u : State) => if batten && change.any (· != 0) then tdeRead md n change u else u
    match readBurst batten severe seen with
    | .clean => check s
    | .corrected =>
      check (if batten then count 0x30A1 (ctl + 1) (count 0x30A0 1 s) else count 0x30A2 (md + 1) (count 0x30A0 2 s))
    | .poison => if lost then s else loseReserve md batten n s
    | .uncorrectable =>
      recordUncorrectable ctl (loseReserve md batten n
        (raise 0x0A04 none (tierCode tier) (count 0x30A0 (if batten then 3 else 4) s)))

/-- The reserve scrub ends (R392), unless the MDs' admission points hold background work and have not let it go on (R437). -/
def reserveScrubDone (s : State) : State :=
  if s.dram.reserveScrub != 1 || (! s.dram.reserveGo && heldMaster s backgroundMaster) then s
  else
    let ridge := ((List.range 8).map fun md => if stackInUse s md then ridgeSectors else 0).sum
    let batten := ((List.range 8).map (battenSectors s)).sum
    let s1 := charge backgroundMaster 0 ridge (charge backgroundMaster 1 batten s)
    raise 0x0A07 none 0 (countBy 0x30A0 0x0B (ridge + batten) (s1.setDram { s1.dram with reserveScrub := 2, reserveGo := false }))

/-- A sector of a tile's home that the device itself reads returns: data the code corrects is counted, and what it cannot correct is
poisoned in place, so that the reader gets poison (R82, R383, R387). -/
def deviceSector (key i : Nat) (severe : Bool) (error : List Byte) (s : State) : State :=
  let t := tdeOf s key
  if ! isHome t.tier || ! ctlUp s (ctlAt s t.tier t.homeMd t.homeSlot i) then s
  else (readSlot t.tier t.homeMd t.homeSlot i severe error s).2.2

/-- A sector read returns (R381). A read whose channel or stack has failed meanwhile returns poison.
(DESIGN CHOICE, log entry 67.) -/
def sectorReturn (ref : ReadRef) (severe : Bool) (error : List Byte) (s : State) : State :=
  match ref with
  | .host id =>
    match s.tier.reads.find? (·.id == id) with
    | none => s
    | some r =>
      if s.codec.decodes.any (fun j => j.use == .host id) then s
      else if ! ctlUp s (ctlAt s r.tier r.md r.slot r.sector) then answerRead r.req (zeros 64) true (tierCode r.tier) (dropRead id s)
      else hostReadReturn r severe error s
  | .scrub cmd dpa => scrubRead cmd dpa severe error s
  | .device key sector => deviceSector key sector.val severe error s
  | .reserve md batten n => reserveRead md.val batten n severe error s

end Sys2Proof.Machine
end

