-- ==== Sys2Proof/Machine/StripOps.lean ====
section
/-! DEFINITION. Test strips (R151 to R159). -/

namespace Sys2Proof.Machine

open Sys2Proof

/-- The bank that a TESTSTRIP of a partition claims, as slot and bank (R151). -/
def claimBank (s : State) (part : Nat) (anySlot : Bool) (slot : Nat) : Option (Nat × Nat) :=
  let bank := fun (n b : Nat) => bankOf s (2 * n + b)
  let unowned := fun (n : Nat) => (bank n 0).state == 0 && (bank n 1).state == 0
  if anySlot then ((List.range 64).find? unowned).map fun n => (n, 0)
  else
    let held := [0, 1].filter fun b => (bank slot b).state != 0
    if held.any (fun b => (bank slot b).owner != part || (bank slot b).state == 1) then none
    else ([0, 1].find? fun b => (bank slot b).state == 0).map fun b => (slot, b)

/-- The strip unit of an MD is taken (R158): by a strip that samples or runs its trial pass, not by one that only waits for the sheet
store (DESIGN CHOICE, log entry 90). -/
def stripBusy (s : State) (md : Nat) : Bool :=
  s.codec.strips.any fun t => t.slot % 8 == md && (t.stage == 1 || t.stage == 2)

/-- Replaces a strip. -/
def setStrip (t : Strip) (s : State) : State :=
  s.setCodec { s.codec with strips := s.codec.strips.map fun u => if u.cmd == t.cmd then t else u }

/-- GEN of the generation that a bank takes (R145). -/
def nextGen (s : State) (slot bank : Nat) : Nat :=
  let other := bankOf s (2 * slot + (1 - bank))
  (if other.state == 0 then 0 else other.gen) % 1023 + 1

/-- TESTSTRIP claims its bank, which takes its generation's number, and starts (R145, R151, R158). -/
def stripStart (id : Nat) (c : Cmd) (s : State) : State :=
  match claimBank s c.part (bitAt c.desc 195) (c.bits 201 196) with
  | none => completeCmd id 0x43 0 0 s
  | some (slot, bank) =>
    let t : Strip :=
      { cmd := id, slot := slot, bank := bank, part := c.part, first := c.bits 158 128, last := c.bits 190 160
        wide := bitAt c.desc 192, size := c.bits 194 193, sampleBytes := c.bits 255 224
        stage := if stripBusy s (slot % 8) then 0 else 1
        ratio := 0, sampledBlocks := [], winners := [] }
    let s1 := setBank (2 * slot + bank) { state := 1, owner := c.part, gen := nextGen s slot bank } s
    markStarted id (s1.setCodec { s1.codec with strips := s1.codec.strips ++ [t] })

/-- The oldest strip that waits for an MD's strip unit begins to sample (R158). -/
def stripSample (md : Nat) (s : State) : State :=
  if stripBusy s md then s
  else match s.codec.strips.find? (fun t => t.stage == 0 && t.slot % 8 == md) with
    | none => s
    | some t => setStrip { t with stage := 1 } s

/-- The tile and block of a sample's block number, where it can be sampled (R153). -/
def sampleAt (s : State) (t : Strip) (b : Nat) : Option (Nat × Nat) :=
  match devOf s t.part (t.first + b / 512) with
  | none => none
  | some ext =>
    let key := tileKey ext (b % 512 / 16)
    let d := tdeOf s key
    let blk := b % 16
    if (kindOf s ext != 1 && kindOf s ext != 3) || ! isHome d.tier || d.state == .parked || d.state == .poisoned || isDamaged d blk
        || hasPoison s d blk || (keyOf s t.part (t.first + b / 512)).isSome then none
    else some (key, blk)

/-- The name of the reads of a strip's pass, by which what has been decoded for it is found (R169). -/
def stripWho (t : Strip) : List Nat := [3, t.slot, t.stage]

/-- What a strip gets of a block of its sample. -/
inductive SampleEnd where
  /-- It cannot be sampled (R153). -/
  | skip
  /-- Its decode has not ended. -/
  | waits
  | bytes (raw : List Byte)
  deriving DecidableEq, Repr

/-- A block as the strip reads it: a coded one is decoded by its home's developers first (R153, R169). -/
def sampleBlock (t : Strip) (b : Nat) (s : State) : SampleEnd × State :=
  match sampleAt s t b with
  | none => (.skip, s)
  | some (key, blk) =>
    match decodedFor s (stripWho t) key blk with
    | some d => (match d.data with | some raw => .bytes raw | none => .skip, s)
    | none =>
      if decodingFor s (stripWho t) key blk then (.waits, s)
      else if blockLen (tdeOf s key) blk != 0 then (.waits, askDecode (stripWho t) t.part key blk s)
      else
        let r := readBlock key blk s
        (if r.1.any (·.2) then .skip else .bytes (r.1.flatMap (·.1)), r.2)

/-- The sample of R153: its blocks, in order, and their bytes, none of a block that is still being decoded. -/
def takeSample (t : Strip) (stride blocks : Nat) :
    Nat → Nat → List (Nat × Option (List Byte)) → State → List (Nat × Option (List Byte)) × State
  | 0, _, acc, s => (acc, s)
  | n + 1, b, acc, s =>
    if blocks ≤ b || t.sampleBytes ≤ 4096 * acc.length then (acc, s)
    else match sampleBlock t b s with
      | (.skip, u) => takeSample t stride blocks n (b + stride) acc u
      | (.waits, u) => takeSample t stride blocks n (b + stride) (acc ++ [(b, none)]) u
      | (.bytes raw, u) => takeSample t stride blocks n (b + stride) (acc ++ [(b, some raw)]) u

/-- The raw blocks that a pass has read are charged to the sender; coded ones were when they were asked for (R158, R432). -/
def chargeSample (t : Strip) (bs : List Nat) (s : State) : State :=
  bs.foldl (fun u b => match sampleAt u t b with
    | some (key, blk) =>
      if blockLen (tdeOf u key) blk == 0 && (decodedFor u (stripWho t) key blk).isNone then chargeTile t.part key 64 u else u
    | none => u) s

/-- A pass of a strip may go on: its admission point does not hold the sender's partition, or has let the pass go (R437). -/
def stripMay (s : State) (t : Strip) : Bool := t.admitted || ! heldMaster s t.part

/-- A pass of a strip is over: what has been decoded for it is dropped. -/
def stripReads (t : Strip) (s : State) : State := forgetReads (fun w => w.take 2 == [3, t.slot]) s

/-- A strip ends, and leaves its list. -/
def dropStripOf (t : Strip) (s : State) : State :=
  stripReads t (s.setCodec { s.codec with strips := s.codec.strips.filter fun u => u.cmd != t.cmd })

/-- The sketch ends (R153, R154), once every block of the sample has been read: the trial pass begins, or the strip ends without a
sheet. -/
def sketchDone (slot : Nat) (s : State) : State :=
  match s.codec.strips.find? (fun t => t.stage == 1 && t.slot == slot) with
  | none => s
  | some t =>
    if ! stripMay s t then s
    else
      let blocks := 512 * (t.last + 1 - t.first)
      let stride := max 1 (ceilDiv (4096 * blocks) t.sampleBytes)
      let r := takeSample t stride blocks (ceilDiv blocks stride) 0 [] s
      if r.1.any (·.2.isNone) then setStrip { t with admitted := false } r.2
      else
        let u := stripReads t (chargeSample t (r.1.map (·.1)) r.2)
        let w := winnersOf t.size t.wide (r.1.filterMap (·.2))
        if w.isEmpty then
          completeCmd t.cmd 0x44 0 0 (dropStripOf t (setBank (2 * t.slot + t.bank) {} u))
        else setStrip { t with stage := 2, sampledBlocks := r.1.map (·.1), winners := w, admitted := false } u

/-- The new bank becomes ACTIVE and the slot's other bank RETIRING; the command completes (R156, R282). -/
def stripEnds (t : Strip) (s : State) : State :=
  let gen := (bankOf s (2 * t.slot + t.bank)).gen
  let other := 2 * t.slot + (1 - t.bank)
  let bytes := 4096 * t.sampledBlocks.length
  let s1 := setBank (2 * t.slot + t.bank)
    { state := 2, owner := t.part, wide := t.wide, size := t.size, gen := gen, entries := t.winners
      builtAt := calMs s, sampled := bytes } (dropStripOf t s)
  let s2 := if (bankOf s1 other).state == 2 then
    retireCheck other (setBank other { bankOf s1 other with state := 3, persisted := (bankOf s1 other).persisted && underlayUp s1 } s1) else s1
  let s3 := raise 0x0403 (some t.part) 0 (count 0x3040 7 s2)
  completeCmd t.cmd 0 (put t.slot 6 0 + put gen 10 6 + put t.winners.length 13 16 + put bytes 32 32) t.ratio s3

/-- What a sampled block counts in the trial pass (R155): its coded length, or 4,096 where it would stay raw or can no longer be
read; none while it is being decoded. It is coded although every encoder of the MD be out of use. (DESIGN CHOICE, log entry 88.)
-/
def trialBlock (t : Strip) (b : Nat) (s : State) : Option Nat × State :=
  match sampleBlock t b s with
  | (.skip, u) => (some 4096, u)
  | (.waits, u) => (none, u)
  | (.bytes raw, u) =>
    (some (match encodeBlock t.slot 1 t.size t.wide t.winners raw with | none => 4096 | some bs => bs.length), u)

/-- The trial pass ends (R155, R156), once every block has been read. A persisted ACTIVE bank's change is first written to the sheet store
(R149). -/
def trialDone (slot : Nat) (s : State) : State :=
  match s.codec.strips.find? (fun t => t.stage == 2 && t.slot == slot) with
  | none => s
  | some t =>
    if ! stripMay s t then s
    else
      let r := t.sampledBlocks.foldl (fun (a : Option Nat × State) b =>
        let q := trialBlock t b a.2
        (a.1.bind fun n => q.1.map (n + ·), q.2)) (some 0, s)
      match r.1 with
      | none => setStrip { t with admitted := false } r.2
      | some coded =>
        let u := stripReads t (chargeSample t t.sampledBlocks r.2)
        let bytes := 4096 * t.sampledBlocks.length
        let t1 := { t with ratio := 4096 * coded / bytes }
        let other := 2 * t.slot + (1 - t.bank)
        if (bankOf u other).state == 2 && storedSheet other u then
          setStrip { t1 with stage := 3 } (formRecord (.sheet t.slot (1 - t.bank) 3) u)
        else stripEnds t1 u

/-- The passes of a partition's strips that its admission point held may go (R437). -/
def letStrips (part : Nat) (s : State) : State :=
  s.setCodec { s.codec with strips := s.codec.strips.map fun t => if t.part == part then { t with admitted := true } else t }

end Sys2Proof.Machine
end

