-- ==== Sys2Proof/Machine/NandOps.lean ====
section
/-! DEFINITION. The flash translation at work: NAND operations, the record log, the mount and the format (chapter 11). -/

namespace Sys2Proof.Machine

open Sys2Proof

/-! ### The record log -/

/-- True of a SHEET record. -/
def Fcr.isSheet : Fcr → Bool
  | .sheet _ _ _ => true
  | _ => false

/-- True of a PARK record. -/
def Fcr.isPark : Fcr → Bool
  | .park _ _ _ => true
  | _ => false

/-- The bytes of a SHEET payload: slot, bank, state, and the pages of the sheet store (R409). (DESIGN CHOICE, log entry 113.) -/
def sheetPayload (s : State) (slot bank st : Nat) : List Byte :=
  let b := bankOf s (2 * slot + bank)
  toBytes 1 slot ++ toBytes 1 bank ++ toBytes 2 st ++ toBytes 4 (MapOps.getD (2 * slot + bank) 0 s.und.sheetAt)
    ++ toBytes 4 (if st == 0 then 0 else sheetPages b.wide b.entries.length)

/-- KIND and payload of a record (Table 11-5). (DESIGN CHOICE, log entry 113.) -/
def recordPayload (s : State) (r : LogRec) : Nat × List Byte :=
  match r.body with
  | .park _ _ e => (1, eprBytes { e with seq := r.seq })
  | .release n => (2, toBytes 4 n)
  | .relocate n sb row chunk => (3, toBytes 4 n ++ toBytes 4 sb ++ toBytes 2 row ++ toBytes 2 chunk)
  | .sheet slot bank st => (4, sheetPayload s slot bank st)
  | .exposure _ sheets => (5, sheets.flatMap fun q => sheetPayload s q.1 q.2.1 q.2.2)
  | .superblock n channel unit spare erases =>
    (6, toBytes 4 n ++ toBytes 2 channel ++ toBytes 2 unit ++ toBytes 4 spare ++ toBytes 4 erases)
  | .checkpoint q => (7, toBytes 8 q)

/-- The bytes of a flash commit record: its 64 B header, with FCR_CRC, and its payload (R407, Table 11-4). -/
def recordBytes (s : State) (r : LogRec) : List Byte :=
  let q := recordPayload s r
  let h := toBytes 60 (0xFC11 + put q.1 8 16 + put r.seq 64 32 + put r.clock 48 96 + put q.2.length 16 144)
  h ++ toBytes 4 (crc32c (h ++ q.2)) ++ q.2

/-- The records that one log page takes: all that were gathered and find room in it, but that no PARK record shares a page with a SHEET
record formed before it, so that the sheet is durable first (R149, R408). (DEDUCED, log entry 27.) -/
def pageOf (s : State) : Bool → Nat → List LogRec → List LogRec
  | _, _, [] => []
  | seen, room, f :: fs =>
    let n := (recordBytes s f).length
    if (f.body.isPark && seen) || room < n then [] else f :: pageOf s (seen || f.body.isSheet) (room - n) fs

/-- The sheet store takes pages for a bank whose SHEET record goes to the log: the lowest run that is free (R409).
(DESIGN CHOICE, log entry 113.) -/
def takeSheetPages (k : Nat) (s : State) : State :=
  if (MapOps.get? k s.und.sheetAt).isSome then s
  else
    let size := fun (j : Nat) => let b := bankOf s j; sheetPages b.wide b.entries.length
    let ends := (s.und.sheetAt.map fun p => p.2 + size p.1).mergeSort (· ≤ ·)
    let fits := fun (a : Nat) => s.und.sheetAt.all fun p => decide (p.2 + size p.1 ≤ a) || decide (a + size k ≤ p.2)
    s.setUnd { s.und with sheetAt := MapOps.insert k (((0 :: ends).find? fits).getD (ends.getLastD 0)) s.und.sheetAt }

/-- The pages of the sheet store that a record of the log page names are taken. -/
def takePages (s : State) (r : LogRec) : State :=
  match r.body with
  | .sheet slot bank st => if st == 0 then s else takeSheetPages (2 * slot + bank) s
  | .exposure _ sheets => sheets.foldl (fun u q => if q.2.2 == 0 then u else takeSheetPages (2 * q.1 + q.2.1) u) s
  | _ => s

/-- A record takes its SEQ as it goes to a log page; a CHECKPOINT names the SEQ before its own, up to which the tables in flash
are current (R407, R410). (DESIGN CHOICE, log entry 113.) -/
def numberRecord (seq : Nat) (r : LogRec) : LogRec :=
  { r with seq := seq, body := match r.body with | .checkpoint _ => .checkpoint (seq - 1) | b => b }

/-- RecordBatch expires: the gathered records go to a log page, unless the page before is not durable yet (R408). -/
def batchOut (s : State) : State :=
  if ! s.und.programming.isEmpty || s.und.forming.isEmpty || ! underlayUp s then s
  else
    let page := pageOf s false 16384 s.und.forming
    let s1 := page.foldl takePages s
    s1.setUnd { s1.und with
      programming := page.zipIdx.map fun q => numberRecord (s.und.seq + 1 + q.2) q.1, forming := s.und.forming.drop page.length }

/-- Page programs are counted with their bytes: 18,288 B a page (R401, R429, R542). -/
def programmed (pages : Nat) (s : State) : State :=
  lifeBy 0x0C (18288 * pages) (countBy 0x30B0 0x0C (18288 * pages) (countBy 0x30B0 2 pages s))

/-- A SHEET record is durable for a bank (R149, R409): the store holds it in its new state, or drops a FREE one. A bank that holds no
generation any more stores none. (DEDUCED, log entry 27.) -/
def sheetDurable (slot bank st : Nat) (s : State) : State :=
  let k := 2 * slot + bank
  let b := bankOf s k
  if st != 0 && b.state != 2 && b.state != 3 then s
  else if st == 0 then s.setUnd { s.und with store := MapOps.erase k s.und.store, sheetAt := MapOps.erase k s.und.sheetAt }
  else
    let d : StoredSheet :=
      { state := st, owner := b.owner, wide := b.wide, size := b.size, gen := b.gen, entries := b.entries
        builtAt := b.builtAt, sampled := b.sampled }
    let first := MapOps.getD k 0 s.und.sheetAt
    let n := sheetPages b.wide b.entries.length
    let s1 := s.setUnd { s.und with
      store := MapOps.insert k d s.und.store
      sysBad := if b.persisted then s.und.sysBad
                else s.und.sysBad.filter fun p => ! (p / 2 % 2 == 1 && decide (first ≤ p / 4) && decide (p / 4 < first + n)) }
    let s2 := setBank k { b with persisted := true } s1
    if b.persisted then s2 else programmed (2 * n) s2

/-- A relocation is durable (R414): the EPR names the new place, and the old chunks are stale. -/
def relocDurable (number sb row chunk : Nat) (s : State) : State :=
  match MapOps.get? number s.und.eprs with
  | none => s
  | some e =>
    if ! s.und.relocs.any (fun r => r.number == number && r.superblock == sb && r.row == row && r.chunk == chunk) then s
    else
      let s1 := staleChunks e.superblock e.chunks s
      let e1 := { e with superblock := sb, row := row, chunk := chunk, seq := s.und.seq }
      count 0x30B0 8 (s1.setUnd { s1.und with
        eprs := MapOps.insert number e1 s1.und.eprs
        relocs := s1.und.relocs.filter (·.number != number)
        lost := s1.und.lost })

/-- The table entries that a record changes, as they stand (Table 11-5). -/
def entriesOf (f : Fcr) (s : State) : List TableEntry :=
  let sheet := fun (k : Nat) => TableEntry.sheet k (MapOps.get? k s.und.store)
  match f with
  | .park _ n _ => [.epr n (MapOps.get? n s.und.eprs)]
  | .release n => [.epr n none]
  | .relocate n _ _ _ => [.epr n (MapOps.get? n s.und.eprs)]
  | .sheet slot bank _ => [sheet (2 * slot + bank)]
  | .exposure _ sheets => sheets.map fun q => sheet (2 * q.1 + q.2.1)
  | .superblock n channel unit _ erases =>
    let key := (channel * 512 + unit) * 2 ^ 24 + n
    .erases n erases :: match MapOps.get? key s.und.replaced with | some b => [.replaced key b] | none => []
  | .checkpoint _ => []

/-- The tables that the record log keeps, as they stand (R410). -/
def tablesNow (s : State) : FlashTables :=
  { seq := s.und.seq, clock := s.und.logClock, eprs := s.und.eprs.map fun p => (p.1, { p.2 with state := 1 })
    erases := s.und.superblocks.map fun p => (p.1, p.2.erases), replaced := s.und.replaced, store := s.und.store }

/-- A SUPERBLOCK record that names a spare puts it in the place of the retired block (R421): it has been erased never. -/
def replaceBlock (n channel unit spare : Nat) (s : State) : State :=
  let key := (channel * 512 + unit) * 2 ^ 24 + n
  if MapOps.get? key s.und.retiring != some (2 * spare + 1) then s
  else
    let b := sbOf s n
    let k := channel * 16 + unit % max 1 (unitsUsed s)
    setSb n { b with fresh := MapOps.put k 0 b.erases b.fresh } (s.setUnd { s.und with
      replaced := MapOps.insert key spare s.und.replaced, retiring := MapOps.erase key s.und.retiring })

/-- What one record does once it is durable (R408, Table 11-5). -/
def runFcr (f : Fcr) (s : State) : State :=
  match f with
  | .park ext number epr => commitPark ext number epr s
  | .release number => dropEpr number s
  | .relocate number sb row chunk => relocDurable number sb row chunk s
  | .sheet slot bank st =>
    let s1 := sheetDurable slot bank st s
    if st == 0 then (if retirable (2 * slot + bank) s1 then freeBank (2 * slot + bank) s1 else s1)
    else if st == 3 then
      match s1.codec.strips.find? (fun t => t.stage == 3 && t.slot == slot && t.bank != bank) with
      | some t => stripEnds t s1
      | none => s1
    else s1
  | .exposure expo sheets =>
    if (expoOf s expo).any (·.stage == 5) then
      commitPoint expo (sheets.foldl (fun u q => sheetDurable q.1 q.2.1 q.2.2 u) s)
    else s
  | .superblock n channel unit spare _ => replaceBlock n channel unit spare s
  | .checkpoint _ => s

/-- One record of a durable log page takes effect, and the log holds it; a CHECKPOINT brings the tables in flash up to date first,
how many page programs that takes is a free value (R408, R410). (DESIGN CHOICE, log entry 113.) -/
def applyFcr (r : LogRec) (s : State) : State :=
  let s1 := runFcr r.body (count 0x30B0 0x0A (s.setUnd { s.und with
    seq := r.seq, logClock := max s.und.logClock r.clock, sinceCheckpoint := s.und.sinceCheckpoint + 1 }))
  match r.body with
  | .checkpoint _ =>
    let s2 := programmed (2 * freeValue s1) (used s1)
    s2.setUnd { s2.und with sinceCheckpoint := 0, saved := tablesNow s2, log := [] }
  | f => s1.setUnd { s1.und with log := s1.und.log ++ [(r, entriesOf f s1)] }

/-- A checkpoint is due (R410). -/
def checkpointNow (s : State) : State :=
  if ! underlayUp s || recordWaits (fun f => match f with | .checkpoint _ => true | _ => false) s then s
  else formRecord (.checkpoint s.und.seq) s

/-- Both copies of the log page are programmed: its records take effect in order, and the 65,536th since a checkpoint calls for the next
(R408, R410). -/
def pageDurable (s : State) : State :=
  if s.und.programming.isEmpty then s
  else
    let fs := s.und.programming
    let s1 := fs.foldl (fun u f => applyFcr f u) (programmed 2 (s.setUnd { s.und with programming := [] }))
    gcCheck (if 65536 ≤ s1.und.sinceCheckpoint then checkpointNow s1 else s1)

/-! ### Blocks -/

/-- The spares of a unit: the full pool, whose size the manual does not give, is a free value (R421). -/
def sparesOf (key : Nat) (s : State) : Nat × State :=
  match MapOps.get? key s.und.spares with
  | some n => (n, s)
  | none => (freeValue s, used s)

/-- A block is retired (R421): a spare of its unit takes its place, whose number is a free value, once the
superblock's earlier rows have been relocated. (DEDUCED, log entry 59.) -/
def retireBlock (channel sb unit : Nat) (s : State) : State :=
  let key := channel * 512 + unit
  if (MapOps.get? (key * 2 ^ 24 + sb) s.und.retiring).isSome then s
  else
    let r := sparesOf key s
    let left := r.1 - 1
    let s1 := raise 0x0B07 none (channel + put unit 16 8 + put (blockOf s sb channel unit) 32 24) (count 0x30B0 9 r.2)
    let s2 := s1.setUnd { s1.und with
      spares := MapOps.insert key left s1.und.spares
      retiring := MapOps.insert (key * 2 ^ 24 + sb) (2 * freeValue s1) s1.und.retiring }
    let s3 := if left < 8 then raise 0x0B08 none 0 (used s2) else used s2
    updateUnderlay (relocateSb sb false s3)

/-- The SUPERBLOCK record of each retired block whose superblock holds no valid image any more (R421). -/
def recordReplaced (s : State) : State :=
  (s.und.retiring.filter fun p => p.2 % 2 == 0 && (sbOf s (p.1 % 2 ^ 24)).valid == 0).foldl (fun u p =>
    let sb := p.1 % 2 ^ 24
    let key := p.1 / 2 ^ 24
    formRecord (.superblock sb (key / 512) (key % 512) (p.2 / 2) (sbOf u sb).erases)
      (u.setUnd { u.und with retiring := MapOps.insert p.1 (p.2 + 1) u.und.retiring })) s

/-- The master for which the images of a superblock are read: that of an unpark, or the background's. -/
def readMaster (s : State) (sb : Nat) : Nat :=
  match s.tier.unparks.find? (fun u => (MapOps.getD u.epr {} s.und.eprs).superblock == sb) with
  | some u => u.req.master
  | none => backgroundMaster

/-- The policy table of the flash translation (R422). -/
def flashPolicy (s : State) : List Nat := policyRows s (scalar s 0x2700 0x0D 0x5060)

/-- The read-retry offsets of the policy table, 8 at most (R412, R422). -/
def retryOffsets (s : State) : List Nat := (Config.flashRetryOffsets (flashPolicy s)).take 8

/-- A codeword has been found uncorrectable: its chunk is rebuilt or lost, and a rebuilt one makes its superblock due for relocation
(R412, R413). -/
def rebuildChunk (channel sb row j : Nat) (s : State) : State :=
  let w := chunkWord s sb j
  let s1 := rebuiltAt (readMaster s sb) channel sb row j (s.setUnd { s.und with bad := setInsert (wordNo sb row w channel) s.und.bad })
  if stripeWhole s channel sb row w then relocateDue sb s1 else s1

/-- A read of a codeword ends (R412, R420): the reads at each retry offset, and the three of a soft decode, are page reads too. -/
def readDone (channel sb row j : Nat) (result : NandResult) (s : State) : State :=
  let all := (retryOffsets s).length
  match result with
  | .clean => pageReads 1 channel sb row s
  | .retried n => if n == 0 || all < n then s else relocateDue sb (count 0x30B0 4 (pageReads (1 + n) channel sb row s))
  | .soft => relocateDue sb (count 0x30B0 5 (count 0x30B0 4 (pageReads (4 + all) channel sb row s)))
  | .uncorrectable => rebuildChunk channel sb row j (count 0x30B0 5 (count 0x30B0 4 (pageReads (4 + all) channel sb row s)))
  | .misplaced => rebuildChunk channel sb row j (pageReads 1 channel sb row s)
  | .failed => s

/-- A read of a codeword of a parity page ends: one that is uncorrectable can rebuild nothing (R413). -/
def parityRead (channel sb row w : Nat) (result : NandResult) (s : State) : State :=
  let lost := fun (u : State) => relocateDue sb (u.setUnd { u.und with bad := setInsert (wordNo sb row (w % 8) channel) u.und.bad })
  match result with
  | .uncorrectable => lost (pageReads (4 + (retryOffsets s).length) channel sb row s)
  | .misplaced => lost (pageReads 1 channel sb row s)
  | .failed => s
  | _ => pageReads 1 channel sb row s

/-- A run of chunks of a superblock lies partly in a row. -/
def inRow (s : State) (sb row x n : Nat) : Bool :=
  let pr := rowChunks (sbOf s sb)
  decide (x < pr * (row + 1)) && decide (pr * row < x + n)

/-- The PARK record of a park in its commit wait names another place, where its image is written again; one that is on its log page
already is relocated once it is durable (R421). -/
def restagePark (sb row : Nat) (s : State) (r : LogRec) : State :=
  match r.body with
  | .park ext number e =>
    if e.superblock != sb || ! inRow s sb row (imageStart s e) e.chunks then s
    else match placeImage e.chunks s with
    | none => wantReloc false [number] s
    | some (n, x, s1) =>
      let pr := rowChunks (sbOf s1 n)
      let e1 := { e with superblock := n, row := x / pr, chunk := x % pr }
      let img := MapOps.getD (sb * 2 ^ 24 + imageStart s e) [] s.und.images
      let s2 := putImage n x img (staleChunks sb e.chunks s1)
      s2.setUnd { s2.und with
        forming := s2.und.forming.map fun q => if q == r then { q with body := .park ext number e1 } else q }
  | _ => s

/-- A row could not be programmed (R421): what parks have staged in it is staged again, images whose PARK records are not on a log
page yet go to another place, and relocations into it start anew, from the data that the device still holds (R402). Images that
are durable are relocated with the rest of the superblock. (DEDUCED, log entry 68.) -/
def restage (sb row : Nat) (s : State) : State :=
  let c := closeSb sb s
  let s0 := c.setUnd { c.und with rows := MapOps.erase (sb * 65536 + row) c.und.rows }
  let hit := fun (p : Park) => p.staged.any fun q => q.1 == sb && inRow s sb row q.2.1 q.2.2
  let s1 := (s0.tier.parks.filter hit).foldl (fun u p => setPark { p with staged := none } (unstageChunks p u)) s0
  let late := s1.und.programming.filterMap fun r => match r.body with
    | .park _ n e => if e.superblock == sb && inRow s sb row (imageStart s e) e.chunks then some n else none
    | _ => none
  let s2 := wantReloc false late (s1.und.forming.foldl (restagePark sb row) s1)
  let moved := s2.und.relocs.filter fun r =>
    r.superblock == sb && inRow s sb row (rowChunks (sbOf s sb) * r.row + r.chunk) (MapOps.getD r.number {} s2.und.eprs).chunks
  wantReloc false (moved.map (·.number)) (moved.foldl (fun u r => abandonReloc r.number u) s2)

/-- A page program of a row that is being programmed ends (R402, R419): one that reports failure retires its block and uses up its row
(R421). (DEDUCED, log entry 68.) -/
def programDone (channel sb row : Nat) (result : NandResult) (s : State) : State :=
  let key := sb * 65536 + row
  let left := MapOps.getD key [] s.und.rows
  if ! left.contains channel then s
  else
    let s1 := programmed 1 s
    match result with
    | .failed => retireBlock channel sb (unitOf s sb row) (restage sb row s1)
    | _ =>
      let rest := left.filter (· != channel)
      let b := sbOf s1 sb
      setSb sb { b with firstProgram := some (b.firstProgram.getD (retention s)) } (s1.setUnd { s1.und with
        rows := if rest.isEmpty then MapOps.erase key s1.und.rows else MapOps.insert key rest s1.und.rows })

/-- Wear levelling (R417): when the mean erase counts of two superblocks lie further apart than WearSpread, the images of the superblock
of lowest count are relocated. -/
def wearCheck (s : State) : State :=
  let l := s.und.superblocks.map fun p => sbWear s p.2
  let low := if l.length < sbTotal s then 0 else l.foldl min (l.headD 0)
  let high := l.foldl max 0
  if high ≤ low + 16 * unitsUsed s * scalar s 0x2700 0x0E 500 || ! underlayParks s then s
  else match s.und.superblocks.find? (fun p => p.2.use != 0 && sbWear s p.2 == low) with
    | some p => relocateSb p.1 false s
    | none => s

/-- The blocks of a superblock on the channels in use, by channel × 16 + unit; a retired one that waits for its spare is no longer
erased. -/
def sbBlocks (s : State) (sb : Nat) : List Nat :=
  (((s.und.channels.filter fun p => p.2 == 1).map (·.1)).flatMap fun c => (List.range (unitsUsed s)).map (c * 16 + ·)).filter fun k =>
    (MapOps.get? ((k / 16 * 512 + unitOf s sb (k % 16)) * 2 ^ 24 + sb) s.und.retiring).isNone

/-- The blocks of a superblock that have reached the rated erase count of the policy table are retired (R417). -/
def retireWorn (sb : Nat) (s : State) : State :=
  let rated := Config.flashRatedErases (flashPolicy s)
  ((sbBlocks s sb).filter fun k => decide (rated ≤ blockErases (sbOf s sb) k)).foldl (fun u k => retireBlock (k / 16) sb (unitOf s sb (k % 16)) u) s

/-- Every block of a superblock has been erased: it is free again (R414, R417). -/
def sbErased (sb : Nat) (s : State) : State :=
  let s1 := retireWorn sb (eraseSb sb s)
  gcCheck (wearCheck (setSb sb { sbOf s1 sb with use := 0 } s1))

/-- An erase of one block ends (R414, R417, R421): a superblock without images is erased block by block, and one that reports failure is
retired. (DEDUCED, log entry 68.) -/
def eraseDone (channel sb row : Nat) (result : NandResult) (s : State) : State :=
  let b := sbOf s sb
  let k := channel * 16 + row % max 1 (unitsUsed s)
  let left := if b.erasing.isEmpty then sbBlocks s sb else b.erasing
  if b.use != 2 || b.valid != 0 || ! left.contains k || s.und.rows.any (fun p => p.1 / 65536 == sb) then s
  else
    let s1 := setSb sb { b with erasing := left.filter (· != k) } s
    let s2 := match result with
      | .failed => retireBlock channel sb (unitOf s sb row) s1
      | _ => s1
    if (sbOf s2 sb).erasing.isEmpty then sbErased sb s2 else s2

/-- A page of the system area is read from the copy on one of its two channels, c and c + 8 (R407): an EPR whose page can be read
is cached (R405). A copy that cannot be read is remembered. (DESIGN CHOICE, log entry 86.) -/
def systemRead (channel page : Nat) (result : NandResult) (s : State) : State :=
  if channel % 8 != page % 8 then s
  else
    let s1 := count 0x30B0 1 s
    let bad := result == .uncorrectable || result == .misplaced
    if bad then s1.setUnd { s1.und with sysBad := setInsert (2 * page + channel / 8) s1.und.sysBad }
    else if page % 2 == 0 && s.und.eprReads.contains (page / 2) then cacheEpr (page / 2) s1
    else s1

/-- NAND_OPERATION_DONE (R412, R421). A read just above the superblocks for images is one of the system area, and so is every read
of phase S3. An operation on a channel that is not in use, or outside the media, never ran. (DESIGN CHOICE, log entry 86.) -/
def nandDone (channel : Nat) (op : NandOp) (sb row j : Nat) (result : NandResult) (s : State) : State :=
  if s.start.stage == .train then (if op == .read && s.und.state == 1 then systemRead channel row result s else s)
  else if MapOps.getD channel 0 s.und.channels != 1 then s
  else if op == .read && sb == sbTotal s && underlayUp s then systemRead channel row result s
  else if ! underlayUp s || (sbOf s sb).use == 0 || s.und.pages ≤ rowPage s row then s
  else match op with
    | .read => if (chunkChannel s sb row j == channel && j < rowChunks (sbOf s sb)) then readDone channel sb row j result s
               else if parityChannel s sb row == channel then parityRead channel sb row j result s else s
    | .program => programDone channel sb row result s
    | .erase => eraseDone channel sb row result s

/-- What a channel that goes offline, or is refused at a start, leaves behind (R423, R424): the open superblocks are closed, the
rows that it was still programming are written again, an erase goes on without it, and the images with chunks on it are relocated.
-/
def channelGone (channel : Nat) (s : State) : State :=
  let s1 := (sbUsed s).foldl (fun u n => if (sbOf u n).offline == some channel then u else closeSb n u) s
  let s2 := (s1.und.rows.filter fun p => p.2.contains channel).foldl (fun u p => restage (p.1 / 65536) (p.1 % 65536) u) s1
  let s3 := s2.und.superblocks.foldl (fun u p =>
    if p.2.erasing.isEmpty then u
    else
      let left := p.2.erasing.filter fun k => k / 16 != channel
      let v := setSb p.1 { sbOf u p.1 with erasing := left } u
      if left.isEmpty then sbErased p.1 v else v) s2
  if underlayParks s3 then
    ((sbUsed s3).filter fun n => (sbOf s3 n).offline != some channel).foldl (fun u n => relocateSb n false u) s3
  else s3

/-- A channel goes offline (R423). -/
def channelOffline (channel : Nat) (s : State) : State :=
  if MapOps.getD channel 0 s.und.channels != 1 then s
  else
    channelGone channel (updateUnderlay (raise 0x0B01 none channel
      (s.setUnd { s.und with channels := MapOps.insert channel 3 s.und.channels })))

/-- The age in days at which the images of a superblock are relocated: RetentionLimit, or the shorter age that the policy table gives for
its mean erase count (R419, R422). -/
def ageLimit (s : State) (b : Superblock) : Nat :=
  min (scalar s 0x2700 0x0C 60) (Config.flashRetentionDays (flashPolicy s) (sbWear s b / max 1 (16 * unitsUsed s)))

/-- RETENTION_AGE_REACHED of a superblock in use (R419). -/
def ageDue (sb : Nat) (s : State) : State :=
  let b := sbOf s sb
  match b.firstProgram with
  | none => s
  | some t => if b.use == 0 || ! underlayUp s || retention s < t + ageLimit s b * 86400000 then s else relocateDue sb s

/-- READ_LIMIT_REACHED of a superblock in use: one of its blocks has been read so often since its erase (R420). -/
def readsDue (sb : Nat) (s : State) : State :=
  let b := sbOf s sb
  if b.use == 0 || ! underlayUp s || ! b.reads.any (fun p => decide (Config.flashReadLimit (flashPolicy s) ≤ p.2)) then s
  else relocateDue sb s

/-! ### Format and mount -/

/-- Formats Underlay (R427): everything on it is gone, the sheet store with it, and OverProvision takes effect (R428). -/
def formatNow (s : State) : State :=
  let s1 := s.setUnd { s.und with
    overProvision := scalar s 0x2700 0x0A 7, formatted := true, superblocks := [], eprs := [], images := [], reserved := []
    forming := [], programming := [], seq := 0, sinceCheckpoint := 0, relocs := [], store := [], lost := [], saved := {}, log := []
    sysBad := [], wants := [], cached := [], eprReads := [], sheetAt := [], rows := [], bad := []
    wiped := s.und.eprs.foldl (fun l p => MapOps.insert p.2.ext p.2.sheets l) s.und.wiped }
  let s2 := raise 0x0B09 none 0 (s1.codec.banks.foldl (fun u q => setBank q.1 { q.2 with persisted := false } u) s1)
  let st := underlayState s2
  if st == s2.und.state then s2 else raise 0x0B03 none st (s2.setUnd { s2.und with state := st })

/-- A write of UnderlayFormat may format: only while FAILED, or while no EPR is VALID (R427). -/
def mayFormat (s : State) : Bool := s.und.state == 5 || s.und.eprs.isEmpty

/-- A table entry is read from the log (R410). -/
def replayEntry (t : FlashTables) (x : TableEntry) : FlashTables :=
  match x with
  | .epr n (some e) => { t with eprs := MapOps.insert n { e with state := 1 } t.eprs }
  | .epr n none => { t with eprs := MapOps.erase n t.eprs }
  | .erases n k => { t with erases := MapOps.insert n k t.erases }
  | .replaced n b => { t with replaced := MapOps.insert n b t.replaced }
  | .sheet k (some d) => { t with store := MapOps.insert k d t.store }
  | .sheet k none => { t with store := MapOps.erase k t.store }

/-- The tables of the last checkpoint with the records after it, in SEQ order (R410). -/
def replayLog (log : List (LogRec × List TableEntry)) (t : FlashTables) : FlashTables :=
  log.foldl (fun u r => r.2.foldl replayEntry { u with seq := r.1.seq, clock := max u.clock r.1.clock }) t

/-- Chunks of a superblock that valid EPRs name. -/
def validIn (eprs : Map Epr) (n : Nat) : Nat := (eprs.filter fun p => p.2.superblock == n).foldl (fun a p => a + p.2.chunks) 0

/-- The mount of phase S3 ends (R410, R427), with the records of the log up to the first that fails its CRC or is out of order. UNPARKING
records return to PARKED, chunks that no EPR names are stale, and H is the largest CLOCK found (R418). Where it fails Underlay is FAILED;
else it leaves MOUNTING when S3 ends. -/
def mountDone (records : Option Nat) (s : State) : State :=
  if ! (s.start.stage == .train) || s.und.mount.isSome then s
  else match records with
  | none => raise 0x0B04 none 0 (s.setUnd { s.und with mount := some false, state := 5 })
  | some n =>
    let log := s.und.log.take n
    let t := replayLog log s.und.saved
    let s1 := s.setUnd { s.und with
      mount := some true, eprs := t.eprs, replaced := t.replaced, store := t.store, seq := t.seq, log := log, logClock := t.clock
      superblocks := s.und.superblocks.map fun p =>
        (p.1, { p.2 with valid := validIn t.eprs p.1, erases := MapOps.getD p.1 p.2.erases t.erases })
      sheetAt := s.und.sheetAt.filter fun p => (MapOps.get? p.1 t.store).isSome
      h := max s.und.h t.clock, clock := max s.und.clock t.clock }
    if s.und.formatted then s1
    else raise 0x0B09 none 0 (s1.setUnd { s1.und with formatted := true, overProvision := scalar s 0x2700 0x0A 7 })

/-! ### What waits for a record that can no longer be written -/

/-- No record of the log that a test picks can still become durable. (DEDUCED, log entry 85.) -/
def unwritable (f : Fcr → Bool) (s : State) : Bool := noUnderlay s || ! recordWaits f s

/-- Sheet changes whose record can no longer be written take effect at once (R149): of banks, strips and exposures.
(DEDUCED, log entry 85.) -/
def sheetsAtOnce (s : State) : State :=
  let s1 := (s.codec.banks.filter fun q => q.2.state == 3).foldl (fun u q => retireCheck q.1 u) s
  let s2 := (s1.codec.strips.filter fun t => t.stage == 3 && unwritable (· == .sheet t.slot (1 - t.bank) 3) s1).foldl
    (fun u t => stripEnds t u) s1
  (s2.share.expos.filter fun q => q.2.stage == 5
    && unwritable (fun f => match f with | .exposure n _ => n == q.1 | _ => false) s2).foldl (fun u q => commitPoint q.1 u) s2

/-- Parks that Underlay cannot take any more: one whose PARK record can no longer be written aborts, and those that wait are
refused (R58). (DEDUCED, log entry 85.) -/
def parksAtOnce (s : State) : State :=
  let s1 := (s.tier.parks.filter fun p => p.committing
    && unwritable (fun f => match f with | .park e _ _ => e == p.ext | _ => false) s).foldl (fun u p => abortPark p u) s
  if underlayParks s1 || s1.und.state == 1 then s1
  else s1.tier.parkQueue.foldl (fun u r => requestPark r u) (s1.setTier { s1.tier with parkQueue := [] })

/-- What waits on Underlay goes on where Underlay has failed or was formatted (DEDUCED, log entry 85), and so do relocations, collection
and the replacement of blocks (R414, R416, R421). -/
def pumpUnderlay (s : State) : State :=
  if s.und.state == 1 then s
  else
    let s1 := parksAtOnce (sheetsAtOnce s)
    if underlayUp s1 then pumpRelocs false (recordReplaced (gcCheck s1)) else s1

end Sys2Proof.Machine
end

