-- ==== Sys2Proof/Machine/OdTable.lean ====
section
/-! DEFINITION. The objects of the dictionary that are not policy tables of the image: one row per listing
of the manual, with the type, size, access, default and range that the listing gives (R527, R528). A range is
the object type's own where the listing gives none. -/

namespace Sys2Proof.Machine

/-- An object, or a run of subindices with one listing. -/
structure OdObj where
  index : Nat
  /-- First subindex. -/
  sub : Nat
  /-- Last subindex. -/
  subTo : Nat
  /-- Type code of Table 15-6. -/
  type : Nat
  /-- Size in bytes; 0 for a TABLE. -/
  size : Nat
  /-- Access code of Table 15-6. -/
  access : Nat
  dflt : Nat
  lo : Nat
  hi : Nat
  deriving DecidableEq, Repr, Inhabited

/-- Objects VendorId to StartTimeMs. -/
def odRows0 : List OdObj :=
  [⟨0x1000, 0x1, 0x1, 0x3, 2, 0, 0, 0, 65535⟩,
   ⟨0x1000, 0x2, 0x2, 0x3, 2, 0, 36928, 0, 65535⟩,
   ⟨0x1000, 0x3, 0x3, 0x3, 2, 0, 36929, 0, 65535⟩,
   ⟨0x1000, 0x4, 0x4, 0x3, 2, 0, 36928, 0, 65535⟩,
   ⟨0x1000, 0x5, 0x5, 0x11, 16, 1, 0, 0, 2 ^ 128 - 1⟩,
   ⟨0x1000, 0x6, 0x6, 0x3, 2, 1, 0, 0, 65535⟩,
   ⟨0x1000, 0x7, 0x7, 0x10, 16, 0, 3473454234740804687, 0, 2 ^ 128 - 1⟩,
   ⟨0x1000, 0x8, 0x8, 0x10, 32, 1, 0, 0, 2 ^ 256 - 1⟩,
   ⟨0x1000, 0x9, 0x9, 0x3, 2, 0, 1, 0, 65535⟩,
   ⟨0x1000, 0xa, 0xa, 0x10, 32, 6, 0, 0, 2 ^ 256 - 1⟩,
   ⟨0x1010, 0x0, 0x0, 0x11, 16777216, 4, 0, 0, 0⟩,
   ⟨0x1011, 0x0, 0x0, 0x11, 16777216, 4, 0, 0, 0⟩,
   ⟨0x1100, 0x1, 0x1, 0x4, 4, 1, 0, 0, 4294967295⟩,
   ⟨0x1100, 0x2, 0x2, 0x4, 4, 1, 0, 0, 4294967295⟩,
   ⟨0x1100, 0x3, 0x3, 0x11, 768, 1, 0, 0, 0⟩,
   ⟨0x1100, 0x4, 0x4, 0x4, 4, 1, 0, 0, 4294967295⟩,
   ⟨0x1100, 0x5, 0x5, 0x4, 4, 1, 0, 0, 4294967295⟩,
   ⟨0x1100, 0x6, 0x6, 0x4, 4, 1, 0, 0, 4294967295⟩,
   ⟨0x1100, 0x7, 0x7, 0x3, 2, 1, 0, 0, 65535⟩,
   ⟨0x1100, 0x8, 0x8, 0x5, 8, 1, 0, 0, 2 ^ 64 - 1⟩,
   ⟨0x1100, 0x9, 0x9, 0x5, 8, 1, 0, 0, 2 ^ 64 - 1⟩,
   ⟨0x1100, 0xa, 0xa, 0x5, 8, 1, 0, 0, 2 ^ 64 - 1⟩,
   ⟨0x1100, 0xb, 0xb, 0x5, 8, 1, 0, 0, 2 ^ 64 - 1⟩,
   ⟨0x1100, 0xc, 0xc, 0x5, 8, 1, 0, 0, 2 ^ 64 - 1⟩,
   ⟨0x1100, 0xd, 0xd, 0x5, 8, 1, 0, 0, 2 ^ 64 - 1⟩,
   ⟨0x1100, 0xe, 0xe, 0x4, 4, 1, 0, 0, 4294967295⟩,
   ⟨0x1100, 0xf, 0xf, 0x5, 8, 1, 0, 0, 2 ^ 64 - 1⟩,
   ⟨0x1200, 0x1, 0x1, 0x5, 8, 2, 0, 0, 2 ^ 64 - 1⟩,
   ⟨0x1200, 0x2, 0x2, 0x3, 2, 1, 0, 0, 65535⟩,
   ⟨0x1200, 0x3, 0x3, 0x1, 1, 1, 0, 0, 1⟩,
   ⟨0x1200, 0x4, 0x4, 0x6, 4, 1, 0, 0, 4294967295⟩,
   ⟨0x1200, 0x5, 0x5, 0x5, 8, 1, 0, 0, 2 ^ 64 - 1⟩,
   ⟨0x1800, 0x1, 0x1, 0x8, 1, 1, 0, 0, 255⟩,
   ⟨0x1800, 0x2, 0x2, 0x1, 1, 1, 0, 0, 1⟩,
   ⟨0x1800, 0x3, 0x3, 0x8, 1, 1, 0, 0, 255⟩,
   ⟨0x1800, 0x4, 0x4, 0x2, 1, 3, 3, 1, 15⟩,
   ⟨0x1800, 0x5, 0x5, 0x2, 1, 1, 0, 0, 255⟩,
   ⟨0x1800, 0x6, 0x6, 0x8, 1, 1, 0, 0, 255⟩,
   ⟨0x1800, 0x7, 0x7, 0x2, 1, 1, 0, 0, 255⟩,
   ⟨0x1800, 0x8, 0x8, 0x4, 4, 1, 0, 0, 4294967295⟩]

/-- Objects StartLog to DiagExtentEntry. -/
def odRows1 : List OdObj :=
  [⟨0x1800, 0x9, 0x9, 0x11, 64, 1, 0, 0, 2 ^ 512 - 1⟩,
   ⟨0x1800, 0xa, 0xa, 0x1, 1, 3, 0, 0, 1⟩,
   ⟨0x1800, 0xb, 0xb, 0x4, 4, 4, 0, 0, 4294967295⟩,
   ⟨0x1800, 0xc, 0xc, 0x8, 1, 1, 0, 0, 255⟩,
   ⟨0x2000, 0x1, 0x1, 0x8, 1, 3, 0, 0, 1⟩,
   ⟨0x2000, 0x2, 0x2, 0x8, 1, 1, 0, 0, 255⟩,
   ⟨0x2000, 0x3, 0x3, 0x2, 1, 1, 255, 0, 255⟩,
   ⟨0x2000, 0x4, 0x4, 0x6, 4, 1, 0, 0, 4294967295⟩,
   ⟨0x2000, 0x5, 0x5, 0x11, 32, 1, 0, 0, 2 ^ 256 - 1⟩,
   ⟨0x2000, 0x6, 0x6, 0x1, 1, 1, 0, 0, 1⟩,
   ⟨0x2010, 0x1, 0x1, 0x5, 8, 2, 68719476735, 0, 68719476735⟩,
   ⟨0x2010, 0x2, 0x2, 0x5, 8, 1, 0, 0, 2 ^ 64 - 1⟩,
   ⟨0x2011, 0x1, 0x1, 0x3, 2, 2, 65535, 0, 65535⟩,
   ⟨0x2011, 0x2, 0x2, 0x3, 2, 2, 65535, 0, 65535⟩,
   ⟨0x2011, 0x3, 0x3, 0x2, 1, 2, 255, 0, 255⟩,
   ⟨0x2100, 0x1, 0x1, 0x4, 4, 0, 1000, 0, 4294967295⟩,
   ⟨0x2100, 0x2, 0x2, 0x4, 4, 3, 1000, 1, 60000⟩,
   ⟨0x2100, 0x3, 0x3, 0x3, 2, 1, 0, 0, 65535⟩,
   ⟨0x2100, 0x4, 0x4, 0x3, 2, 1, 0, 0, 65535⟩,
   ⟨0x2100, 0x5, 0x5, 0x2, 1, 4, 0, 0, 63⟩,
   ⟨0x2100, 0x6, 0x6, 0x3, 2, 1, 0, 0, 65535⟩,
   ⟨0x2101, 0x1, 0x40, 0x11, 16, 2, 0, 0, 2 ^ 128 - 1⟩,
   ⟨0x2110, 0x0, 0x0, 0x12, 0, 2, 0, 0, 0⟩,
   ⟨0x2120, 0x0, 0x0, 0x12, 0, 2, 0, 0, 0⟩,
   ⟨0x2130, 0x0, 0x0, 0x12, 0, 2, 0, 0, 0⟩,
   ⟨0x2200, 0x1, 0x1, 0x4, 4, 3, 2000, 100, 50000⟩,
   ⟨0x2200, 0x2, 0x2, 0x2, 1, 0, 4, 0, 255⟩,
   ⟨0x2200, 0x3, 0x3, 0x2, 1, 3, 1, 1, 25⟩,
   ⟨0x2200, 0x4, 0x4, 0x3, 2, 0, 2000, 0, 65535⟩,
   ⟨0x2200, 0x5, 0x5, 0x2, 1, 0, 64, 0, 255⟩,
   ⟨0x2200, 0x6, 0x6, 0x4, 4, 3, 1000, 10, 600000⟩,
   ⟨0x2200, 0x7, 0x7, 0x3, 2, 3, 20512, 20480, 24575⟩,
   ⟨0x2200, 0x8, 0x8, 0x3, 2, 1, 0, 0, 65535⟩,
   ⟨0x2200, 0x9, 0x9, 0x2, 1, 1, 0, 0, 255⟩,
   ⟨0x2200, 0xa, 0xa, 0x2, 1, 1, 0, 0, 255⟩,
   ⟨0x2200, 0xb, 0xb, 0x4, 4, 1, 0, 0, 4294967295⟩,
   ⟨0x2200, 0xc, 0xc, 0x4, 4, 1, 0, 0, 4294967295⟩,
   ⟨0x2200, 0xd, 0xd, 0x4, 4, 1, 0, 0, 4294967295⟩,
   ⟨0x2200, 0x10, 0x10, 0x4, 4, 2, 0, 0, 268435455⟩,
   ⟨0x2200, 0x11, 0x11, 0x5, 8, 1, 0, 0, 2 ^ 64 - 1⟩]

/-- Objects DiagTile to SelfRefreshIdle. -/
def odRows2 : List OdObj :=
  [⟨0x2200, 0x12, 0x12, 0x2, 1, 2, 0, 0, 31⟩,
   ⟨0x2200, 0x13, 0x13, 0x11, 64, 1, 0, 0, 2 ^ 512 - 1⟩,
   ⟨0x2300, 0x1, 0x1, 0x3, 2, 3, 20544, 20480, 24575⟩,
   ⟨0x2300, 0x2, 0x2, 0x11, 64, 1, 0, 0, 2 ^ 512 - 1⟩,
   ⟨0x2300, 0x3, 0x3, 0x4, 4, 3, 67108864, 1048576, 67108864⟩,
   ⟨0x2300, 0x4, 0x4, 0x11, 16, 1, 0, 0, 2 ^ 128 - 1⟩,
   ⟨0x2300, 0x10, 0x10, 0x2, 1, 2, 0, 0, 63⟩,
   ⟨0x2300, 0x11, 0x11, 0x2, 1, 2, 0, 0, 1⟩,
   ⟨0x2300, 0x12, 0x12, 0x11, 32, 1, 0, 0, 2 ^ 256 - 1⟩,
   ⟨0x2300, 0x13, 0x13, 0x11, 32, 1, 0, 0, 2 ^ 256 - 1⟩,
   ⟨0x2400, 0x1, 0x1, 0x4, 4, 3, 1000, 100, 60000⟩,
   ⟨0x2400, 0x2, 0x2, 0x3, 2, 3, 20528, 20480, 24575⟩,
   ⟨0x2400, 0x3, 0x3, 0x3, 2, 3, 20529, 20480, 24575⟩,
   ⟨0x2400, 0x4, 0x4, 0x2, 1, 3, 4, 1, 16⟩,
   ⟨0x2400, 0x5, 0x5, 0x4, 4, 3, 24000, 1000, 48000⟩,
   ⟨0x2400, 0x6, 0x6, 0x2, 1, 3, 3, 1, 15⟩,
   ⟨0x2400, 0x7, 0x7, 0x4, 4, 1, 0, 0, 4294967295⟩,
   ⟨0x2400, 0x8, 0x8, 0x3, 2, 1, 0, 0, 65535⟩,
   ⟨0x2400, 0x9, 0x9, 0x4, 4, 1, 0, 0, 4294967295⟩,
   ⟨0x2400, 0x10, 0x10, 0x4, 4, 2, 0, 0, 262143⟩,
   ⟨0x2400, 0x11, 0x11, 0x11, 128, 1, 0, 0, 2 ^ 1024 - 1⟩,
   ⟨0x2400, 0x12, 0x12, 0x3, 2, 2, 0, 0, 4095⟩,
   ⟨0x2400, 0x13, 0x13, 0x11, 32, 1, 0, 0, 2 ^ 256 - 1⟩,
   ⟨0x2500, 0x1, 0x1, 0x2, 1, 3, 75, 51, 95⟩,
   ⟨0x2500, 0x2, 0x2, 0x2, 1, 3, 50, 5, 94⟩,
   ⟨0x2500, 0x3, 0x3, 0x3, 2, 1, 20592, 0, 65535⟩,
   ⟨0x2500, 0x4, 0x4, 0x1, 1, 3, 0, 0, 1⟩,
   ⟨0x2500, 0x5, 0x5, 0x2, 1, 3, 80, 10, 80⟩,
   ⟨0x2500, 0x6, 0x6, 0x2, 1, 3, 70, 10, 70⟩,
   ⟨0x2500, 0x7, 0x7, 0x2, 1, 3, 60, 10, 60⟩,
   ⟨0x2500, 0x8, 0x8, 0x2, 1, 3, 80, 10, 80⟩,
   ⟨0x2500, 0x9, 0x9, 0x11, 28, 1, 0, 0, 2 ^ 224 - 1⟩,
   ⟨0x2500, 0xa, 0xa, 0x11, 8, 1, 0, 0, 2 ^ 64 - 1⟩,
   ⟨0x2500, 0xb, 0xb, 0x2, 1, 1, 0, 0, 255⟩,
   ⟨0x2500, 0x10, 0x10, 0x2, 1, 2, 0, 0, 130⟩,
   ⟨0x2500, 0x11, 0x11, 0x11, 32, 1, 0, 0, 2 ^ 256 - 1⟩,
   ⟨0x2600, 0x1, 0x1, 0x4, 4, 3, 4096, 256, 65536⟩,
   ⟨0x2600, 0x2, 0x2, 0x3, 2, 1, 0, 0, 65535⟩,
   ⟨0x2600, 0x3, 0x3, 0x8, 1, 3, 1, 0, 1⟩,
   ⟨0x2600, 0x4, 0x4, 0x4, 4, 3, 200, 0, 100000⟩]

/-- Objects PortPriority to SvnCommit. -/
def odRows3 : List OdObj :=
  [⟨0x2600, 0x5, 0x5, 0x3, 2, 3, 218, 0, 1023⟩,
   ⟨0x2600, 0x6, 0x6, 0x3, 2, 3, 10, 1, 1000⟩,
   ⟨0x2600, 0x7, 0x7, 0x2, 1, 0, 8, 0, 255⟩,
   ⟨0x2600, 0x8, 0x8, 0x2, 1, 0, 64, 0, 255⟩,
   ⟨0x2600, 0x9, 0x9, 0x4, 4, 3, 4096, 16, 1000000⟩,
   ⟨0x2600, 0xa, 0xa, 0x11, 16, 1, 0, 0, 2 ^ 128 - 1⟩,
   ⟨0x2600, 0xb, 0xb, 0x11, 8, 1, 0, 0, 2 ^ 64 - 1⟩,
   ⟨0x2600, 0xc, 0xc, 0x4, 4, 1, 0, 0, 4294967295⟩,
   ⟨0x2600, 0xd, 0xd, 0x2, 1, 4, 0, 1, 1⟩,
   ⟨0x2600, 0xe, 0xe, 0x8, 1, 1, 0, 0, 255⟩,
   ⟨0x2600, 0xf, 0xf, 0x8, 1, 1, 0, 0, 255⟩,
   ⟨0x2600, 0x10, 0x10, 0x2, 1, 2, 0, 0, 15⟩,
   ⟨0x2600, 0x11, 0x11, 0x2, 1, 2, 0, 0, 1⟩,
   ⟨0x2600, 0x12, 0x12, 0x11, 1024, 1, 0, 0, 0⟩,
   ⟨0x2700, 0x1, 0x1, 0x8, 1, 1, 0, 0, 255⟩,
   ⟨0x2700, 0x2, 0x2, 0x11, 16, 1, 0, 0, 2 ^ 128 - 1⟩,
   ⟨0x2700, 0x3, 0x3, 0x3, 2, 1, 0, 0, 65535⟩,
   ⟨0x2700, 0x4, 0x4, 0x11, 16, 1, 0, 0, 2 ^ 128 - 1⟩,
   ⟨0x2700, 0x5, 0x5, 0x5, 8, 1, 0, 0, 2 ^ 64 - 1⟩,
   ⟨0x2700, 0x6, 0x6, 0x5, 8, 1, 0, 0, 2 ^ 64 - 1⟩,
   ⟨0x2700, 0x7, 0x7, 0x5, 8, 1, 0, 0, 2 ^ 64 - 1⟩,
   ⟨0x2700, 0x8, 0x8, 0x4, 4, 1, 0, 0, 4294967295⟩,
   ⟨0x2700, 0xa, 0xa, 0x2, 1, 3, 7, 7, 28⟩,
   ⟨0x2700, 0xb, 0xb, 0x4, 4, 4, 0, 0, 4294967295⟩,
   ⟨0x2700, 0xc, 0xc, 0x3, 2, 3, 60, 1, 3650⟩,
   ⟨0x2700, 0xd, 0xd, 0x3, 2, 3, 20576, 20480, 24575⟩,
   ⟨0x2700, 0xe, 0xe, 0x3, 2, 3, 500, 50, 10000⟩,
   ⟨0x2700, 0xf, 0xf, 0x5, 8, 1, 0, 0, 2 ^ 64 - 1⟩,
   ⟨0x2700, 0x10, 0x10, 0x3, 2, 3, 50, 10, 1000⟩,
   ⟨0x2700, 0x11, 0x11, 0x4, 4, 0, 10000, 0, 4294967295⟩,
   ⟨0x2700, 0x12, 0x12, 0x2, 1, 3, 2, 1, 4⟩,
   ⟨0x2700, 0x13, 0x13, 0x4, 4, 2, 0, 0, 268435455⟩,
   ⟨0x2700, 0x14, 0x14, 0x11, 128, 1, 0, 0, 2 ^ 1024 - 1⟩,
   ⟨0x2800, 0x1, 0x1, 0x11, 60, 1, 0, 0, 2 ^ 480 - 1⟩,
   ⟨0x2800, 0x2, 0x2, 0x11, 60, 1, 0, 0, 2 ^ 480 - 1⟩,
   ⟨0x2800, 0x3, 0x3, 0x2, 1, 1, 0, 0, 255⟩,
   ⟨0x2800, 0x4, 0x4, 0x4, 4, 1, 0, 0, 4294967295⟩,
   ⟨0x2800, 0x5, 0x5, 0x2, 1, 1, 0, 0, 255⟩,
   ⟨0x2800, 0x6, 0x6, 0x2, 1, 5, 0, 0, 1⟩,
   ⟨0x2800, 0x7, 0x7, 0x4, 4, 5, 0, 0, 4294967295⟩]

/-- Objects DciDigest to RegStatus. -/
def odRows4 : List OdObj :=
  [⟨0x2800, 0x8, 0x8, 0x11, 32, 1, 0, 0, 2 ^ 256 - 1⟩,
   ⟨0x2800, 0x9, 0x9, 0x3, 2, 1, 0, 0, 65535⟩,
   ⟨0x2800, 0xa, 0xa, 0x4, 4, 1, 0, 0, 4294967295⟩,
   ⟨0x2800, 0xb, 0xb, 0x5, 8, 1, 0, 0, 2 ^ 64 - 1⟩,
   ⟨0x2800, 0xc, 0xc, 0x2, 1, 5, 2, 1, 16⟩,
   ⟨0x2800, 0xd, 0xd, 0x2, 1, 0, 64, 0, 255⟩,
   ⟨0x2800, 0xe, 0xe, 0x8, 1, 1, 0, 0, 255⟩,
   ⟨0x2800, 0xf, 0xf, 0x4, 4, 5, 0, 0, 4294967295⟩,
   ⟨0x2800, 0x10, 0x10, 0x2, 1, 1, 0, 0, 255⟩,
   ⟨0x2800, 0x11, 0x11, 0x2, 1, 5, 0, 0, 15⟩,
   ⟨0x2800, 0x12, 0x12, 0x3, 2, 2, 0, 0, 4095⟩,
   ⟨0x2800, 0x13, 0x13, 0x11, 16, 1, 0, 0, 2 ^ 128 - 1⟩,
   ⟨0x2900, 0x1, 0x1, 0x4, 4, 3, 1, 1, 1000000⟩,
   ⟨0x2900, 0x2, 0x2, 0x4, 4, 3, 10, 1, 1000000⟩,
   ⟨0x2900, 0x3, 0x3, 0x4, 4, 3, 1000, 1, 1000000⟩,
   ⟨0x2900, 0x4, 0x4, 0x4, 4, 3, 0, 0, 1000000⟩,
   ⟨0x2900, 0x5, 0x5, 0x4, 4, 3, 64, 8, 10000⟩,
   ⟨0x2900, 0x6, 0x6, 0x11, 8, 3, 0, 0, 2 ^ 64 - 1⟩,
   ⟨0x2900, 0x7, 0x7, 0x11, 16, 1, 0, 0, 2 ^ 128 - 1⟩,
   ⟨0x2900, 0x8, 0x8, 0x3, 2, 0, 8192, 0, 65535⟩,
   ⟨0x2900, 0xa, 0xa, 0x2, 1, 4, 0, 0, 255⟩,
   ⟨0x2a00, 0x1, 0x1, 0x4, 4, 3, 50000, 100, 10000000⟩,
   ⟨0x2a00, 0x2, 0x2, 0x3, 2, 3, 64, 0, 1024⟩,
   ⟨0x2a00, 0x3, 0x3, 0x3, 2, 3, 1, 1, 1000⟩,
   ⟨0x2a00, 0x4, 0x4, 0x3, 2, 1, 0, 0, 65535⟩,
   ⟨0x2a00, 0x5, 0x5, 0x3, 2, 1, 0, 0, 65535⟩,
   ⟨0x2a00, 0x6, 0x6, 0x2, 1, 1, 0, 0, 255⟩,
   ⟨0x2a00, 0x7, 0x7, 0x4, 4, 1, 0, 0, 4294967295⟩,
   ⟨0x2a00, 0x10, 0x10, 0x3, 2, 2, 0, 0, 4095⟩,
   ⟨0x2a00, 0x11, 0x11, 0x11, 64, 1, 0, 0, 2 ^ 512 - 1⟩,
   ⟨0x2a00, 0x12, 0x12, 0x3, 2, 2, 0, 0, 1023⟩,
   ⟨0x2a00, 0x13, 0x13, 0x11, 64, 1, 0, 0, 2 ^ 512 - 1⟩,
   ⟨0x2a10, 0x1, 0x1, 0x8, 1, 2, 0, 0, 1⟩,
   ⟨0x2a10, 0x2, 0x2, 0x3, 2, 2, 0, 0, 4095⟩,
   ⟨0x2a10, 0x3, 0x3, 0x4, 4, 2, 0, 0, 2147483647⟩,
   ⟨0x2a10, 0x4, 0x4, 0x4, 4, 2, 1, 1, 65536⟩,
   ⟨0x2a10, 0x5, 0x5, 0x5, 8, 2, 0, 0, 2 ^ 64 - 1⟩,
   ⟨0x2a10, 0x6, 0x6, 0x11, 32, 2, 0, 0, 2 ^ 256 - 1⟩,
   ⟨0x2a10, 0x7, 0x7, 0x8, 1, 4, 0, 1, 3⟩,
   ⟨0x2a10, 0x8, 0x8, 0x8, 1, 1, 0, 0, 255⟩]

/-- Objects RegResult to TestStrips. -/
def odRows5 : List OdObj :=
  [⟨0x2a10, 0x9, 0x9, 0x3, 2, 1, 0, 0, 65535⟩,
   ⟨0x2a10, 0xa, 0xa, 0x4, 4, 2, 0, 0, 2147483647⟩,
   ⟨0x2a10, 0xb, 0xb, 0x2, 1, 2, 0, 0, 64⟩,
   ⟨0x3020, 0x1, 0x1, 0x5, 8, 1, 0, 0, 2 ^ 64 - 1⟩,
   ⟨0x3020, 0x2, 0x2, 0x5, 8, 1, 0, 0, 2 ^ 64 - 1⟩,
   ⟨0x3020, 0x3, 0x3, 0x5, 8, 1, 0, 0, 2 ^ 64 - 1⟩,
   ⟨0x3020, 0x4, 0x4, 0x5, 8, 1, 0, 0, 2 ^ 64 - 1⟩,
   ⟨0x3020, 0x5, 0x5, 0x5, 8, 1, 0, 0, 2 ^ 64 - 1⟩,
   ⟨0x3020, 0x6, 0x6, 0x5, 8, 1, 0, 0, 2 ^ 64 - 1⟩,
   ⟨0x3020, 0x7, 0x7, 0x5, 8, 1, 0, 0, 2 ^ 64 - 1⟩,
   ⟨0x3020, 0x8, 0x8, 0x5, 8, 1, 0, 0, 2 ^ 64 - 1⟩,
   ⟨0x3020, 0x9, 0x9, 0x5, 8, 1, 0, 0, 2 ^ 64 - 1⟩,
   ⟨0x3020, 0xa, 0xa, 0x5, 8, 1, 0, 0, 2 ^ 64 - 1⟩,
   ⟨0x3020, 0xb, 0xb, 0x5, 8, 1, 0, 0, 2 ^ 64 - 1⟩,
   ⟨0x3020, 0xc, 0xc, 0x5, 8, 1, 0, 0, 2 ^ 64 - 1⟩,
   ⟨0x3020, 0xd, 0xd, 0x5, 8, 1, 0, 0, 2 ^ 64 - 1⟩,
   ⟨0x3020, 0xe, 0xe, 0x5, 8, 1, 0, 0, 2 ^ 64 - 1⟩,
   ⟨0x3020, 0xf, 0xf, 0x5, 8, 1, 0, 0, 2 ^ 64 - 1⟩,
   ⟨0x3021, 0x1, 0x40, 0x5, 8, 1, 0, 0, 2 ^ 64 - 1⟩,
   ⟨0x3022, 0x1, 0x40, 0x5, 8, 1, 0, 0, 2 ^ 64 - 1⟩,
   ⟨0x3023, 0x1, 0x40, 0x5, 8, 1, 0, 0, 2 ^ 64 - 1⟩,
   ⟨0x3024, 0x1, 0x40, 0x5, 8, 1, 0, 0, 2 ^ 64 - 1⟩,
   ⟨0x3030, 0x1, 0x1, 0x5, 8, 1, 0, 0, 2 ^ 64 - 1⟩,
   ⟨0x3030, 0x2, 0x2, 0x5, 8, 1, 0, 0, 2 ^ 64 - 1⟩,
   ⟨0x3030, 0x3, 0x3, 0x5, 8, 1, 0, 0, 2 ^ 64 - 1⟩,
   ⟨0x3030, 0x4, 0x4, 0x5, 8, 1, 0, 0, 2 ^ 64 - 1⟩,
   ⟨0x3030, 0x5, 0x5, 0x5, 8, 1, 0, 0, 2 ^ 64 - 1⟩,
   ⟨0x3030, 0x6, 0x6, 0x5, 8, 1, 0, 0, 2 ^ 64 - 1⟩,
   ⟨0x3030, 0x7, 0x7, 0x5, 8, 1, 0, 0, 2 ^ 64 - 1⟩,
   ⟨0x3030, 0x8, 0x8, 0x5, 8, 1, 0, 0, 2 ^ 64 - 1⟩,
   ⟨0x3030, 0x9, 0x9, 0x5, 8, 1, 0, 0, 2 ^ 64 - 1⟩,
   ⟨0x3031, 0x1, 0x40, 0x5, 8, 1, 0, 0, 2 ^ 64 - 1⟩,
   ⟨0x3032, 0x1, 0x40, 0x5, 8, 1, 0, 0, 2 ^ 64 - 1⟩,
   ⟨0x3040, 0x1, 0x1, 0x5, 8, 1, 0, 0, 2 ^ 64 - 1⟩,
   ⟨0x3040, 0x2, 0x2, 0x5, 8, 1, 0, 0, 2 ^ 64 - 1⟩,
   ⟨0x3040, 0x3, 0x3, 0x5, 8, 1, 0, 0, 2 ^ 64 - 1⟩,
   ⟨0x3040, 0x4, 0x4, 0x5, 8, 1, 0, 0, 2 ^ 64 - 1⟩,
   ⟨0x3040, 0x5, 0x5, 0x5, 8, 1, 0, 0, 2 ^ 64 - 1⟩,
   ⟨0x3040, 0x6, 0x6, 0x5, 8, 1, 0, 0, 2 ^ 64 - 1⟩,
   ⟨0x3040, 0x7, 0x7, 0x5, 8, 1, 0, 0, 2 ^ 64 - 1⟩]

/-- Objects ReencodeMoves to PartitionCompletedLate. -/
def odRows6 : List OdObj :=
  [⟨0x3040, 0x8, 0x8, 0x5, 8, 1, 0, 0, 2 ^ 64 - 1⟩,
   ⟨0x3041, 0x1, 0x40, 0x5, 8, 1, 0, 0, 2 ^ 64 - 1⟩,
   ⟨0x3042, 0x1, 0x40, 0x5, 8, 1, 0, 0, 2 ^ 64 - 1⟩,
   ⟨0x3043, 0x1, 0xb, 0x5, 8, 1, 0, 0, 2 ^ 64 - 1⟩,
   ⟨0x3050, 0x1, 0x1, 0x5, 8, 1, 0, 0, 2 ^ 64 - 1⟩,
   ⟨0x3050, 0x2, 0x2, 0x5, 8, 1, 0, 0, 2 ^ 64 - 1⟩,
   ⟨0x3050, 0x3, 0x3, 0x5, 8, 1, 0, 0, 2 ^ 64 - 1⟩,
   ⟨0x3050, 0x4, 0x4, 0x5, 8, 1, 0, 0, 2 ^ 64 - 1⟩,
   ⟨0x3050, 0x5, 0x5, 0x5, 8, 1, 0, 0, 2 ^ 64 - 1⟩,
   ⟨0x3051, 0x1, 0x40, 0x5, 8, 1, 0, 0, 2 ^ 64 - 1⟩,
   ⟨0x3052, 0x1, 0x40, 0x5, 8, 1, 0, 0, 2 ^ 64 - 1⟩,
   ⟨0x3053, 0x1, 0x40, 0x5, 8, 1, 0, 0, 2 ^ 64 - 1⟩,
   ⟨0x3054, 0x1, 0x40, 0x5, 8, 1, 0, 0, 2 ^ 64 - 1⟩,
   ⟨0x3055, 0x1, 0x40, 0x5, 8, 1, 0, 0, 2 ^ 64 - 1⟩,
   ⟨0x3060, 0x1, 0x1, 0x5, 8, 1, 0, 0, 2 ^ 64 - 1⟩,
   ⟨0x3060, 0x2, 0x2, 0x5, 8, 1, 0, 0, 2 ^ 64 - 1⟩,
   ⟨0x3060, 0x3, 0x3, 0x5, 8, 1, 0, 0, 2 ^ 64 - 1⟩,
   ⟨0x3060, 0x4, 0x4, 0x5, 8, 1, 0, 0, 2 ^ 64 - 1⟩,
   ⟨0x3060, 0x5, 0x5, 0x5, 8, 1, 0, 0, 2 ^ 64 - 1⟩,
   ⟨0x3060, 0x6, 0x6, 0x5, 8, 1, 0, 0, 2 ^ 64 - 1⟩,
   ⟨0x3060, 0x7, 0x7, 0x5, 8, 1, 0, 0, 2 ^ 64 - 1⟩,
   ⟨0x3060, 0x8, 0x8, 0x5, 8, 1, 0, 0, 2 ^ 64 - 1⟩,
   ⟨0x3060, 0x11, 0x18, 0x5, 8, 1, 0, 0, 2 ^ 64 - 1⟩,
   ⟨0x3061, 0x1, 0x40, 0x5, 8, 1, 0, 0, 2 ^ 64 - 1⟩,
   ⟨0x3062, 0x1, 0x40, 0x5, 8, 1, 0, 0, 2 ^ 64 - 1⟩,
   ⟨0x3063, 0x1, 0x40, 0x5, 8, 1, 0, 0, 2 ^ 64 - 1⟩,
   ⟨0x3064, 0x1, 0x40, 0x5, 8, 1, 0, 0, 2 ^ 64 - 1⟩,
   ⟨0x3065, 0x1, 0x40, 0x5, 8, 1, 0, 0, 2 ^ 64 - 1⟩,
   ⟨0x3066, 0x1, 0x40, 0x5, 8, 1, 0, 0, 2 ^ 64 - 1⟩,
   ⟨0x3067, 0x1, 0x40, 0x5, 8, 1, 0, 0, 2 ^ 64 - 1⟩,
   ⟨0x3068, 0x1, 0x40, 0x5, 8, 1, 0, 0, 2 ^ 64 - 1⟩,
   ⟨0x3069, 0x1, 0x40, 0x5, 8, 1, 0, 0, 2 ^ 64 - 1⟩,
   ⟨0x3070, 0x1, 0x1, 0x5, 8, 1, 0, 0, 2 ^ 64 - 1⟩,
   ⟨0x3070, 0x2, 0x2, 0x5, 8, 1, 0, 0, 2 ^ 64 - 1⟩,
   ⟨0x3070, 0x3, 0x3, 0x5, 8, 1, 0, 0, 2 ^ 64 - 1⟩,
   ⟨0x3070, 0x4, 0x4, 0x5, 8, 1, 0, 0, 2 ^ 64 - 1⟩,
   ⟨0x3070, 0x5, 0x5, 0x5, 8, 1, 0, 0, 2 ^ 64 - 1⟩,
   ⟨0x3071, 0x1, 0x40, 0x5, 8, 1, 0, 0, 2 ^ 64 - 1⟩,
   ⟨0x3072, 0x1, 0x40, 0x5, 8, 1, 0, 0, 2 ^ 64 - 1⟩,
   ⟨0x3073, 0x1, 0x40, 0x5, 8, 1, 0, 0, 2 ^ 64 - 1⟩]

/-- Objects ExposuresCommitted to ReadRetries. -/
def odRows7 : List OdObj :=
  [⟨0x3080, 0x1, 0x1, 0x5, 8, 1, 0, 0, 2 ^ 64 - 1⟩,
   ⟨0x3080, 0x2, 0x2, 0x5, 8, 1, 0, 0, 2 ^ 64 - 1⟩,
   ⟨0x3080, 0x3, 0x3, 0x5, 8, 1, 0, 0, 2 ^ 64 - 1⟩,
   ⟨0x3080, 0x4, 0x4, 0x5, 8, 1, 0, 0, 2 ^ 64 - 1⟩,
   ⟨0x3080, 0x5, 0x5, 0x5, 8, 1, 0, 0, 2 ^ 64 - 1⟩,
   ⟨0x3080, 0x6, 0x6, 0x5, 8, 1, 0, 0, 2 ^ 64 - 1⟩,
   ⟨0x3080, 0x7, 0x7, 0x5, 8, 1, 0, 0, 2 ^ 64 - 1⟩,
   ⟨0x3081, 0x1, 0x40, 0x5, 8, 1, 0, 0, 2 ^ 64 - 1⟩,
   ⟨0x3082, 0x1, 0x40, 0x5, 8, 1, 0, 0, 2 ^ 64 - 1⟩,
   ⟨0x3090, 0x1, 0x1, 0x5, 8, 1, 0, 0, 2 ^ 64 - 1⟩,
   ⟨0x3090, 0x2, 0x2, 0x5, 8, 1, 0, 0, 2 ^ 64 - 1⟩,
   ⟨0x3090, 0x3, 0x3, 0x5, 8, 1, 0, 0, 2 ^ 64 - 1⟩,
   ⟨0x3090, 0x4, 0x4, 0x5, 8, 1, 0, 0, 2 ^ 64 - 1⟩,
   ⟨0x3090, 0x5, 0x5, 0x5, 8, 1, 0, 0, 2 ^ 64 - 1⟩,
   ⟨0x3090, 0x6, 0x6, 0x5, 8, 1, 0, 0, 2 ^ 64 - 1⟩,
   ⟨0x3090, 0x7, 0x7, 0x5, 8, 1, 0, 0, 2 ^ 64 - 1⟩,
   ⟨0x3091, 0x1, 0x40, 0x5, 8, 1, 0, 0, 2 ^ 64 - 1⟩,
   ⟨0x3092, 0x1, 0x40, 0x5, 8, 1, 0, 0, 2 ^ 64 - 1⟩,
   ⟨0x3093, 0x1, 0x40, 0x5, 8, 1, 0, 0, 2 ^ 64 - 1⟩,
   ⟨0x30a0, 0x1, 0x1, 0x5, 8, 1, 0, 0, 2 ^ 64 - 1⟩,
   ⟨0x30a0, 0x2, 0x2, 0x5, 8, 1, 0, 0, 2 ^ 64 - 1⟩,
   ⟨0x30a0, 0x3, 0x3, 0x5, 8, 1, 0, 0, 2 ^ 64 - 1⟩,
   ⟨0x30a0, 0x4, 0x4, 0x5, 8, 1, 0, 0, 2 ^ 64 - 1⟩,
   ⟨0x30a0, 0x5, 0x5, 0x5, 8, 1, 0, 0, 2 ^ 64 - 1⟩,
   ⟨0x30a0, 0x6, 0x6, 0x5, 8, 1, 0, 0, 2 ^ 64 - 1⟩,
   ⟨0x30a0, 0x7, 0x7, 0x5, 8, 1, 0, 0, 2 ^ 64 - 1⟩,
   ⟨0x30a0, 0x8, 0x8, 0x5, 8, 1, 0, 0, 2 ^ 64 - 1⟩,
   ⟨0x30a0, 0x9, 0x9, 0x5, 8, 1, 0, 0, 2 ^ 64 - 1⟩,
   ⟨0x30a0, 0xa, 0xa, 0x5, 8, 1, 0, 0, 2 ^ 64 - 1⟩,
   ⟨0x30a0, 0xb, 0xb, 0x5, 8, 1, 0, 0, 2 ^ 64 - 1⟩,
   ⟨0x30a0, 0xc, 0xc, 0x5, 8, 1, 0, 0, 2 ^ 64 - 1⟩,
   ⟨0x30a1, 0x1, 0x10, 0x5, 8, 1, 0, 0, 2 ^ 64 - 1⟩,
   ⟨0x30a2, 0x1, 0x8, 0x5, 8, 1, 0, 0, 2 ^ 64 - 1⟩,
   ⟨0x30a3, 0x1, 0x40, 0x5, 8, 1, 0, 0, 2 ^ 64 - 1⟩,
   ⟨0x30a4, 0x1, 0x40, 0x5, 8, 1, 0, 0, 2 ^ 64 - 1⟩,
   ⟨0x30a5, 0x1, 0x40, 0x5, 8, 1, 0, 0, 2 ^ 64 - 1⟩,
   ⟨0x30b0, 0x1, 0x1, 0x5, 8, 1, 0, 0, 2 ^ 64 - 1⟩,
   ⟨0x30b0, 0x2, 0x2, 0x5, 8, 1, 0, 0, 2 ^ 64 - 1⟩,
   ⟨0x30b0, 0x3, 0x3, 0x5, 8, 1, 0, 0, 2 ^ 64 - 1⟩,
   ⟨0x30b0, 0x4, 0x4, 0x5, 8, 1, 0, 0, 2 ^ 64 - 1⟩]

/-- Objects SoftDecodes to DieTemperature. -/
def odRows8 : List OdObj :=
  [⟨0x30b0, 0x5, 0x5, 0x5, 8, 1, 0, 0, 2 ^ 64 - 1⟩,
   ⟨0x30b0, 0x6, 0x6, 0x5, 8, 1, 0, 0, 2 ^ 64 - 1⟩,
   ⟨0x30b0, 0x7, 0x7, 0x5, 8, 1, 0, 0, 2 ^ 64 - 1⟩,
   ⟨0x30b0, 0x8, 0x8, 0x5, 8, 1, 0, 0, 2 ^ 64 - 1⟩,
   ⟨0x30b0, 0x9, 0x9, 0x5, 8, 1, 0, 0, 2 ^ 64 - 1⟩,
   ⟨0x30b0, 0xa, 0xa, 0x5, 8, 1, 0, 0, 2 ^ 64 - 1⟩,
   ⟨0x30b0, 0xb, 0xb, 0x5, 8, 1, 0, 0, 2 ^ 64 - 1⟩,
   ⟨0x30b0, 0xc, 0xc, 0x5, 8, 1, 0, 0, 2 ^ 64 - 1⟩,
   ⟨0x30b1, 0x1, 0x10, 0x5, 8, 1, 0, 0, 2 ^ 64 - 1⟩,
   ⟨0x30c0, 0x1, 0x3, 0x5, 8, 1, 0, 0, 2 ^ 64 - 1⟩,
   ⟨0x30c0, 0x4, 0x4, 0x5, 8, 1, 0, 0, 2 ^ 64 - 1⟩,
   ⟨0x30c0, 0x5, 0x5, 0x5, 8, 1, 0, 0, 2 ^ 64 - 1⟩,
   ⟨0x30c1, 0x1, 0x40, 0x5, 8, 1, 0, 0, 2 ^ 64 - 1⟩,
   ⟨0x30c2, 0x1, 0x40, 0x5, 8, 1, 0, 0, 2 ^ 64 - 1⟩,
   ⟨0x30c3, 0x1, 0x40, 0x5, 8, 1, 0, 0, 2 ^ 64 - 1⟩,
   ⟨0x30c4, 0x1, 0x40, 0x5, 8, 1, 0, 0, 2 ^ 64 - 1⟩,
   ⟨0x30d0, 0x1, 0x1, 0x5, 8, 1, 0, 0, 2 ^ 64 - 1⟩,
   ⟨0x30d0, 0x2, 0x2, 0x5, 8, 1, 0, 0, 2 ^ 64 - 1⟩,
   ⟨0x30d0, 0x3, 0x3, 0x5, 8, 1, 0, 0, 2 ^ 64 - 1⟩,
   ⟨0x30d0, 0x4, 0x4, 0x5, 8, 1, 0, 0, 2 ^ 64 - 1⟩,
   ⟨0x30d0, 0x5, 0x5, 0x5, 8, 1, 0, 0, 2 ^ 64 - 1⟩,
   ⟨0x30d0, 0x6, 0x6, 0x5, 8, 1, 0, 0, 2 ^ 64 - 1⟩,
   ⟨0x30d1, 0x1, 0x40, 0x5, 8, 1, 0, 0, 2 ^ 64 - 1⟩,
   ⟨0x30e0, 0x1, 0x1, 0x5, 8, 1, 0, 0, 2 ^ 64 - 1⟩,
   ⟨0x30e0, 0x2, 0x2, 0x5, 8, 1, 0, 0, 2 ^ 64 - 1⟩,
   ⟨0x30e0, 0x3, 0x3, 0x5, 8, 1, 0, 0, 2 ^ 64 - 1⟩,
   ⟨0x30e0, 0x4, 0x4, 0x5, 8, 1, 0, 0, 2 ^ 64 - 1⟩,
   ⟨0x30e0, 0x5, 0x5, 0x5, 8, 1, 0, 0, 2 ^ 64 - 1⟩,
   ⟨0x30f0, 0x1, 0x1, 0x5, 8, 1, 0, 0, 2 ^ 64 - 1⟩,
   ⟨0x30f0, 0x2, 0x2, 0x5, 8, 1, 0, 0, 2 ^ 64 - 1⟩,
   ⟨0x30f0, 0x3, 0x3, 0x5, 8, 1, 0, 0, 2 ^ 64 - 1⟩,
   ⟨0x30f0, 0x4, 0x4, 0x5, 8, 1, 0, 0, 2 ^ 64 - 1⟩,
   ⟨0x30f0, 0x5, 0x5, 0x5, 8, 1, 0, 0, 2 ^ 64 - 1⟩,
   ⟨0x30f0, 0x6, 0x6, 0x5, 8, 1, 0, 0, 2 ^ 64 - 1⟩,
   ⟨0x3100, 0x1, 0x1, 0x5, 8, 1, 0, 0, 2 ^ 64 - 1⟩,
   ⟨0x3100, 0x2, 0x2, 0x5, 8, 1, 0, 0, 2 ^ 64 - 1⟩,
   ⟨0x3100, 0x3, 0x3, 0x5, 8, 1, 0, 0, 2 ^ 64 - 1⟩,
   ⟨0x3100, 0x4, 0x4, 0x5, 8, 1, 0, 0, 2 ^ 64 - 1⟩,
   ⟨0x3100, 0x5, 0x5, 0x5, 8, 1, 0, 0, 2 ^ 64 - 1⟩,
   ⟨0x3101, 0x1, 0x18, 0x6, 4, 1, 0, 0, 4294967295⟩]

/-- Objects RailPower to DebugToken. -/
def odRows9 : List OdObj :=
  [⟨0x3102, 0x1, 0xb, 0x4, 4, 1, 0, 0, 4294967295⟩,
   ⟨0x3103, 0x1, 0x1, 0x4, 4, 1, 0, 0, 4294967295⟩,
   ⟨0x3103, 0x2, 0x2, 0x11, 8, 1, 0, 0, 2 ^ 64 - 1⟩,
   ⟨0x3800, 0x1, 0x1, 0x1, 1, 2, 0, 0, 1⟩,
   ⟨0x3800, 0x2, 0x2, 0x4, 4, 2, 1000, 10, 1000000⟩,
   ⟨0x3800, 0x3, 0x3, 0x11, 256, 2, 0, 0, 2 ^ 2048 - 1⟩,
   ⟨0x3800, 0x4, 0x4, 0x3, 2, 1, 0, 0, 65535⟩,
   ⟨0x3800, 0x5, 0x5, 0x2, 1, 4, 0, 1, 1⟩,
   ⟨0x3800, 0x6, 0x6, 0x3, 2, 1, 0, 0, 65535⟩,
   ⟨0x3800, 0x7, 0x7, 0x5, 8, 1, 0, 0, 2 ^ 64 - 1⟩,
   ⟨0x3800, 0x10, 0x10, 0x11, 65536, 1, 0, 0, 0⟩,
   ⟨0x3900, 0x1, 0x1, 0x3, 2, 1, 0, 0, 65535⟩,
   ⟨0x3900, 0x2, 0x2, 0x2, 1, 4, 0, 1, 1⟩,
   ⟨0x3900, 0x3, 0x3, 0x3, 2, 1, 0, 0, 65535⟩,
   ⟨0x3900, 0x4, 0x4, 0x5, 8, 1, 0, 0, 2 ^ 64 - 1⟩,
   ⟨0x3900, 0x10, 0x10, 0x11, 32768, 1, 0, 0, 0⟩,
   ⟨0x5080, 0x0, 0x0, 0x12, 0, 3, 0, 0, 0⟩,
   ⟨0x5081, 0x0, 0x0, 0x12, 0, 3, 0, 0, 0⟩,
   ⟨0x5082, 0x0, 0x0, 0x12, 0, 3, 0, 0, 0⟩,
   ⟨0x5083, 0x0, 0x0, 0x12, 0, 3, 0, 0, 0⟩,
   ⟨0x6000, 0x1, 0x1, 0x11, 32, 1, 0, 0, 0⟩,
   ⟨0x6000, 0x2, 0x2, 0x11, 5400, 4, 0, 0, 0⟩]

/-- Every object that is not a policy table, in ascending order of index and subindex. -/
def odTable : List OdObj :=
  odRows0 ++ odRows1 ++ odRows2 ++ odRows3 ++ odRows4 ++ odRows5 ++ odRows6 ++ odRows7 ++ odRows8 ++ odRows9

end Sys2Proof.Machine
end

