-- ==== Sys2Proof/Machine/TableOps.lean ====
section
/-! DEFINITION. Policy tables (R536 to R540): their bytes, the rules of each KIND, and the checks of the chapters
that own them; and the Device Configuration Image that carries them (R451 to R453). -/

namespace Sys2Proof.Machine

/-! ### Tables as bytes -/

/-- The indices of the tables whose Default the manual itself gives, and of the three partition tables. -/
def builtinIndices : List Nat := [0x2110, 0x2120, 0x2130, 0x5030, 0x5053, 0x5070, 0x5080, 0x5081, 0x5082, 0x5083]

/-- A TABLE object is present: the image or the manual gives it. -/
def hasTable (s : State) (index : Nat) : Bool :=
  (MapOps.get? index s.od.tables).isSome || builtinIndices.contains index

/-- The indices of the tables present, ascending. -/
def tableIndices (s : State) : List Nat :=
  (s.od.tables.map (·.1)).foldl (fun l i => setInsert i l) builtinIndices

/-- Bits [223:0] of a table's header (Table 15-10). -/
def tableHeader (t : TableObj) : Nat :=
  0x54424C31 + put t.kind 8 32 + put t.access 8 40 + put t.rowBytes 16 48 + put t.rows 32 64 + put t.ownerBit 16 96
    + put t.version 32 128

/-- A table's size in bytes. -/
def tableSize (t : TableObj) : Nat := 32 + t.rows * t.rowBytes

/-- The owner field of a row. -/
def ownerField (t : TableObj) (r : Nat) : Nat := field r (t.ownerBit + 5) t.ownerBit

/-- The bytes of a table as a role reads it: for a partition, rows of others read as zeros (Table 13-12). The CRC is the one that
the device keeps over the true rows. -/
def tableBytes (t : TableObj) (part : Option Nat) : List Byte :=
  let head := toBytes 28 (tableHeader t)
  let rows := (List.range t.rows).flatMap fun n => toBytes t.rowBytes (t.row n)
  let shown := (List.range t.rows).flatMap fun n =>
    let r := t.row n
    toBytes t.rowBytes (match part with | some p => if ownerField t r == p then r else 0 | none => r)
  head ++ toBytes 4 (crc32c (head ++ rows)) ++ shown

/-- A table read from its bytes; VERSION begins at 0. None where the header is not one of Table 15-10. -/
def parseTable (bs : List Byte) : Option TableObj :=
  let h := ofBytes (bs.take 28)
  let t : TableObj :=
    { kind := field h 39 32, access := field h 47 40, rowBytes := field h 63 48, rows := field h 95 64, ownerBit := field h 111 96 }
  if field h 31 0 == 0x54424C31 && t.kind ≤ 2 && 1 ≤ t.access && t.access ≤ 3 && 8 ≤ t.rowBytes && t.rowBytes ≤ 4096
      && 1 ≤ t.rows && t.rows ≤ 65536 && field h 127 112 == 0 && field h 223 160 == 0 && bs.length == tableSize t then
    some { t with
      data := (List.range t.rows).foldl (fun m n =>
        MapOps.put n 0 (ofBytes (slice bs (32 + n * t.rowBytes) t.rowBytes 0)) m) [] }
  else none

/-! ### The rules of each KIND (R539) -/

/-- A table's rows in order. -/
def TableObj.all (t : TableObj) : List Nat := (List.range t.rows).map t.row

/-- The points of a CURVE: the rows before the unused ones, which are zero. -/
def curvePoints (t : TableObj) : List (Int × Int) :=
  (t.all.reverse.dropWhile (· == 0)).reverse.map fun r => (toInt 32 (field r 31 0), toInt 32 (field r 63 32))

/-- X rises strictly. -/
def rising : List (Int × Int) → Bool
  | a :: b :: l => decide (a.1 < b.1) && rising (b :: l)
  | _ => true

/-- The value of a curve at x (R539). -/
def curveAt : List (Int × Int) → Int → Int
  | [], _ => 0
  | [a], _ => a.2
  | a :: b :: l, x =>
    if x ≤ a.1 then a.2
    else if x ≤ b.1 then Int.tdiv (a.2 * (b.1 - a.1) + (x - a.1) * (b.2 - a.2)) (b.1 - a.1)
    else curveAt (b :: l) x

/-- What a MACHINE does on an event in a state: the next state, and the action if a row gives one (R539). -/
def machineStep (t : TableObj) (state event : Nat) : Nat × Option Nat :=
  match t.all.find? fun r => field r 7 0 == state && field r 15 8 == event with
  | some r => (field r 23 16, some (field r 47 32))
  | none => (state, none)

/-- A table holds to its KIND's rules. -/
def kindOk (t : TableObj) : Bool :=
  if t.kind == 1 then
    let p := curvePoints t
    t.rowBytes == 8 && 2 ≤ p.length && p.length ≤ 64 && rising p
  else if t.kind == 2 then
    t.rowBytes == 8 && t.all.all (fun r => field r 31 24 == 0 && field r 63 48 == 0)
      && (t.all.map (· % 65536)).Nodup
  else t.kind == 0

/-! ### The checks of the owning chapters -/

/-- A class row (R107, Table 3-5). -/
def classRowOk (r : Nat) : Bool :=
  let l := ([0, 32, 64, 96].map fun o => field r (o + 31) o).filter (· != 0)
  field r 255 134 == 0 && field r 132 131 != 3 && (l.zip (l.drop 1)).all fun q => decide (q.1 ≤ q.2)

/-- The shape of a class table: R101 asks for this ACCESS and OWNER_BIT. -/
def classShape (t : TableObj) : Bool := t.kind == 0 && t.rowBytes == 32 && t.access == 3 && t.ownerBit == 65535

/-- The shape of a binding table (R101). -/
def bindingShape (t : TableObj) : Bool := t.kind == 0 && t.rowBytes == 32 && t.access == 3 && t.ownerBit == 1

/-- A binding row's reserved fields are clear (Table 3-3). -/
def bindingRowOk (r : Nat) : Bool := field r 7 7 == 0 && field r 255 128 == 0 && (! bitAt r 0 || field r 15 8 != 0)

/-- The shape of a codec policy table (R160). -/
def codecShape (t : TableObj) : Bool :=
  t.kind == 0 && t.rowBytes == 16 && t.access == 3 && t.ownerBit == 1 && t.rows ≤ 1024

/-- A codec policy row (R160, Table 4-8). -/
def codecRowOk (r : Nat) : Bool :=
  field r 31 17 == 0 && field r 63 63 == 0 && field r 127 95 == 0 && (! bitAt r 0 || field r 62 32 ≤ field r 94 64)

/-- A format-table row for a code (R196); its reserved fields are clear whether or not it is VALID (R2). -/
def formatRowOk (code r : Nat) : Bool :=
  if field r 31 30 != 0 || field r 127 35 != 0 then false
  else if ! bitAt r 0 then true
  else match elemOf code with
    | none => false
    | some e =>
      let mx := bitAt r 27 == isMx code && 2 ^ field r 7 3 == e.bits
      match e with
      | .float f =>
        mx && field r 2 1 == 0 && field r 11 8 == f.e && field r 16 12 == f.m && field r 24 17 == f.bias && field r 26 25 == f.specials
      | .int _ _ => mx && field r 2 1 == 1 && field r 26 8 == 0
      | .table _ set => mx && field r 2 1 == 2 && field r 26 8 == 0 && field r 34 32 == set

/-- Every code point of a set is finite (R196). -/
def pointsOk (row n : Nat) : Bool := (List.range n).all fun c => field row (16 * c + 14) (16 * c + 7) != 255

/-- The format table and its code-point sets (R195, R196). -/
def formatsOk (index : Nat) (t : TableObj) : Bool :=
  if index == 0x5050 then
    t.kind == 0 && t.access == 1 && t.rows == 256 && t.rowBytes == 16 && (List.range 256).all fun c => formatRowOk c (t.row c)
  else if index == 0x5051 then t.kind == 0 && t.access == 1 && t.rows == 8 && t.rowBytes == 32 && t.all.all (pointsOk · 16)
  else if index == 0x5052 then t.kind == 0 && t.access == 1 && t.rows == 4 && t.rowBytes == 512 && t.all.all (pointsOk · 256)
  else true

/-- A frame-share table (R219). -/
def frameShareOk (t : TableObj) : Bool :=
  let cds := fun (r : Nat) => ((List.range 4).filter fun i => bitAt r (12 + i)).length
  t.kind == 0 && t.access == 3 && t.rows == 64 && t.rowBytes == 8
    && t.all.all (fun r => field r 63 32 == 0 && field r 11 6 ≤ 36 && field r 5 0 ≤ field r 11 6 && field r 5 0 ≤ 9 * cds r)
    && (t.all.map fun r => field r 5 0).foldl (· + ·) 0 ≤ 36
    && (placeReserved t.row).length == (t.all.map fun r => field r 5 0).foldl (· + ·) 0

/-- What of R435 a budget table shows by itself. -/
def budgetForm (t : TableObj) : Bool :=
  t.kind == 0 && t.access == 3 && t.rows == 130 && t.rowBytes == 16 && t.ownerBit == 0xFFFF
    && t.all.all fun r => field r 31 13 == 0 && (List.range 3).all fun i => ! rowGuaranteed r i || rowBudget r i != 0

/-- A derating curve (R559). -/
def derateOk (t : TableObj) : Bool :=
  t.kind == 1 && t.access == 3 && (curvePoints t).all fun p => decide (100 ≤ p.2) && decide (p.2 ≤ 1000)

/-- The power policy (R560, Table 16-5). -/
def powerOk (t : TableObj) : Bool :=
  let r := t.row 0
  let inside := fun (v lo hi : Nat) => decide (lo ≤ v) && decide (v ≤ hi)
  t.kind == 0 && t.access == 3 && t.rows == 1 && t.rowBytes == 16 && field r 127 52 == 0 && inside (field r 15 0) 600 1700
    && inside (field r 31 16) 1 1000 && inside (field r 41 32) 1 1000 && inside (field r 51 42) 100 1000

/-- The reserved fields of the partition tables are clear (R2; Tables 8-2 to 8-4). -/
def partRowOk (index r : Nat) : Bool :=
  if index == 0x2110 then field r 7 7 == 0 && field r 63 28 == 0
  else if index == 0x2120 then field r 31 31 == 0 && field r 63 63 == 0 && field r 95 92 == 0 && field r 127 124 == 0
  else field r 7 7 == 0 && field r 127 96 == 0 && field r 255 192 == 0

/-- A binding row that a VALID session record or prefix names keeps its value (R101). -/
def bindingsKept (s : State) (t : TableObj) : Bool :=
  let old := tableOf s (scalar s 0x2400 3 0x5031)
  let named := s.sess.recs.map (·.2.binding)
  named.all fun b => t.row b == old.row b

/-- The check of the owning chapter on a table that an index holds, apart from the three partition tables and from what R441
asks of the figures in force. -/
def chapterOk (s : State) (index : Nat) (t : TableObj) : Bool :=
  (index != scalar s 0x2400 2 0x5030 || (classShape t && t.all.all classRowOk))
    && (index != scalar s 0x2400 3 0x5031 || (bindingShape t && t.all.all bindingRowOk))
    && (index != scalar s 0x2300 1 0x5040 || (codecShape t && t.all.all codecRowOk))
    && formatsOk index t
    && (index != 0x5053 || frameShareOk t)
    && (index != 0x5070 || budgetForm t)
    && (! (0x5080 ≤ index && index ≤ 0x5082) || derateOk t)
    && (index != 0x5083 || powerOk t)

/-- A commit of rows to a table passes every check: its KIND's, its chapter's, and those that look at the state (R533). -/
def commitOk (s : State) (index : Nat) (t : TableObj) : Bool :=
  kindOk t && chapterOk s index t && (index != 0x5070 || budgetOk s t)
    && (index != scalar s 0x2400 3 0x5031 || bindingsKept s t)

/-- R538: every row that a partition's commit changes is its own or not VALID, before and after. -/
def ownRows (p : Nat) (old new : TableObj) : Bool :=
  let mine := fun (r : Nat) => ownerField old r == p || ! bitAt r 0
  (dedup ((old.data ++ new.data).map (·.1))).all fun n => old.row n == new.row n || (mine (old.row n) && mine (new.row n))

/-- Which tables an object that holds a table index may name (R540, R101, R160); the ageing and flash policies may be any. Another binding
table may be named while sessions name rows of the old one. (DESIGN CHOICE, log entry 103.) -/
def namesTable (s : State) (index sub v : Nat) : Bool :=
  hasTable s v && 0x5000 ≤ v && v ≤ 0x5FFF
    && (if index == 0x2400 && sub == 2 then classShape (tableOf s v) && (tableOf s v).rows == 16 && (tableOf s v).all.all classRowOk
        else if index == 0x2400 && sub == 3 then bindingShape (tableOf s v) && (tableOf s v).all.all bindingRowOk
        else if index == 0x2300 then codecShape (tableOf s v) && (tableOf s v).all.all codecRowOk
        else true)

/-! ### The fuses (R447) -/

/-- The bits of a factory field that read otherwise than written: in two or three of their copies. -/
def fuseFlips (s : State) (f : FactoryFuse) : Nat :=
  s.start.upsets.foldl (fun a u => if u.field == f && [3, 5, 6, 7].contains u.wrong then a ^^^ 2 ^ u.bit else a) 0

/-- DEVICE_ID as it reads. -/
def deviceId (s : State) : Nat := Config.deviceId % 2 ^ 128 ^^^ fuseFlips s .deviceId

/-- SILICON_REV as it reads. -/
def siliconRev (s : State) : Nat := Config.siliconRev % 2 ^ 16 ^^^ fuseFlips s .siliconRev

/-- DEVICE_HSS_PUB as it reads. -/
def deviceKey (s : State) : List Byte := toBytes 60 (ofBytes (slice Config.deviceHssPub 0 60 0) ^^^ fuseFlips s .deviceHssPub)

/-- AUTHORITY_HSS_PUB as it reads. -/
def authorityKey (s : State) : List Byte :=
  toBytes 60 (ofBytes (slice Config.authorityHssPub 0 60 0) ^^^ fuseFlips s .authorityHssPub)

/-- The count of a thermometer field of which any copy counts. -/
def thermometer {n : Nat} (copies : List (BitVec n)) : Nat :=
  let x := copies.foldl (fun a b => a ||| b.toNat) 0
  if x == 0 then 0 else Nat.log2 x + 1

/-- SVN_FLOOR. -/
def svnFloor (s : State) : Nat := thermometer s.fuses.svn

/-- TREE_FUSES: the lower trees opened. -/
def treesOpened (s : State) : Nat := thermometer s.fuses.trees

/-- DEBUG_CLOSE reads burned. -/
def debugBurned (s : State) : Bool := s.fuses.debugClose.any id

/-- Burns bits below n in every copy of a field, of which `ok` says whether all copies took; a burn that fails leaves burned an
open subset of the bits asked for. -/
def burnBelow {w : Nat} (copies : List (BitVec w)) (ok : Bool) (free : Nat → Nat) (lo n : Nat) : List (BitVec w) :=
  let want := BitVec.ofNat w (2 ^ n - 2 ^ min lo n)
  if ok then copies.map (· ||| want)
  else (copies.zip (List.range copies.length)).map fun q => q.1 ||| (want &&& BitVec.ofNat w (free q.2))

/-! ### The Device Configuration Image (R451, R452) -/

/-- A slot's bytes. -/
def slotBytes (s : State) (slot : Nat) : List Byte := if slot == 0 then s.flash.slot0 else s.flash.slot1

/-- The directory of an image: index, offset and length of each table. -/
def imageEntries (img : List Byte) : List (Nat × Nat × Nat) :=
  (List.range (ofBytes (slice img 6 2 0))).map fun i =>
    let e := ofBytes (slice img (128 + 16 * i) 16 0)
    (field e 15 0, field e 63 32, field e 95 64)

/-- Check 1 of R452. -/
def imageFormOk (img : List Byte) : Bool :=
  let h := ofBytes (img.take 128)
  let sig := field h 159 128
  img.length ≥ 128 && field h 31 0 == 0x44434931 && field h 47 32 == 1 && 1 ≤ field h 63 48 && field h 63 48 ≤ 4096
    && field h 95 64 ≤ 64 && sig < field h 127 96 && field h 127 96 ≤ 16777216 && field h 127 96 ≤ img.length && 128 + 16 * field h 63 48 ≤ sig
    && (imageEntries img).all fun e => e.2.1 + e.2.2 ≤ sig

/-- The tables of an image; none where one is not a table (R537). -/
def imageTables (img : List Byte) : Option (Map TableObj) :=
  (imageEntries img).foldl (fun m e =>
    match m, parseTable (slice img e.2.1 e.2.2 0) with
    | some m', some t => if 0x5000 ≤ e.1 && e.1 ≤ 0x5FFF then some (MapOps.insert e.1 t m') else none
    | _, _ => none) (some [])

/-- The image digest (R451). -/
def imageDigest (img : List Byte) : List Byte := sha256 (img.take (ofBytes (slice img 16 4 0)))

/-- What the verifier finds of an image (R452): 0 where it passes, else the Safelight reason of the failure: 2 MISSING, 3 SIGNATURE,
4 ROLLBACK. -/
def verifyImage (s : State) (img : List Byte) : Nat :=
  let h := ofBytes (img.take 128)
  let sig := field h 159 128
  let signature := slice img sig (field h 127 96 - sig) 0
  let clean := s.setOd { s.od with vals := [] }
  if ! imageFormOk img then 2
  else if ! Config.hssVerify (authorityKey s) (imageDigest img) signature then 3
  else if field h 319 192 != 0 && field h 319 192 != deviceId s then 3
  else if field h 95 64 < svnFloor s then 4
  else match imageTables img with
    | none => 3
    | some ts => if ts.all fun q => kindOk q.2 && chapterOk clean q.1 q.2 then 0 else 3

end Sys2Proof.Machine
end

