-- ==== Sys2Proof/Machine/SecOps.lean ====
section
/-! DEFINITION. The signature counter, SPDM, link keys, job keys and debug (chapter 13). The codes of SPDM and IDE_KM
messages are those of DSP0274 1.3 and the IDE_KM protocol (PRESUMED, log entry 40). -/

namespace Sys2Proof.Machine

open Sys2Proof

/-! ### The lifetime signature counter (R456 to R462) -/

/-- Leaves of a lower tree. -/
def leaves : Nat := 1048576

/-- TreesOpened: the count of the fuses, and the trees abandoned since that left no copy burned (R460). -/
def treesGone (s : State) : Nat := if s.sec.exhausted then 1024 else max (treesOpened s) (s.sec.opening.getD 0)

/-- SignaturesLeft. -/
def signaturesLeft (s : State) : Nat :=
  if s.sec.exhausted then 0
  else (1024 - treesGone s) * leaves + (if s.sec.tree.isSome then leaves - s.sec.q else 0)

/-- No signature remains (R462): the event is raised once in a start. (DESIGN CHOICE, log entry 125.) -/
def exhaust (s : State) : State :=
  if s.sec.exhausted then s
  else raise 0x0D07 none 0 (s.setSec { s.sec with exhausted := true, tree := none, opening := none, reserving := false })

/-- SIGNATURES_LOW is raised once in a start (R462). (DESIGN CHOICE, log entry 125.) -/
def lowCheck (s : State) : State :=
  if signaturesLeft s < 16777216 && ! s.sec.lowRaised then
    raise 0x0D06 none 0 (s.setSec { s.sec with lowRaised := true })
  else s

/-- Tree t begins to open (R460). -/
def openTree (t : Nat) (s : State) : State :=
  if 1024 ≤ t then exhaust s
  else s.setSec { s.sec with tree := none, opening := some t, q := 0, reservedTo := 0, reserving := false }

/-- The 32 bytes of a counter record (R458). -/
def counterBytes (r : CounterRec) : List Byte :=
  let b := toBytes 28 (0x4C4D5331 + put r.tree 10 32 + put r.reservedTo 21 48 + put r.seq 32 96)
  b ++ toBytes 4 (crc32c b)

/-- What 32 bytes of the counter region hold: a record with its MAGIC, whose CRC passes (R458). -/
def counterIn (bytes : List Byte) : Option CounterRec :=
  let v := ofBytes bytes
  if field v 31 0 == 0x4C4D5331 && field v 255 224 == crc32c (bytes.take 28) then
    some { tree := field v 41 32, reservedTo := field v 68 48, seq := field v 127 96 }
  else none

/-- The valid counter record: of those whose CRC passes the one with the highest SEQ (R458). -/
def counterNow (s : State) : Option CounterRec :=
  (s.flash.counters.filterMap counterIn).foldl (fun a r => match a with
    | some q => if q.seq < r.seq then some r else a
    | none => some r) none

/-- A counter record is appended to the region's other half, whose older record it replaces (R458). -/
def putCounter (tree reservedTo : Nat) (s : State) : State :=
  let seq := ((counterNow s).map (·.seq)).getD 0
  let l := s.flash.counters.drop (s.flash.counters.length - 1)
  s.setFlash { s.flash with counters := l ++ [counterBytes { tree := tree, reservedTo := reservedTo, seq := seq + 1 }] }

/-- The signature counter at a start (R458). No tree is abandoned where none was ever opened. -/
def startCounter (s : State) : State :=
  let opened := treesOpened s
  lowCheck (match counterNow s with
  | some r =>
    if r.tree + 1 == opened && r.reservedTo < leaves then
      s.setSec { s.sec with tree := some r.tree, q := r.reservedTo, reservedTo := r.reservedTo }
    else if opened == 0 || r.tree + 1 == opened then openTree opened s
    else openTree opened (raise 0x0D04 none (opened - 1) s)
  | none => if opened == 0 then openTree 0 s else openTree opened (raise 0x0D04 none (opened - 1) s))

/-! ### SPDM responses -/

/-- A place at which SPDM messages arrive, as a number in outputs. -/
def placeCode : SpdmAt → Nat
  | .doe f => fnCode f
  | .i3c => 128

/-- A place at which the device answers SPDM is there (R463, R509, Table 14-10). -/
def spdmServed (s : State) (a : SpdmAt) : Bool :=
  match a with
  | .i3c => s.start.stage == .lit || s.start.stage == .safelight
  | .doe f => served s && presented s f && match f with
    | .pf0 _ => true
    | .ld p n => ! (ldOf s (16 * p.val + n.val)).flr

/-- A DOE mailbox holds an object in progress: its response waits for a signature (R336). (DESIGN CHOICE, log entry 62.) -/
def doeBusy (s : State) (a : SpdmAt) : Bool :=
  match a with
  | .i3c => false
  | .doe _ => s.sec.waits.any fun w => w.at_ == a

/-- The device takes an SPDM message at a place: one object at a time of a DOE mailbox (R336). -/
def spdmOpen (s : State) (a : SpdmAt) : Bool := spdmServed s a && ! doeBusy s a

/-- The most bytes of an SPDM message that a place carries: a DOE object holds 16 KiB, with 8 B of its header (R336). (PRESUMED, log
entry 40.) -/
def messageRoom : SpdmAt → Nat
  | .i3c => 65536 * 65536
  | .doe _ => 16384 - 8

/-- The responder of a place. -/
def responderOf (s : State) (a : SpdmAt) : Responder := MapOps.getD (placeCode a) {} s.sec.responders

/-- Changes the responder of a place. -/
def modResponder (a : SpdmAt) (f : Responder → Responder) (s : State) : State :=
  s.setSec { s.sec with responders := MapOps.insert (placeCode a) (f (responderOf s a)) s.sec.responders }

/-- An SPDM response goes out. (PRESUMED, log entry 40.) -/
def spdmSay (a : SpdmAt) (code err session : Nat) (payload : List Byte) (s : State) : State :=
  emit .spdm [placeCode a, code, err, session] payload s

/-- An SPDM ERROR goes out. (PRESUMED, log entry 40.) -/
def spdmError (a : SpdmAt) (err session : Nat) (s : State) : State := spdmSay a 0x7F err session [] s

/-- A response that enters the transcript. (DEDUCED, log entry 70.) -/
def spdmTold (a : SpdmAt) (code : Nat) (asked payload : List Byte) (s : State) : State :=
  spdmSay a code 0 0 payload
    (modResponder a (fun r => { r with transcript := r.transcript ++ asked ++ [BitVec.ofNat 8 code] ++ payload }) s)

/-- GET_VERSION (R463): the exchange at the place begins again. -/
def spdmVersion (a : SpdmAt) (s : State) : State :=
  if ! spdmOpen s a then s
  else spdmTold a 0x04 [0x84] (toBytes 2 0x1300) (modResponder a (fun _ => { version := true }) s)

/-- The CAPABILITIES flags of Table 13-5: CERT, CHAL, MEAS with signature, MEAS_FRESH, ENCRYPT, MAC, KEY_EX, HBEAT and KEY_UPD. (PRESUMED,
log entry 40.) -/
def spdmFlags : Nat := 0x02 + 0x04 + 0x10 + 0x20 + 0x40 + 0x80 + 0x200 + 0x2000 + 0x4000

/-- An extended algorithm of RegistryID 3 (R464). (PRESUMED, log entry 40.) -/
def extAlgorithm (id : Nat) : List Byte := toBytes 2 3 ++ toBytes 2 id

/-- The algorithms of R464 that an ALGORITHMS response selects: SHA-256 as hash and measurement hash, AES-256-GCM, the SPDM key
schedule, and the extended ones. (PRESUMED, log entry 40.) -/
def algorithmsFor (hss mlkem : Bool) : List Byte :=
  toBytes 4 1 ++ toBytes 4 2 ++ toBytes 2 2 ++ toBytes 2 1
    ++ (if hss then extAlgorithm 0x9041 else []) ++ (if mlkem then extAlgorithm 0x9042 else [])

/-- GET_CAPABILITIES (R463). -/
def spdmCapabilities (a : SpdmAt) (s : State) : State :=
  if ! spdmOpen s a then s
  else if ! (responderOf s a).version then spdmError a 0x04 0 s
  else spdmTold a 0x61 [0xE1] (toBytes 4 spdmFlags ++ Config.standardAnswer 1) (modResponder a (fun r => { r with capabilities := true }) s)

/-- NEGOTIATE_ALGORITHMS (R464): of the two extended algorithms those that the requester offers are selected. -/
def spdmAlgorithms (a : SpdmAt) (hss mlkem : Bool) (s : State) : State :=
  if ! spdmOpen s a then s
  else if ! (responderOf s a).capabilities then spdmError a 0x04 0 s
  else
    let chosen := algorithmsFor hss mlkem
    spdmTold a 0x63 ([0xE3] ++ chosen) chosen
      (modResponder a (fun r => { r with algorithms := true, hss := hss, mlkem := mlkem }) s)

/-- Slot 0 holds a chain whose leaf key is the device's (R466). -/
def chainOk (s : State) : Bool :=
  ! s.flash.chain.isEmpty && Config.chainLeafKey s.flash.chain == some (deviceKey s)

/-- GET_DIGESTS (R466): the slot mask, and the digest of slot 0 where it is not empty. -/
def spdmDigests (a : SpdmAt) (s : State) : State :=
  if ! spdmOpen s a then s
  else if ! (responderOf s a).algorithms then spdmError a 0x04 0 s
  else spdmTold a 0x01 [0x81] (if chainOk s then [1] ++ sha256 s.flash.chain else [0]) s

/-- GET_CERTIFICATE (R466): slot, lengths of the portion and of what remains, and the portion. -/
def spdmCertificate (a : SpdmAt) (slot offset length : Nat) (s : State) : State :=
  if ! spdmOpen s a then s
  else if ! (responderOf s a).algorithms then spdmError a 0x04 0 s
  else if slot != 0 || ! chainOk s || s.flash.chain.length ≤ offset then spdmError a 0x01 0 s
  else
    let part := (s.flash.chain.drop offset).take (min length (messageRoom a - 8))
    let left := s.flash.chain.length - offset - part.length
    spdmTold a 0x02 ([0x82] ++ toBytes 2 offset ++ toBytes 2 length) ([0] ++ toBytes 2 part.length ++ toBytes 2 left ++ part) s

/-! ### Measurements (R468, R469) -/

/-- The partition whose entries the manifest lists where a request arrives at a place; none lists all. -/
def manifestPart (s : State) (a : SpdmAt) : Option (Option Nat) :=
  match a with
  | .doe (.ld p n) => some (ldPart s p.val n.val)
  | _ => none

/-- One entry of the registry manifest. -/
def manifestEntry (e : RegEntry) : List Byte :=
  toBytes 1 e.kind ++ toBytes 1 e.part ++ toBytes 2 e.number ++ toBytes 1 e.state ++ zeros 3 ++ slice e.digest 0 32 0

/-- The entries that the manifest lists at a place, in order. -/
def manifest (s : State) (a : SpdmAt) : List (List Byte) :=
  (s.cmp.registry.filter fun q => match manifestPart s a with
    | none => true
    | some p => p == some q.2.part).map fun q => manifestEntry q.2

/-- A measurement block: index, DMTF, sizes, value type (bit 7 for a raw form) and value. -/
def measurement (index type : Nat) (value : List Byte) : Nat × List Byte :=
  (index, toBytes 1 index ++ [1] ++ toBytes 2 (value.length + 3) ++ toBytes 1 type ++ toBytes 2 value.length ++ value)

/-- Byte 0 of measurement 0x05. -/
def debugBits (s : State) : Nat :=
  ofBool (debugBurned s) + 2 * ofBool s.sec.wasUnlocked + 4 * ofBool (s.start.stage == .safelight)

/-- The measurement blocks of Table 13-6 at a place. -/
def measurements (s : State) (a : SpdmAt) : List (Nat × List Byte) :=
  let m := manifest s a
  let page := fun k : Nat => (m.drop (1024 * k)).take 1024
  [ measurement 0x01 0x82 (toBytes 16 (deviceId s) ++ toBytes 2 (siliconRev s) ++ zeros 14)
  , measurement 0x02 0x01 (slice s.sec.digest 0 32 0)
  , measurement 0x03 0x86 (slice s.sec.version 0 32 0)
  , measurement 0x04 0x87 (toBytes 4 s.sec.svn ++ toBytes 4 (svnFloor s))
  , measurement 0x05 0x89 (toBytes 1 (debugBits s) ++ toBytes 1 s.start.reason ++ zeros 6)
  , measurement 0x06 0x89 (toBytes 2 (s.sec.tree.getD 0) ++ toBytes 4 s.sec.q ++ toBytes 8 (signaturesLeft s) ++ zeros 2)
  , measurement 0x10 0x04 (sha256 m.flatten) ]
  ++ (List.range 5).filterMap fun k => if (page k).isEmpty then none else some (measurement (0x11 + k) 0x84 (page k).flatten)

/-- The record of a MEASUREMENTS response for an operation: 0 the count, 0xFF all, else one index; none where there is no such block. -/
def measurementRecord (s : State) (a : SpdmAt) (operation : Nat) : Option (List Byte) :=
  let ms := measurements s a
  let form := fun (n : Nat) (bs : List Byte) => toBytes 1 n ++ toBytes 3 bs.length ++ bs
  if operation == 0 then some (toBytes 1 ms.length ++ toBytes 1 0 ++ toBytes 3 0)
  else if operation == 0xFF then some ([0] ++ form ms.length (ms.flatMap (·.2)))
  else (ms.find? (·.1 == operation)).map fun q => [0] ++ form 1 q.2

/-! ### The signer (R459, R461) -/

/-- A session number that no session has: the requester's half, and a free value for the device's. -/
def newSession (s : State) (half : Nat) : Nat :=
  let taken := (s.sec.sessions.filter fun q => q.1 % 65536 == half % 65536).map (·.1 / 65536)
  half % 65536 + 65536 * nthFree taken (freeValue s % (65536 - taken.length))

/-- A signed response goes out: CHALLENGE_AUTH, MEASUREMENTS or KEY_EXCHANGE_RSP, whose session begins (R465). One that its place can't
carry gets ResponseTooLarge (R336; PRESUMED, log entry 40). -/
def sayS (w : SignWait) (signature : List Byte) (s : State) : State :=
  if messageRoom w.at_ < 4 + w.message.length + signature.length then spdmError w.at_ 0x0D 0 s
  else match w.exchange with
  | none => spdmSay w.at_ w.kind 0 0 (w.message ++ signature) s
  | some (half, secret) =>
    let id := newSession s half
    let x : SecSession := { at_ := w.at_, secret := secret, keyGen := 0, seq := 0, established := false }
    let s1 := (used s).setSec { s.sec with sessions := MapOps.insert id x s.sec.sessions }
    spdmSay w.at_ w.kind 0 id (w.message ++ signature) s1

/-- The signer takes the next index for a response (R458): a signature has 5,396 bytes (Table 13-4). -/
def signNow (w : SignWait) (s : State) : State :=
  let q := s.sec.q
  let tree := s.sec.tree.getD 0
  let digest := sha256 ((responderOf s w.at_).transcript ++ w.message)
  let signature := slice (Config.hssSign tree q digest) 0 5396 0
  let s1 := count 0x30D0 1 (s.setSec { s.sec with q := q + 1, allowance := s.sec.allowance - 1 })
  let s2 := lowCheck (sayS w signature s1)
  if q + 1 == leaves then openTree (tree + 1) s2 else s2

/-- What the signer can do for the requests that wait, oldest first. -/
def pumpSign : Nat → State → State
  | 0, s => s
  | n + 1, s =>
    match s.sec.waits with
    | [] => s
    | w :: rest =>
      let s1 := s.setSec { s.sec with waits := rest }
      if s.sec.exhausted then pumpSign n (spdmError w.at_ 0x05 0 s1)
      else if s.sec.tree.isNone || s.sec.allowance == 0 || s.sec.reserving then s
      else if s.sec.reservedTo ≤ s.sec.q then s.setSec { s.sec with reserving := true }
      else pumpSign n (signNow w s1)

/-- The signer looks at everything that waits. -/
def signAll (s : State) : State := pumpSign (s.sec.waits.length + 1) s

/-- A request for a signature (R461, R462): one that finds none available, or a tree being opened, gets ResponseNotReady and
is served later. -/
def askSign (w : SignWait) (s : State) : State :=
  if s.sec.exhausted then spdmError w.at_ 0x05 0 s
  else
    let late := s.sec.tree.isNone || decide (s.sec.allowance ≤ s.sec.waits.length)
    let s1 := if late then spdmError w.at_ 0x42 0 (count 0x30D0 2 s) else s
    signAll (s1.setSec { s1.sec with waits := s1.sec.waits ++ [w] })

/-- A reservation record is durable (R459). -/
def counterDurable (s : State) : State :=
  if ! s.sec.reserving then s
  else
    let upto := min (s.sec.q + 256) leaves
    signAll (putCounter (s.sec.tree.getD 0) upto (s.setSec { s.sec with reserving := false, reservedTo := upto }))

/-- The burn of a tree's fuse has been read back, and on success its record, root and top-tree signature are done (R460). A
burn that fails leaves an open subset of the copies burned. -/
def treeDone (burned : Bool) (s : State) : State :=
  match s.sec.opening with
  | none => s
  | some t =>
    let s1 := s.setFuses { s.fuses with trees := burnBelow s.fuses.trees burned (fun i => Config.freeAt s.fresh i) t (t + 1) }
    if burned then
      lowCheck (signAll (raise 0x0D03 none t (putCounter t 0
        (s1.setSec { s1.sec with tree := some t, opening := none, q := 0, reservedTo := 0 }))))
    else lowCheck (signAll (openTree (t + 1) (raise 0x0D05 none 0 (used s1))))

/-- The allowance refills by one signature (R461). -/
def signRefill (s : State) : State :=
  signAll (s.setSec { s.sec with allowance := min 64 (s.sec.allowance + 1) })

/-- CHALLENGE (R461, R466). -/
def spdmChallenge (a : SpdmAt) (slot : Nat) (nonce : List Byte) (s : State) : State :=
  if ! spdmOpen s a then s
  else if ! (responderOf s a).hss then spdmError a 0x04 0 s
  else if slot != 0 then spdmError a 0x01 0 s
  else
    let message := [0] ++ nonce ++ (if chainOk s then sha256 s.flash.chain else zeros 32)
    askSign { at_ := a, kind := 0x03, message := message, exchange := none } s

/-- GET_MEASUREMENTS (R468). A record that a DOE object can't hold gets ResponseTooLarge (R336; PRESUMED, log entry 40). -/
def spdmMeasurements (a : SpdmAt) (operation : Nat) (sign : Bool) (nonce : List Byte) (s : State) : State :=
  if ! spdmOpen s a then s
  else if ! (responderOf s a).algorithms || (sign && ! (responderOf s a).hss) then spdmError a 0x04 0 s
  else match measurementRecord s a operation with
    | none => spdmError a 0x01 0 s
    | some bs =>
      if messageRoom a < 4 + bs.length + (if sign then nonce.length else 0) then spdmError a 0x0D 0 s
      else if sign then askSign { at_ := a, kind := 0x60, message := bs ++ nonce, exchange := none } s
      else spdmSay a 0x60 0 0 bs s

/-- Secured sessions of a place, with those that wait for their response. -/
def sessionsAt (s : State) (a : SpdmAt) : Nat :=
  (s.sec.sessions.filter fun q => q.2.at_ == a).length + (s.sec.waits.filter fun w => w.at_ == a && w.exchange.isSome).length

/-- Secured sessions of the device, with those that wait for their response. -/
def sessionsAll (s : State) : Nat := s.sec.sessions.length + (s.sec.waits.filter (·.exchange.isSome)).length

/-- An LD of the place is bound, or the place is not an LD (R467). (DEDUCED, log entry 70.) -/
def placeBound (s : State) (a : SpdmAt) : Bool :=
  match a with
  | .doe (.ld p n) => (ldPart s p.val n.val).isSome
  | _ => true

/-- KEY_EXCHANGE (R465, R467, Table 13-7). -/
def spdmExchange (a : SpdmAt) (half : Nat) (key : List Byte) (s : State) : State :=
  if ! spdmOpen s a then s
  else if ! (responderOf s a).hss || ! (responderOf s a).mlkem || ! placeBound s a then spdmError a 0x04 0 s
  else if 2 ≤ sessionsAt s a || 64 ≤ sessionsAll s then spdmError a 0x0A 0 s
  else if key.length != 1568 || ! Config.mlkemKeyOk key then spdmError a 0x01 0 s
  else
    let text := Config.mlkemCiphertext key s.sec.draws
    let th := sha256 ((responderOf s a).transcript ++ toBytes 2 half ++ key ++ text)
    let secret := Config.mlkemSecret key s.sec.draws ++ th
    askSign { at_ := a, kind := 0x64, message := text, exchange := some (half, secret) }
      (s.setSec { s.sec with draws := s.sec.draws + 1 })

/-! ### Secured sessions -/

/-- A secured session. -/
def secSession (s : State) (id : Nat) : Option SecSession := MapOps.get? id s.sec.sessions

/-- Ends a secured session, with its keys. -/
def dropSession (id : Nat) (s : State) : State := s.setSec { s.sec with sessions := MapOps.erase id s.sec.sessions }

/-- A secured message of a session that does not exist, or has not completed its FINISH, fails authentication.
(DEDUCED, log entry 70.) -/
def withSession (id : Nat) (f : SecSession → State → State) (s : State) : State :=
  match secSession s id with
  | some x => if ! spdmOpen s x.at_ then s else if x.established then f x s else count 0x30D0 4 s
  | none => count 0x30D0 4 s

/-- FINISH (R463). (PRESUMED, log entry 40.) -/
def spdmFinish (id : Nat) (verify : List Byte) (s : State) : State :=
  match secSession s id with
  | none => count 0x30D0 4 s
  | some x =>
    if ! spdmOpen s x.at_ then s
    else if x.established then spdmError x.at_ 0x04 id s
    else if Config.finishOk x.secret verify then
      spdmSay x.at_ 0x65 0 id [] (count 0x30D0 3
        (s.setSec { s.sec with sessions := MapOps.insert id { x with established := true } s.sec.sessions }))
    else spdmError x.at_ 0x06 id (dropSession id s)

/-- HEARTBEAT (R463). -/
def spdmHeartbeat (id : Nat) (s : State) : State := withSession id (fun x t => spdmSay x.at_ 0x68 0 id [] t) s

/-- KEY_UPDATE (R463): the next keys, and a new count of sequence numbers. -/
def spdmKeyUpdate (id : Nat) (s : State) : State :=
  withSession id (fun x t => spdmSay x.at_ 0x69 0 id []
    (t.setSec { t.sec with sessions := MapOps.insert id { x with keyGen := x.keyGen + 1, seq := 0 } t.sec.sessions })) s

/-- END_SESSION (R467). -/
def spdmEnd (id : Nat) (s : State) : State := withSession id (fun x t => spdmSay x.at_ 0x6C 0 id [] (dropSession id t)) s

/-! ### Link keys (R470) -/

/-- A session is on PF0 of a port. -/
def onPf0 (x : SecSession) (port : Nat) : Bool :=
  match x.at_ with
  | .doe (.pf0 p) => p.val == port
  | _ => false

/-- The number under which the keys of a direction are kept. -/
def ideKey (port : Nat) (mem rx : Bool) : Nat := 4 * port + 2 * ofBool mem + ofBool rx

/-- The keys of a direction. -/
def ideOf (s : State) (k : Nat) : IdeKeys := MapOps.getD k {} s.sec.ide

/-- Writes the keys of a direction. -/
def setIde (k : Nat) (v : IdeKeys) (s : State) : State := s.setSec { s.sec with ide := MapOps.put k {} v s.sec.ide }

/-- An IDE_KM or CXL_IDE_KM response: kind, status, and its payload. -/
def ideSay (x : SecSession) (kind status : Nat) (payload : List Byte) (s : State) : State :=
  emit .ideKm [placeCode x.at_, kind, status] payload s

/-- QUERY (R470). -/
def ideQuery (id port : Nat) (mem : Bool) (s : State) : State :=
  withSession id (fun x t => if onPf0 x port then ideSay x 0x01 0 (Config.standardAnswer (if mem then 3 else 2)) t else t) s

/-- KEY_PROG (R470): KP_ACK reports failure for a key of another length, for a link that is down, and in any session that
is not on PF0 of the port. -/
def ideProg (id port : Nat) (mem rx : Bool) (set : Nat) (key : List Byte) (s : State) : State :=
  withSession id (fun x t =>
    if ! onPf0 x port || ! (portOf t port).up then ideSay x 0x03 4 [] t
    else if key.length != 32 then ideSay x 0x03 1 [] t
    else
      let k := ideKey port mem rx
      let v := if set == 0 then { ideOf t k with key0 := some key } else { ideOf t k with key1 := some key }
      ideSay x 0x03 0 [] (setIde k v t)) s

/-- K_SET_GO (R470). A set without a key does not start. -/
def ideGo (id port : Nat) (mem rx : Bool) (set : Nat) (s : State) : State :=
  withSession id (fun x t =>
    let k := ideKey port mem rx
    let have_ := if set == 0 then (ideOf t k).key0.isSome else (ideOf t k).key1.isSome
    if ! onPf0 x port || ! have_ then t else ideSay x 0x06 0 [] (setIde k { ideOf t k with active := some set } t)) s

/-- K_SET_STOP (R470). -/
def ideStop (id port : Nat) (mem rx : Bool) (set : Nat) (s : State) : State :=
  withSession id (fun x t =>
    let k := ideKey port mem rx
    if ! onPf0 x port then t
    else if (ideOf t k).active == some set then ideSay x 0x06 0 [] (setIde k { ideOf t k with active := none } t)
    else ideSay x 0x06 0 [] t) s

/-- GETKEY (R470): a fresh key of the device for CXL.mem. -/
def ideGet (id port : Nat) (s : State) : State :=
  withSession id (fun x t =>
    if ! onPf0 x port then t
    else ideSay x 0x08 0 (Config.entropy t.sec.draws) (t.setSec { t.sec with draws := t.sec.draws + 1 })) s

/-! ### Job keys (R472 to R474) -/

/-- USES of a Key Table entry (Table 13-9). -/
def keyUses (s : State) (n : Nat) : Nat :=
  ((rtRows s).filter fun q => rtValid q.2 && rtKeyValid q.2 && rtKey q.2 == n).length
    + (s.sess.recs.filter fun q => q.2.keyValid && q.2.jobKey == n).length

/-- The metadata of a Key Table entry (Table 13-9). -/
def keyMeta (s : State) (n : Nat) : Nat :=
  match MapOps.get? n s.sec.keys with
  | none => put (n / 64) 6 1
  | some k => 1 + put (n / 64) 6 1 + put (min 65535 (keyUses s n)) 16 16 + put k.loadedAt 48 32

/-- The plaintext of a sealed message under a session that acts for a partition, with that session (R473). -/
def openMessage (s : State) (part : Nat) (msg : List Byte) : Option (Nat × SecSession × List Byte) :=
  let id := ofBytes (msg.take 4)
  match secSession s id with
  | none => none
  | some x =>
    let acts := match x.at_ with
      | .doe (.ld p n) => ldPart s p.val n.val == some part
      | _ => false
    if ! acts || ! x.established then none
    else (Config.openSealed (Config.sessionKey x.secret (2 * x.keyGen)) x.seq msg).map fun t => (id, x, t)

/-- What an authentic KEYLOAD message does (R474). -/
def keyApply (id : Nat) (c : Cmd) (text : List Byte) (s : State) : State :=
  let w := ofBytes (slice text 0 96 0)
  let n := field w 19 8
  let op := field w 7 0
  let valid := (MapOps.get? n s.sec.keys).isSome
  if n / 64 != c.part || (op != 1 && op != 2) then completeCmd id 0x11 0 0 s
  else if (op == 1 && valid) || (op == 2 && keyUses s n != 0) then completeCmd id 0x14 0 0 s
  else
    let e : KeyEntry := { k1 := slice text 32 32 0, k2 := slice text 64 32 0, loadedAt := calMs s }
    let s1 := s.setSec { s.sec with keys := if op == 1 then MapOps.insert n e s.sec.keys else MapOps.erase n s.sec.keys }
    completeCmd id 0x00 n 0 (countFor 0x30D1 c.part s1)

/-- KEYLOAD (R474, R487): it waits while its message must land. -/
def keyload (id : Nat) (c : Cmd) (s : State) : State :=
  if s.sec.wasUnlocked then completeCmd id 0x11 0 0 s
  else match listSectors [1, id] c.part (c.bits 243 192) 2 s with
    | (none, t) => modCmd id (fun q => { q with begun := false }) t
    | (some l, t) =>
      if l.any (·.2) then completeCmd id 0x20 0 0 t
      else match openMessage t c.part ((l.flatMap (·.1)).take 120) with
        | none => completeCmd id 0x11 0 0 (count 0x30D0 4 t)
        | some (n, x, text) =>
          keyApply id c text (markStarted id
            (t.setSec { t.sec with sessions := MapOps.insert n { x with seq := x.seq + 1 } t.sec.sessions }))

/-! ### Debug (R486 to R488) -/

/-- A fresh challenge (R486). -/
def newChallenge (s : State) : State :=
  if debugBurned s then s
  else s.setSec { s.sec with challenge := some (Config.entropy s.sec.draws), draws := s.sec.draws + 1 }

/-- An unlock ends every secured session and clears every key (R487). -/
def unlockDebug (s : State) : State :=
  raise 0x0D09 none 0 (s.setSec { s.sec with
    debug := 1, wasUnlocked := true, sessions := [], ide := [], keys := []
    waits := s.sec.waits.filter fun w => w.exchange.isNone })

/-- A debug token (R486): each challenge serves one attempt. True where it unlocks. (DESIGN CHOICE, log entry 53.) -/
def tryToken (scope : Nat) (signature : List Byte) (s : State) : Bool × State :=
  match s.sec.challenge with
  | none => (false, s)
  | some ch =>
    let s1 := s.setSec { s.sec with challenge := none }
    if Config.hssVerify (authorityKey s) (toBytes 16 (deviceId s) ++ ch ++ toBytes 4 scope) signature
    then (true, unlockDebug s1) else (false, s1)

/-- DEBUG_CLOSE is burned (R488). -/
def burnDebug (s : State) : State :=
  raise 0x0D0A none 0 ((s.setFuses { s.fuses with debugClose := s.fuses.debugClose.map fun _ => true }).setSec
    { s.sec with debug := 2, challenge := none })

/-- SVN_FLOOR is burned to a count (R454). -/
def burnSvn (svn : Nat) (burned : Bool) (s : State) : State :=
  let s1 := s.setFuses { s.fuses with svn := burnBelow s.fuses.svn burned (fun i => Config.freeAt s.fresh i) 0 svn }
  let s2 := raise 0x0D08 none 0 (if burned then s1 else used s1)
  if burned then s2 else raise 0x0D05 none 0 s2

end Sys2Proof.Machine
end

