-- ==== Sys2Proof/Machine/ObjOps.lean ====
section
/-! DEFINITION. Objects of the dictionary: which are present, and which values they take (R527, R535, R536, R540). -/

namespace Sys2Proof.Machine

open Sys2Proof

/-- An object of a listing, or a TABLE object. -/
def objFind (s : State) (index sub : Nat) : Option OdObj :=
  if hasTable s index then
    if sub == 0 then
      let t := tableOf s index
      some { index := index, sub := 0, subTo := 0, type := 0x12, size := tableSize t, access := if index / 256 == 0x21 then 2 else
               (if t.access == 1 then 1 else t.access), dflt := 0, lo := 0, hi := 0 }
    else none
  else odTable.find? fun o => o.index == index && o.sub ≤ sub && sub ≤ o.subTo

/-- The object set that answers in Safelight, and over I3C before S4 (R535; DESIGN CHOICE, log entry 50). -/
def safeIndex (index : Nat) : Bool :=
  (0x1000 ≤ index && index ≤ 0x11FF) || (0x1800 ≤ index && index ≤ 0x18FF) || (0x2000 ≤ index && index ≤ 0x201F)
    || (0x2800 ≤ index && index ≤ 0x28FF) || (0x30E0 ≤ index && index ≤ 0x30FF) || (0x3900 ≤ index && index ≤ 0x39FF)
    || (0x6000 ≤ index && index ≤ 0x6FFF)

/-- The object, or the status with which a message that names it is answered: NO_OBJECT or UNAVAILABLE (R535, R569).
(DESIGN CHOICE, log entry 50.) -/
def present (s : State) (index sub : Nat) : Except Nat OdObj :=
  match objFind s index sub with
  | none => .error 0x01
  | some o =>
    if 0x6000 ≤ index && debugBurned s then .error 0x01
    else if ! isLit s && ! safeIndex index then .error 0x0B
    else .ok o

/-- True of a number that is a power of two. -/
def powerOf2 (v : Nat) : Bool := v != 0 && 2 ^ Nat.log2 v == v

/-- The objects that hold a table index (R540). -/
def holdsIndex (index sub : Nat) : Bool :=
  (index == 0x2200 && sub == 7) || (index == 0x2400 && (sub == 2 || sub == 3)) || (index == 0x2300 && sub == 1)
    || (index == 0x2700 && sub == 0x0D)

/-- The channels or stacks in use, as bits of a clock-enable object (R502). -/
def inUseBits (s : State) (kind : Nat) : Nat :=
  let bit := fun (n : Nat) => if kind == 0 then (ctlOf s n).state == 1
    else if kind == 1 then MapOps.getD n 0 s.und.channels == 1 else (ctlOf s (16 + n)).state == 1
  (List.range (if kind == 2 then 8 else 16)).foldl (fun a n => a + ofBool (bit n) * 2 ^ n) 0

/-- A value without the reserved fields of its object, which the device ignores (R2): bits [15:10] of PortPriority (Table 10-9). -/
def unreserved (index sub v : Nat) : Nat := if index == 0x2600 && sub == 5 then v % 1024 else v

/-- A value of an STR(n): ASCII, padded with 0x00 (R527). -/
def strOk (bytes : List Byte) : Bool :=
  bytes.all (fun b => decide (b.toNat < 0x80)) && (bytes.dropWhile (· != 0)).all (· == 0)

/-- The value a plain write may give an object: 0, RANGE (4) or REFUSED (3). (DEDUCED, log entry 58.) A bit of FrameClockEnable above
bit 35, and one of IdeRequired above bit 3, is out of its range. (DESIGN CHOICE, log entry 96.) -/
def valueStatus (s : State) (o : OdObj) (index sub v : Nat) : Nat :=
  let scalar_ := o.type < 0x10
  if scalar_ && (v < o.lo || o.hi < v) then 4
  else if o.type == 0x10 && ! strOk (toBytes o.size v) then 4
  else if index == 0x2500 && sub == 1 && v ≤ scalar s 0x2500 2 50 then 4
  else if index == 0x2500 && sub == 2 && scalar s 0x2500 1 75 ≤ v then 4
  else if index == 0x2600 && sub == 4 && v != 0 && v < 10 then 4
  else if index == 0x2600 && sub == 1 && ! powerOf2 v then 4
  else if holdsIndex index sub && ! namesTable s index sub v then (if v < 0x5000 || 0x5FFF < v then 4 else 3)
  else if index == 0x3800 && (sub == 2 || sub == 3) && scalar s 0x3800 1 0 == 1 then 3
  else if index == 0x2011 && 1 ≤ sub && sub ≤ 3 && ! isLit s then 0
  else if index == 0x2011 && 1 ≤ sub && sub ≤ 3 && inUseBits s (sub - 1) &&& v != inUseBits s (sub - 1) then 3
  else 0

/-! ### The persisted store (R529) -/

/-- Bytes that a record takes in the store: the header of 16 B and the value, padded to a multiple of 16 B. -/
def recSize (r : PersistRec) : Nat := 16 + (r.bytes.length + 15) / 16 * 16

/-- Bytes that records take. -/
def storeSize (l : List PersistRec) : Nat := l.foldl (fun a r => a + recSize r) 0

/-- The first 12 bytes of a record's header (Table 15-7). -/
def recHead (r : PersistRec) : List Byte :=
  toBytes 12 (0x50 + put r.type 8 8 + put r.index 16 16 + put r.sub 8 32 + put r.bytes.length 24 40 + put r.seq 32 64)

/-- The CRC of a record (Table 15-7). -/
def recCrc (r : PersistRec) : Nat := crc32c (recHead r ++ r.bytes)

/-- A record with its SEQ and its CRC. -/
def sealRec (seq : Nat) (r : PersistRec) : PersistRec := { r with seq := seq, crc := recCrc { r with seq := seq } }

/-- Two records are of one object. -/
def sameObject (q r : PersistRec) : Bool := q.index == r.index && q.sub == r.sub

/-- The current records of a half, whose SEQs rise: of each object the last whose CRC passes (R529). -/
def currentRecs : List PersistRec → List PersistRec
  | [] => []
  | r :: l => if l.any (fun q => sameObject q r && q.crc == recCrc q) || r.crc != recCrc r then currentRecs l else r :: currentRecs l

/-- The current record of an object. -/
def recOf (s : State) (index sub : Nat) : Option PersistRec :=
  s.flash.store.reverse.find? fun r => r.index == index && r.sub == sub && r.crc == recCrc r

/-- The current records with one more, which takes the place of its object's. -/
def withRec (l : List PersistRec) (r : PersistRec) : List PersistRec := (l.filter fun q => ! sameObject q r) ++ [r]

/-- A record is appended to the active half. One that is full is compacted: the current records go into the other half, each with a SEQ
of its own (R529). (DESIGN CHOICE, log entry 51.) -/
def putRec (r : PersistRec) (s : State) : State :=
  let seq := s.flash.seq
  if storeSize s.flash.store + recSize r ≤ 65536 then
    count 0x30F0 3 (s.setFlash { s.flash with store := s.flash.store ++ [sealRec (seq + 1) r], seq := seq + 1 })
  else
    let l := (withRec (currentRecs s.flash.store) r).zipIdx.map fun q => sealRec (seq + 1 + q.2) q.1
    count 0x30F0 4 (countBy 0x30F0 3 l.length
      (s.setFlash { s.flash with store := l, half := 1 - s.flash.half, seq := seq + l.length }))

/-- A record of the device's own: it is programmed at once, and none is written for the value already there
(DESIGN CHOICE, log entry 51). -/
def putOwn (index sub type : Nat) (bytes : List Byte) (s : State) : State :=
  if (recOf s index sub).map (·.bytes) == some bytes then s
  else putRec { index := index, sub := sub, type := type, bytes := bytes, seq := 0 } s

/-- The value of a persisted scalar, or a default. -/
def storedScalar (s : State) (index sub dflt : Nat) : Nat :=
  match recOf s index sub with | some r => ofBytes r.bytes | none => dflt

/-! ### Lifetime objects (R542) -/

/-- The lifetime objects that the store keeps: subindex, type code, size, and the unit in which the model counts. -/
def lifeList : List (Nat × Nat × Nat × Nat) :=
  [(1, 4, 4, 1), (2, 4, 4, 1), (4, 4, 4, 1), (5, 4, 4, 1), (6, 4, 4, 1), (0x0A, 5, 8, 1048576), (0x0B, 5, 8, 1048576)
  , (0x0C, 5, 8, 1048576), (0x0D, 5, 8, 1), (0x0E, 4, 4, 1), (0x0F, 5, 8, 1)]

/-- µs in an hour. -/
def hour : Nat := 3600000000

/-- TempBandHours: 4 B for each of 8 bands of 24 dies. -/
def bandBytes (s : State) : List Byte := (List.range 192).flatMap fun i => toBytes 4 (life s (256 + i) / hour)

/-- The lifetime objects are written to the store. (DESIGN CHOICE, log entry 51.) -/
def writeLife (s : State) : State :=
  putOwn 0x1100 3 0x11 (bandBytes s)
    (lifeList.foldl (fun u q => putOwn 0x1100 q.1 q.2.1 (toBytes q.2.2.1 (life s q.1 / q.2.2.2)) u) s)

/-- The lifetime counts that the store holds, at power-on. -/
def loadLife (s : State) : Map Nat :=
  let bands := ((recOf s 0x1100 3).map (·.bytes)).getD []
  let m := (List.range 192).foldl (fun m i => MapOps.put (256 + i) 0 (ofBytes (slice bands (4 * i) 4 0) * hour) m) []
  lifeList.foldl (fun m q => MapOps.put q.1 0 (storedScalar s 0x1100 q.1 0 * q.2.2.2) m) m

end Sys2Proof.Machine
end

