-- ==== Sys2Proof/Machine/StartOps.lean ====
section
/-! DEFINITION. Resets, the start sequence, failed starts, Safelight, and the reference clocks (chapter 14). -/

namespace Sys2Proof.Machine

open Sys2Proof

/-! ### Resets (R506, R507) -/

/-- What Underlay keeps across a reset: the media, without the work in progress (R506). -/
def keptUnderlay (u : Underlay) : Underlay :=
  { overProvision := u.overProvision, formatted := u.formatted, superblocks := u.superblocks, eprs := u.eprs
    images := u.images, seq := u.seq, saved := u.saved, log := u.log, logClock := u.logClock, store := u.store, sheetAt := u.sheetAt
    spares := u.spares, replaced := u.replaced, retiring := u.retiring, lost := u.lost, bad := u.bad, sysBad := u.sysBad }

/-- The device after a reset that starts it again: all volatile state is lost, and every link is down (R507). Pins and
readings of the board stay as the board has them. -/
def resetAll (s : State) : State :=
  { State.reset with
    pending := s.pending, fresh := s.fresh, out := s.out, fuses := s.fuses, flash := s.flash
    ctr := { life := s.ctr.life }
    und := keptUnderlay s.und
    link := { ports := (s.link.ports.filter fun p => p.2.perst).map fun p => (p.1, { perst := true }) }
    start := { failures := s.start.failures, lastFail := s.start.lastFail, log := s.start.log, cause := s.start.cause
               strap := s.start.strap, owed := s.start.owed }
    pkg := { railsBad := s.pkg.railsBad, grst := s.pkg.grst, temps := s.pkg.temps, dimm := s.pkg.dimm, rails := s.pkg.rails
             thermtrip := s.pkg.thermtrip, cool := s.pkg.cool, jtag := s.pkg.jtag } }

/-- Changes the start sequence's data. -/
def modStart (f : Start → Start) (s : State) : State := s.setStart (f s.start)

/-- S1 begins (R508): a start is attempted. DEBUG_CLOSE shows in DebugState. -/
def beginS1 (cause : Nat) (s : State) : State :=
  let s1 := resetAll s
  let s2 := modStart (fun b => { b with stage := .oscDelay, phase := 1, cause := cause }) (lifeBy 4 1 s1)
  if debugBurned s2 then s2.setSec { s2.sec with debug := 2 } else s2

/-- The device is held in S0 (R556, Table 16-2). -/
def holdReset (s : State) : State :=
  modStart (fun b => { b with stage := .held, phase := 0, cause := 1 }) (resetAll s)

/-- ms since this start entered S1. -/
def startMs (s : State) : Nat := (nowUs s - s.start.startUs) / 1000

/-- Events that were owed are entered once MGMT runs (R518, R556, R562). -/
def flushOwed (s : State) : State :=
  let s1 := modStart (fun b => { b with owed := [] }) s
  s.start.owed.foldl (fun u q => raise q.1 none q.2 u) s1

/-- The ports whose PERST# is high begin to train (R509). -/
def trainPorts (s : State) : State :=
  (List.range 4).foldl (fun u p => if (portOf u p).perst then u else emit .train [p] [] u) s

/-- The failure counts of both places become a value (R512, R513). -/
def setFailures (n : Nat) (s : State) : State :=
  putOwn 0x1800 5 0x02 (toBytes 1 n) (modStart (fun b => { b with failures := n }) s)

/-- Safelight is entered with a reason (R515): the counter of signatures is read there where S2 did not come to it.
(DEDUCED, log entry 71.) -/
def enterSafelight (reason : Nat) (s : State) : State :=
  let s1 := modStart (fun b => { b with stage := .safelight, reason := reason, refInUse := if reason == 1 then 0 else 1 }) s
  let s2 := if s1.sec.tree.isNone && s1.sec.opening.isNone && ! s1.sec.exhausted then startCounter s1 else s1
  let s3 := raise 0x0E02 none reason (flushOwed (lifeBy 6 1 s2))
  let s4 := (List.range 4).foldl (fun u p => if (portOf u p).up then setInt p 4 u else u) s3
  if s.start.phase ≤ 1 && reason != 1 then trainPorts s4 else s4

/-- A start fails (R512, R513): a retry follows, or Safelight at the threshold. -/
def startFails (reason : Nat) (s : State) : State :=
  let n := s.start.failures + 1
  let ph := s.start.phase
  let s1 := lifeBy 5 1 (modStart (fun b => { b with
    failures := n, lastFail := reason, log := ((reason, ph, startMs s) :: b.log).take 8
    owed := b.owed ++ [(0x0E01, reason + 256 * ph)] }) s)
  if n < scalar s 0x1800 4 3 then
    modStart (fun b => { b with stage := .retry, phase := 0 }) s1
  else enterSafelight reason (setFailures 0 s1)

/-- VDD_AON becomes good (R506): everything is reset, the AON start record included. Lifetime counts are those of the store. The device
stays in S0 while another rail is not in its window (R555). (DEDUCED, log entry 71.) -/
def powerOn (straps : BitVec 3) (s : State) : State :=
  if s.start.stage != .off then s
  else
    let s1 := s.setStart { strap := straps }
    let s2 := s1.setCtr { life := loadLife s1 }
    let s3 := s2.setPkg { railsBad := s.pkg.railsBad, grst := s.pkg.grst, temps := s.pkg.temps, dimm := s.pkg.dimm
                          rails := s.pkg.rails, cool := s.pkg.cool }
    if s.pkg.grst || ! s.pkg.railsBad.isEmpty then modStart (fun b => { b with cause := 0 }) (holdReset s3) else beginS1 0 s3

/-- VDD_AON is lost (R556). -/
def powerOff (s : State) : State :=
  modStart (fun b => { b with stage := .off, phase := 0 }) (resetAll s)

/-- GRST# has been low for its filter time (R506, R551). A device that has tripped stays so. -/
def grstLow (s : State) : State :=
  let s1 := s.setPkg { s.pkg with grst := true }
  if s.start.stage == .off || s.start.stage == .tripped then s1 else holdReset s1

/-- GRST# rises (R495, R506): the straps are sampled, and the start runs once all rails are good. -/
def grstHigh (straps : BitVec 3) (s : State) : State :=
  let s1 := s.setPkg { s.pkg with grst := false }
  if ! s.pkg.grst || s.start.stage == .off then s1
  else
    let s2 := modStart (fun b => { b with strap := straps }) s1
    if s2.start.stage == .held && s2.pkg.railsBad.isEmpty then beginS1 1 s2 else s2

/-- True in S0. -/
def inS0 (s : State) : Bool :=
  match s.start.stage with
  | .off | .held | .retry | .tripped => true
  | _ => false

/-- A rail leaves its window (R556), or has not come up yet (R555). Rail 0 is VDD_AON. -/
def railFails (rail : Nat) (s : State) : State :=
  if rail == 0 then (if s.start.stage == .off then s else powerOff s)
  else
    let s1 := s.setPkg { s.pkg with railsBad := setInsert rail s.pkg.railsBad }
    if inS0 s then s1
    else count 0x3100 5 (modStart (fun b => { b with owed := b.owed ++ [(0x1004, rail)] }) (holdReset s1))

/-- Every rail has been back in its window for 1 ms (R556). -/
def railsGood (s : State) : State :=
  let s1 := s.setPkg { s.pkg with railsBad := [] }
  if s.start.stage == .held && ! s.pkg.grst && ! s.pkg.railsBad.isEmpty then
    let n := counter s 0x3100 5
    countBy 0x3100 5 n (beginS1 s.start.cause s1)
  else s1

/-- The retry delay is over (R513); with a rail out of its window the device stays in S0. -/
def retryNow (s : State) : State :=
  if s.start.stage != .retry then s
  else if s.pkg.railsBad.isEmpty then beginS1 3 s
  else holdReset s

/-- A Restart (R506): the lifetime objects are written before it (R542). -/
def restartNow (s : State) : State := beginS1 2 (writeLife s)

/-! ### S1 (R494, R508) -/

/-- The strapped delay is over: the CMON judges LOSC. -/
def oscReady (s : State) : State :=
  if s.start.stage == .oscDelay then modStart (fun b => { b with stage := .judging }) s else s

/-- LOSC is accepted by the edges of two windows of 50 µs (R494): 1,250 each within 30 %, and no more than 0.1 % apart
(the difference against the first count; DESIGN CHOICE, log entry 52). -/
def loscGood (a b : Nat) : Bool :=
  decide (875 ≤ a) && decide (a ≤ 1625) && decide (875 ≤ b) && decide (b ≤ 1625) && decide ((max a b - min a b) * 1000 ≤ a)

/-- The CMON's judgement of LOSC. -/
def loscJudged (a b : Nat) (s : State) : State :=
  if s.start.stage != .judging then s
  else if loscGood a b then modStart (fun t => { t with stage := .fuses, losc := true }) s
  else startFails 1 s

/-- The fuses are read and the PLLs have locked (R448, R508): the start fails where the copies of a bit do not all agree, else S2
begins, with the larger of the two failure counts (R512). A count in flash above the AON record's tells of a start that was cut
short. -/
def fusesRead (upsets : List FuseUpset) (s : State) : State :=
  if s.start.stage != .fuses then s
  else
    let s0 := modStart (fun b => { b with upsets := upsets }) s
    if upsets.any fun u => u.wrong != 0 && u.wrong != 7 then startFails 5 s0
    else
      let f := storedScalar s0 0x1800 5 0
      let s1 := if s0.start.failures < f then lifeBy 5 1 s0 else s0
      let s2 := modStart (fun b => { b with stage := .image, phase := 2, refInUse := 1, failures := max b.failures f }) s1
      trainPorts (flushOwed s2)

/-! ### S2 (R452, R453, R458, R529) -/

/-- The table that a persisted record gives an index: the rows of the record under the image's header. -/
def recTable (s : State) (r : PersistRec) : Option TableObj :=
  match parseTable r.bytes with
  | none => none
  | some t =>
    let old := tableOf s r.index
    let same := t.kind == old.kind && t.access == old.access && t.rowBytes == old.rowBytes && t.rows == old.rows
      && t.ownerBit == old.ownerBit
    if hasTable s r.index && same && old.access == 3 then some { old with data := t.data, fill := t.fill } else none

/-- The value that a persisted record gives an object. -/
def recValue (s : State) (r : PersistRec) : Option (OdObj × Nat) :=
  match objFind s r.index r.sub with
  | none => none
  | some o => if o.type == r.type && r.bytes.length == o.size then some (o, unreserved r.index r.sub (ofBytes r.bytes)) else none

/-- Puts a persisted value in force. -/
def forceRec (r : PersistRec) (s : State) : State :=
  if r.type == 0x12 then (match recTable s r with | some t => setTable r.index t s | none => s)
  else match recValue s r with
    | some (_, v) => setScalar r.index r.sub v s
    | none => s

/-- Checks a persisted value as if it were written, beside the other persisted values: one that fails is discarded (R529). `s0` is the
state without persisted values. (DESIGN CHOICE, log entry 51.) -/
def checkRec (s0 : State) (r : PersistRec) (s : State) : State :=
  let drop := raise 0x0F03 none (r.index + put r.sub 8 16)
  if r.type == 0x12 then
    match recTable s0 r with
    | none => drop s
    | some t => if kindOk t && chapterOk s r.index t then s else drop (setTable r.index (tableOf s0 r.index) s)
  else match recValue s0 r with
    | none => drop s
    | some (o, v) =>
      if valueStatus s o r.index r.sub v == 0 then s else drop (setScalar r.index r.sub (scalar s0 r.index r.sub o.dflt) s)

/-- The persisted objects are read (R529); the device's own records are no settings. -/
def loadStore (s : State) : State :=
  let l := (currentRecs s.flash.store).filter fun r => ! (r.index == 0x1100 || (r.index == 0x1800 && r.sub == 5))
  l.foldl (fun u r => checkRec s r u) (l.foldl (fun u r => forceRec r u) s)

/-- A slot is refused (R453). -/
def refuseSlot (slot why : Nat) (s : State) : State := count 0x30D0 5 (raise 0x0D01 none (slot + 256 * why) s)

/-- The image in a slot takes effect (R451, R489). -/
def loadImage (slot : Nat) (s : State) : State :=
  let img := slotBytes s slot
  let s1 := s.setOd { s.od with tables := (imageTables img).getD [] }
  s1.setSec { s1.sec with
    slot := some slot, svn := field (ofBytes (img.take 12)) 95 64, digest := imageDigest img, version := slice img 40 32 0 }

/-- S2 after an image has passed: counter record, persisted objects, start record; then S3, in which Underlay mounts (R410), or
Safelight on request (R514). -/
def imageLoaded (slot : Nat) (s : State) : State :=
  let s1 := loadStore (startCounter (loadImage slot s))
  if scalar s1 0x1800 0x0A 0 == 1 then
    enterSafelight 0x0A (putOwn 0x1800 0x0A 0x01 [0] (setScalar 0x1800 0x0A 0 s1))
  else
    let s2 := putOwn 0x1800 5 0x02 (toBytes 1 (min 255 (s1.start.failures + 1))) s1
    modStart (fun b => { b with stage := .train, phase := 3 }) (s2.setUnd { s2.und with state := 1 })

/-- The image has been read and verified (R452, R453). -/
def imageDone (s : State) : State :=
  if s.start.stage != .image then s
  else
    let first := storedScalar s 0x2800 6 0 % 2
    let other := 1 - first
    let a := verifyImage s (slotBytes s first)
    if a == 0 then imageLoaded first s
    else
      let s1 := refuseSlot first a s
      let b := verifyImage s (slotBytes s other)
      if b == 0 then imageLoaded other (raise 0x0D02 none 0 s1)
      else startFails a (refuseSlot other b s1)

/-! ### S3 (R510, R511) -/

/-- A DDR5 channel has not trained within its budget (R369). -/
def channelUntrained (n : Nat) (s : State) : State :=
  if s.start.stage != .train || (ctlOf s n).state == 2 then s
  else raise 0x0A01 none n (modCtl n (fun c => { c with state := 2 }) s)

/-- BCHn carries DIMMs. -/
def bchPopulated (f : Population) (n : Nat) : Bool := ! (f.dimms.getD n []).isEmpty

/-- The DIMMs of the lowest-numbered populated channel: the one in slot 0 is the reference (R370). -/
def refDimms (f : Population) : List Dimm := (f.dimms.find? fun l => ! l.isEmpty).getD []

/-- The controllers support a DIMM (R365, Table 10-1). -/
def dimmOk (d : Dimm) : Bool :=
  d.registered && d.ecc && d.width == 4 && [16, 24, 32].contains d.gbit && [1, 2].contains d.ranks && [1, 2, 4, 8].contains d.dies
    && ! d.needsHelp

/-- A channel's DIMMs are as many as the reference channel's, and have its capacity, package rank count and die stacking (R370). -/
def likeRef (f : Population) (l : List Dimm) : Bool :=
  match refDimms f with
  | [] => false
  | d :: ds => l.length == ds.length + 1 && l.all fun x => x.giB == d.giB && x.ranks == d.ranks && x.dies == d.dies

/-- A populated channel is refused (R29, R370). -/
def channelRefused (f : Population) (n : Nat) : Bool :=
  let l := f.dimms.getD n []
  l.any (fun d => ! dimmOk d) || ! likeRef f l || (n % 2 == 1 && (List.range 16).any fun m => ! bchPopulated f m)

/-- What S3 makes of one DDR5 channel (R369, R370). -/
def settleChannel (f : Population) (n : Nat) (s : State) : State :=
  let t := modCtl n (fun c => { c with fitted := (f.dimms.getD n []).length }) s
  if ! bchPopulated f n then modCtl n (fun c => { c with state := 0 }) t
  else if channelRefused f n then raise 0x0A05 none n (modCtl n (fun c => { c with state := 3 }) t)
  else if (ctlOf s n).state == 2 then t
  else if ! f.trained.getLsbD n then channelUntrained n t
  else modCtl n (fun c => { c with state := 1 }) t

/-- The rate of Batten in MT/s: that of the DIMMs per channel, or the lowest that a DIMM declares (R29). -/
def battenRateOf (f : Population) : Nat :=
  (f.dimms.flatten.map (·.rate)).foldl min (if (refDimms f).length == 2 then 5600 else 6400)

/-- What S3 makes of the DDR5 channels and stacks. -/
def settleDram (f : Population) (s : State) : State :=
  let s1 := (List.range 16).foldl (fun u n => settleChannel f n u) s
  let s2 := (List.range 8).foldl (fun u m => modCtl (16 + m) (fun c => { c with state := 1, banks := f.banks.getD m 1 }) u) s1
  let d := (refDimms f).head?
  s2.setDram { s2.dram with
    grain := scalar s 0x2600 1 4096, mode := scalar s 0x2600 3 1, dpc := (refDimms f).length, dimmGiB := d.elim 0 (·.giB)
    ranks := d.elim 1 (·.ranks), dies := d.elim 1 (·.dies), rate := battenRateOf f }

/-- Channels of an MD that are in use. -/
def mdChannels (s : State) (m : Nat) : Nat :=
  ([2 * m, 2 * m + 1].filter fun n => (ctlOf s n).state == 1).length

/-- The ONFI controllers accept a part (R396, Table 11-1). -/
def partOk (p : NandPart) : Bool :=
  p.rates.any (fun r => [3200, 2400, 1600].contains r) && p.width == 8 && decide (1 ≤ p.luns) && decide (p.luns ≤ 8)
    && [2, 4, 6].contains p.planes && p.pageBytes == 16384 && decide (1904 ≤ p.spareBytes) && decide (256 ≤ p.pagesPerBlock)
    && decide (p.pagesPerBlock ≤ 4096) && ! p.slow

/-- The parts of a channel pass Table 11-1, and its chip enables are 1, 2, 4 or 8. -/
def partsOk (l : List NandPart) : Bool := [1, 2, 4, 8].contains l.length && l.all partOk && l.all fun p => l.head? == some p

/-- The parts of the lowest-numbered channel that passes: its part is the reference (R396). -/
def refNand (f : Population) : List NandPart := (f.nand.find? partsOk).getD []

/-- UCHn carries NAND that is refused: its parts fail Table 11-1, differ from the reference part, or are on another number of chip
enables (R396). -/
def uchRefused (f : Population) (n : Nat) : Bool :=
  let l := f.nand.getD n []
  ! l.isEmpty && l != refNand f

/-- The highest rate of Table 11-1 that the accepted parts support (R397). -/
def nandRateOf (f : Population) : Nat :=
  ([3200, 2400, 1600].find? fun r => (refNand f).all fun p => p.rates.contains r).getD 0

/-- What S3 makes of Underlay (R396, R397, R428, Table 11-6): a refused channel is offline until the next start (R423). -/
def settleUnderlay (f : Population) (s : State) : State :=
  let ref := (refNand f).head?
  let channels := (List.range 16).foldl (fun m n =>
    if (f.nand.getD n []).isEmpty then m else MapOps.insert n (if uchRefused f n then 2 else 1) m) ([] : Map Nat)
  let s1 := s.setUnd { s.und with
    channels := channels, rate := if ref.isNone then 0 else nandRateOf f, ces := (refNand f).length, luns := ref.elim 0 (·.luns)
    planes := ref.elim 0 (·.planes), pages := ref.elim 0 (·.pagesPerBlock), blocks := ref.elim 0 (·.blocksPerPlane)
    ceGiB := ref.elim 0 (·.giB) }
  let s2 := s1.setUnd { s1.und with
    state := if s1.und.mount == some false && ! channels.isEmpty then 5 else underlayState s1 }
  ((List.range 16).filter (uchRefused f)).foldl (fun u n => channelGone n (raise 0x0B01 none n (raise 0x0B02 none n u))) s2

/-- The directory is assigned and the extent map sized (R24, R27, R28). Without a directory MD the map has no entries. (DESIGN CHOICE, log
entry 116.) -/
def settleDirectory (f : Population) (s : State) : State :=
  let mds := (List.range 8).filter fun m => mdChannels s m != 0
  let k := mds.length
  let gib := s.dram.dpc * s.dram.dimmGiB
  let tiles := fun (m : Nat) => mdChannels s m * gib * 16384
  let installed := (f.dimms.flatten.map (·.giB)).sum
  let n := min (2 ^ 28) (installed * 512 + 2 * (usableCapacity s / 2097152))
  let reserve := fun (m : Nat) => match mds.idxOf? m with
    | none => 0
    | some i => ceilDiv (64 * tiles m) 65536 + ceilDiv (8 * ceilDiv (n - i) k) 65536
  let s1 := s.setTier { s.tier with
    k := k, dirMds := mds, mapEntries := if k == 0 then 0 else n, battenTiles := (List.range 8).map tiles
    battenReserve := (List.range 8).map reserve }
  if k == 0 then raise 0x0205 none 0 s1 else s1

/-- The extent map is rebuilt from the EPRs (R77): of two that name one extent the later one counts. The MDs cache the EPRs that the mount
hands them, as far as they have room (R405, R410). (DESIGN CHOICE, log entry 114.) -/
def rebuildMap (s : State) : State :=
  if s.tier.k == 0 || ! underlayUp s then s
  else
    let newest := fun (e : Epr) => s.und.eprs.all fun q => q.2.ext != e.ext || q.2.seq ≤ e.seq
    s.und.eprs.foldl (fun u q =>
      if q.2.ext < s.tier.mapEntries && newest q.2 then
        let v := u.setTier { u.tier with
          exts := MapOps.insert q.2.ext { kind := 2, part := q.2.part, mapGen := 0, link := q.1 } u.tier.exts }
        if (MapOps.getD (eprMd v q.1) [] v.und.cached).length < 32768 then cacheEpr q.1 v else v
      else u) s

/-- The coded blocks that EPRs name of a generation (R150). -/
def eprBlocks (s : State) (slot gen : Nat) : Nat :=
  s.und.eprs.foldl (fun a q => q.2.sheets.foldl (fun b x => if x.1 == slot && x.2.1 == gen then b + x.2.2 else b) a) 0

/-- The sheets that parked extents name are reloaded; each that the sheet store does not hold, or cannot give, is lost (R150). -/
def reloadSheets (s : State) : State :=
  if ! underlayUp s then s
  else
    let named := s.und.eprs.flatMap fun q => q.2.sheets.map fun x => (x.1, x.2.1, q.2.part)
    let readable := s.und.store.filter fun q =>
      (span (MapOps.getD q.1 0 s.und.sheetAt) (sheetPages q.2.wide q.2.entries.length)).all fun p => ! pageUnreadable s (2 * p + 1)
    let s1 := readable.foldl (fun u q =>
      let d := q.2
      if named.any (fun x => x.1 == q.1 / 2 && x.2.1 == d.gen) then
        setBank q.1 { state := d.state, owner := d.owner, wide := d.wide, size := d.size, gen := d.gen, entries := d.entries
                      persisted := true, stored := eprBlocks s (q.1 / 2) d.gen, builtAt := d.builtAt, sampled := d.sampled } u
      else u) s
    let missing := dedup ((named.filter fun x =>
      ! readable.any fun q => q.1 / 2 == x.1 && q.2.gen == x.2.1).map fun x => (x.1 * 1024 + x.2.1) * 64 + x.2.2)
    missing.foldl (fun u x => raise 0x0405 (some (x % 64)) 0 u) s1

/-- The clock enables at the end of S3 (R501). -/
def settleClocks (s : State) : State :=
  modStart (fun b => { b with
    ddrEnable := BitVec.ofNat 16 (inUseBits s 0), onfiEnable := BitVec.ofNat 16 (inUseBits s 1)
    hbmEnable := BitVec.ofNat 8 (inUseBits s 2) }) s

/-- Frames that fail the self-test are left out of use (R510). -/
def settleFrames (f : Population) (s : State) : State :=
  (List.range 36).foldl (fun u n =>
    if f.framesFailed.getLsbD n then modFrame n (fun fr => { fr with outOfUse := true }) u else u) s

/-- S4 is reached (R511, R512, R516, R542, R560). -/
def lightUp (s : State) : State :=
  let ms := startMs s
  let s1 := modStart (fun b => { b with
    stage := .lit, phase := 4, startMs := ms, log := ((0, 4, ms) :: b.log).take 8 }) (setFailures 0 s)
  raise 0x0E07 none ms (writeLife (s1.setPkg { s1.pkg with fp := 1000 }))

/-- S3 may end: NAND that is populated and accepted has been mounted, or its mount has failed. -/
def mountOver (f : Population) (s : State) : Bool :=
  s.und.mount.isSome || (refNand f).isEmpty

/-- S3 ends (R510, R511). -/
def trainDone (f : Population) (s : State) : State :=
  if s.start.stage != .train || ! mountOver f s then s
  else if (s.pkg.temps.take 16).any (fun t => 1050 ≤ t) then startFails 8 s
  else
    let s1 := settleDirectory f (settleUnderlay f (settleDram f s))
    let s2 := settleClocks (settleFrames f (reloadSheets (rebuildMap s1)))
    lightUp (placeFrames (recompute s2))

/-- A phase has exceeded its budget, or found what fails it (R508, Table 14-7). -/
def budgetOver (reason : Nat) (s : State) : State :=
  let fits := match s.start.stage with
    | .oscDelay | .judging | .fuses => reason == 1 || reason == 5
    | .image => 2 ≤ reason && reason ≤ 4
    | .train => 6 ≤ reason && reason ≤ 9
    | _ => false
  if fits then startFails reason s else s

/-! ### Reference clocks (R496 to R498) -/

/-- A port is in L0: its link is up, and not in L1. -/
def inL0 (s : State) (p : Nat) : Bool := (portOf s p).up && ! inL1 s p

/-- The lowest-numbered port in L0. -/
def lowestUp (s : State) : Option Nat := (List.range 4).find? (inL0 s)

/-- The reference falls back to LOSC, or the device restarts where LOSC is lost too (R497, R498). -/
def fallback (s : State) : State :=
  if s.start.refInUse != 2 then s
  else if s.start.losc then
    raise 0x0E04 none 0 (count 0x30E0 2 (modStart (fun b => { b with
      refInUse := 1, rclkPort := none, rclkPpm := 0, holdoff := true, candidate := none }) s))
  else beginS1 4 s

/-- A port leaves L0 to retrain: the reference falls back where it was that port's (R497). -/
def leaveL0 (port : Nat) (s : State) : State :=
  if s.start.refInUse == 2 && s.start.rclkPort == some port then fallback s else s

/-- The candidate that R496 names now. -/
def wantedCandidate (s : State) : Option Nat :=
  if isLit s && s.start.refInUse == 1 && s.start.losc && ! s.start.holdoff && scalar s 0x2000 1 0 == 1 then lowestUp s else none

/-- The references follow the links: RCLK in use is lost with its port, and a new candidate begins its check (R496, R497). -/
def pumpClock (s : State) : State :=
  if s.start.refInUse == 2 && ! s.start.rclkPort.any (inL0 s) then fallback s
  else if s.start.candidate == wantedCandidate s then s
  else modStart (fun b => { b with candidate := wantedCandidate s }) s

/-- The 10 ms check of a candidate ends (R496): it passes within 400 ppm of LOSC, at the end as at every moment before. -/
def candidateChecked (within : Bool) (ppm : Int) (s : State) : State :=
  match s.start.candidate with
  | none => s
  | some p =>
    if ! within || 40000 < ppm.natAbs then s
    else raise 0x0E03 none p (count 0x30E0 1 (modStart (fun b => { b with
      refInUse := 2, rclkPort := some p, rclkPpm := ppm, candidate := none }) s))

/-- The hold-off of 1 s is over (R497). -/
def holdoffOver (s : State) : State := modStart (fun b => { b with holdoff := false }) s

/-- LOSC fails (R498). In S1 it is the judgement that finds it. -/
def loscFails (s : State) : State :=
  let runs := match s.start.stage with
    | .image | .train | .lit | .safelight => s.start.refInUse != 0
    | _ => false
  if ! runs || ! s.start.losc then s
  else
    let s1 := raise 0x0E05 none 0 (count 0x30E0 3 (modStart (fun b => { b with losc := false }) s))
    if s1.start.refInUse == 1 then beginS1 4 s1 else s1

/-! ### Clock gates (R501 to R505) -/

/-- The number under which a closed gate is kept: DDR 0, ONFI 1, HBM 2. -/
def gateKey (kind block : Nat) : Nat := kind * 32 + block

/-- FrameClockEnable is written (R503): a frame whose gate had closed opens with owner NONE. -/
def writeFrameEnable (v : Nat) (s : State) : State :=
  let e := BitVec.ofNat 36 v
  modStart (fun b => { b with frameEnable := e, frameOpen := b.frameOpen ||| e }) s

/-- DdrClockEnable (0), OnfiClockEnable (1) or HbmClockEnable (2) is written (R502): gates open with their bits. -/
def writeMemEnable (kind v : Nat) (s : State) : State :=
  let s1 := modStart (fun b => { b with
    gatesClosed := b.gatesClosed.filter fun g => ! (g / 32 == kind && bitAt v (g % 32)) }) s
  if kind == 0 then modStart (fun b => { b with ddrEnable := BitVec.ofNat 16 v }) s1
  else if kind == 1 then modStart (fun b => { b with onfiEnable := BitVec.ofNat 16 v }) s1
  else modStart (fun b => { b with hbmEnable := BitVec.ofNat 8 v }) s1

/-- What a gate that closes counts and tells (R504): accesses still in progress end with zeros or are dropped. -/
def gateClosed (block busy : Nat) (s : State) : State :=
  let s1 := count 0x30E0 4 s
  if busy == 0 then s1 else raise 0x0E06 none block (countBy 0x30E0 5 busy s1)

/-- A gate closes (R503, R504): of a block whose enable is 0 and whose gate is open; of a frame only while no run holds it. -/
def closeGate (kind block busy : Nat) (s : State) : State :=
  let b := s.start
  if kind == 0 then
    let f := frameOf s block
    if 36 ≤ block || b.frameEnable.getLsbD block || ! b.frameOpen.getLsbD block || f.run.isSome || f.switching.isSome then s
    else
      let fresh : Frame := { reservedFor := f.reservedFor, sinceUs := nowUs s, outOfUse := f.outOfUse, epoch := f.epoch }
      gateClosed block busy (modFrame block (fun _ => fresh)
        (modStart (fun t => { t with frameOpen := t.frameOpen &&& ~~~ (BitVec.ofNat 36 (2 ^ block)) }) s))
  else
    let k := gateKey (kind - 1) block
    let enabled := if kind == 1 then b.ddrEnable.getLsbD block else if kind == 2 then b.onfiEnable.getLsbD block
      else b.hbmEnable.getLsbD block
    if (if kind == 3 then 8 else 16) ≤ block || enabled || b.gatesClosed.contains k then s
    else gateClosed block busy (modStart (fun t => { t with gatesClosed := setInsert k t.gatesClosed }) s)

end Sys2Proof.Machine
end

