-- ==== Sys2Proof/Machine/PkgOps.lean ====
section
/-! DEFINITION. Sensors, derating, the thermal trip and JTAG (chapter 16). -/

namespace Sys2Proof.Machine

open Sys2Proof

/-! ### Derating (R558 to R561) -/

/-- The largest of some readings, or a default where there are none. -/
def hottest (d : Int) (l : List Int) : Int := l.foldl max (l.headD d)

/-- The last X of a curve, as which a failed sensor reads (R558). -/
def lastX (s : State) (index : Nat) : Int := ((curvePoints (tableOf s index)).getLast?.map (·.1)).getD 0

/-- A curve's fraction at a temperature, with a failed sensor among those it looks at. -/
def fraction (s : State) (index : Nat) (failed : Bool) (x : Int) : Nat :=
  (curveAt (curvePoints (tableOf s index)) (if failed then max x (lastX s index) else x)).toNat

/-- Package power in W: the sum of the averaged rail monitors (R560). -/
def packagePower (rails : List Nat) : Nat := rails.foldl (· + ·) 0 / 1000

/-- f_p after a sample (R560). -/
def nextFp (s : State) (rails : List Nat) : Nat :=
  let r := tableRow s 0x5083 0
  let limit := field r 15 0
  let p := packagePower rails
  if limit < p then max (field r 51 42) (s.pkg.fp * limit / p)
  else if p * 100 < limit * 95 then min 1000 (s.pkg.fp + field r 41 32)
  else s.pkg.fp

/-- Some sensor of a range of dies has failed. -/
def sensorDown (s : State) (lo hi : Nat) : Bool := s.pkg.sensorsFailed.any fun k => lo ≤ k / 16 && k / 16 < hi

/-- Any fraction is below 1,000. -/
def slowed (p : Package) : Bool := p.fc < 1000 || p.fr < 1000 || p.fb < 1000

/-- The detail of DERATE_BEGAN. -/
def derateBits (p : Package) : Nat :=
  ofBool (decide (p.fc < 1000)) + 2 * ofBool (decide (p.fr < 1000)) + 4 * ofBool (decide (p.fb < 1000))
    + 8 * ofBool (decide (p.fp < 1000))

/-- Derating begins (R561). -/
def derateBegins (s : State) : State :=
  let s1 := s.setPkg { s.pkg with derating := true, alert := true }
  raise 0x1002 none (derateBits s.pkg) (count 0x3100 1 (emit .alert [0] [] (setIntAll 3 s1)))

/-- The fractions follow a sample, and the figures follow them (R440, R559, R560). -/
def computeFractions (s : State) : State :=
  let fp := nextFp s s.pkg.rails
  let t := fun lo n => hottest 0 ((s.pkg.temps.drop lo).take n)
  let fc := min (fraction s 0x5080 (sensorDown s 0 4) (t 0 4)) fp
  let fr := fraction s 0x5081 (sensorDown s 16 24) (t 16 8)
  let fb := fraction s 0x5082 false s.pkg.dimm
  let s1 := s.setPkg { s.pkg with fc := fc, fr := fr, fb := fb, fp := fp }
  let s2 := if fr == s.pkg.fr && fb == s.pkg.fb then s1 else recompute s1
  if slowed s2.pkg && ! s2.pkg.derating then derateBegins s2 else s2

/-- All three fractions have been 1,000 for 10 ms (R561). -/
def derateEnds (s : State) : State :=
  if ! s.pkg.derating || slowed s.pkg then s
  else
    let s1 := s.setPkg { s.pkg with derating := false, alert := false }
    raise 0x1003 none 0 (emit .alert [1] [] (setIntAll 3 s1))

/-! ### The thermal trip (R562) -/

/-- The device trips on a die (Table 16-7): everything but AON is reset, and THERMTRIP_N is low. (DEDUCED, log entry 71.) -/
def tripNow (die : Nat) (s : State) : State :=
  if inS0 s then s
  else
    let n := life s 0x0E + 1
    let s1 := resetAll (putOwn 0x1100 0x0E 0x04 (toBytes 4 n) (lifeBy 0x0E 1 s))
    let s2 := modStart (fun b => { b with stage := .tripped, phase := 0, owed := b.owed ++ [(0x1005, die)] }) s1
    emit .thermtrip [0] [] (s2.setPkg { s2.pkg with thermtrip := true })

/-- Every die sensor is at 95 °C or less after a trip: the start runs (R562), or the device is held for its reset or rails.
(DEDUCED, log entry 71.) -/
def cooled (s : State) : State :=
  let s1 := emit .thermtrip [1] [] (s.setPkg { s.pkg with thermtrip := false })
  if s.pkg.grst || ! s.pkg.railsBad.isEmpty then holdReset s1 else beginS1 5 s1

/-- The band of a temperature in TempBandHours (Table 15-12). -/
def bandOf (x : Int) : Nat :=
  if x < 450 then 0 else if x < 650 then 1 else if x < 750 then 2 else if x < 850 then 3 else if x < 950 then 4
  else if x < 1050 then 5 else if x < 1150 then 6 else 7

/-- 100 µs are counted in each die's band, and a thermal cycle where the hottest die has come from below 40 °C to above
80 °C (R542). -/
def countBands (s : State) : State :=
  let s1 := s.pkg.temps.zipIdx.foldl (fun u q => lifeBy (256 + 8 * q.2 + bandOf q.1) 100 u) s
  let h := hottest 0 s.pkg.temps
  if h < 400 then s1.setPkg { s1.pkg with cool := true }
  else if 800 < h && s1.pkg.cool then lifeBy 2 1 (s1.setPkg { s1.pkg with cool := false })
  else s1

/-- The first die sensor at or above a limit, of the dies CD0 to IOD3. -/
def dieAbove (s : State) (limit : Int) : Option Nat := (s.pkg.temps.take 16).findIdx? fun t => limit ≤ t

/-- A sample of every die sensor (R558 to R562): the AON island takes it from S1 on, and through S0 after a trip. -/
def thermalSample (temps : List Int) (dimm : Int) (rails : List Nat) (s : State) : State :=
  match s.start.stage with
  | .off | .held | .retry => s
  | _ =>
    let s1 := countBands (s.setPkg { s.pkg with temps := temps.take 24, dimm := dimm, rails := rails.take 11 })
    if s.start.stage == .tripped then (if (dieAbove s1 951).isNone then cooled s1 else s1)
    else match dieAbove s1 1150 with
      | some d => tripNow d s1
      | none => if isLit s1 then computeFractions s1 else s1

/-- Sensors of a die (R558). -/
def sensorsOf (die : Nat) : Nat := if die < 4 then 9 else if die < 16 then 2 else 1

/-- A sensor has given no valid reading for 1 ms (R558). -/
def sensorLost (die sensor : Nat) (s : State) : State :=
  let k := die * 16 + sensor
  match s.start.stage with
  | .off | .held | .retry => s
  | _ =>
    if sensorsOf die ≤ sensor || s.pkg.sensorsFailed.contains k then s
    else raise 0x1006 none (die + 256 * sensor) (s.setPkg { s.pkg with sensorsFailed := setInsert k s.pkg.sensorsFailed })

/-! ### JTAG (R563) -/

/-- IDCODE: the mandatory 1, the vendor's code, 0x9040 and the silicon revision. -/
def idcode : Nat := 1 + put Config.jep106 11 1 + put 0x9040 16 12 + put Config.siliconRev 4 28

/-- A TAP instruction. Those that drive pins act as BYPASS while GRST# is high, and private ones while debug is not unlocked
(R486, R488). -/
def tapInstruction (ir : JtagInstr) (s : State) : State :=
  if s.start.stage == .off || s.pkg.railsBad.contains 1 then s
  else
    let now := match ir with
      | .extest | .clamp | .highz => if s.pkg.grst then ir else .bypass
      | .privateInstr _ => if s.sec.debug == 1 then ir else .bypass
      | _ => ir
    let s1 := s.setPkg { s.pkg with jtag := now }
    match now with
    | .bypass | .clamp | .highz => emit .tdo [0] [] s1
    | .idcode => emit .tdo [idcode] [] s1
    | .samplePreload | .extest => emit .tdo [freeValue s1] [] (used s1)
    | .privateInstr c => emit .tdo [Config.debugResponse c] [] s1

end Sys2Proof.Machine
end

