-- ==== Sys2Proof/Machine/ReadOps.lean ====
section
/-! DEFINITION. What a READ of each object gives: on a road acting for the fabric manager, and on one acting for a
partition (R484). -/

namespace Sys2Proof.Machine

open Sys2Proof

/-! ### Roads -/

/-- A road's number in outputs and under which it keeps its selectors. -/
def roadCode : Road → Nat
  | .i3c => 0
  | .pf0 p => 1 + p.val
  | .window p => 5 + p.val
  | .ld p n => 16 + 16 * p.val + n.val

/-- The partition that a road acts for, none for the fabric manager (Table 15-1). -/
def roadPart (s : State) : Road → Option Nat
  | .ld p n => ldPart s p.val n.val
  | _ => none

/-- True of a road that acts for the fabric manager. -/
def roadFm : Road → Bool
  | .ld _ _ => false
  | _ => true

/-- A road's own copy of a Diag selector (R526). What it selects reads 0 in every field that has not been written.
(DESIGN CHOICE, log entry 98.) -/
def diagOf (s : State) (road : Road) (index sub : Nat) : Nat :=
  MapOps.getD (roadCode road * 2 ^ 24 + index * 256 + sub) 0 s.od.diag

/-- True of the Diag selectors. -/
def isDiag (index sub : Nat) : Bool :=
  [0x220010, 0x220012, 0x230010, 0x230011, 0x240010, 0x240012, 0x250010, 0x260010, 0x260011, 0x270013, 0x280012, 0x2A0010
  , 0x2A0012].contains (index * 256 + sub)

/-! ### Snapshots of structures -/

/-- One byte a number. -/
def bytesOf (l : List Nat) : List Byte := l.map (BitVec.ofNat 8 ·)

/-- A sheet descriptor (Table 4-3). -/
def sheetBytes (b : Bank) : List Byte :=
  toBytes 32 (ofBool (b.state != 0) + put b.state 3 1 + put b.owner 6 4 + put (ofBool b.wide) 1 10 + put b.size 2 11
    + put b.gen 10 16 + put b.entries.length 13 32 + put (ofBool b.persisted) 1 48 + put b.stored 48 64 + put b.builtAt 48 128
    + put b.sampled 32 176)

/-- The digest of a bank's entries; zeros if FREE. -/
def sheetDigest (b : Bank) : List Byte :=
  if b.state == 0 then zeros 32 else sha256 (b.entries.flatMap fun e => toBytes (if b.wide then 16 else 8) e)

/-- The byte of SheetSlotState of a slot (R183). Bit 4 reads 0 while no bank of the slot is ACTIVE. (DESIGN CHOICE, log entry 104.) -/
def slotByte (s : State) (n : Nat) : Nat :=
  let a := bankOf s (2 * n)
  let b := bankOf s (2 * n + 1)
  a.state + 4 * b.state + 16 * ofBool (activeBank s n == some (2 * n + 1)) + 32 * ofBool (a.state != 0 || b.state != 0)

/-- The partition that owns a slot. -/
def slotOwner (s : State) (n : Nat) : Option Nat :=
  let a := bankOf s (2 * n)
  let b := bankOf s (2 * n + 1)
  if a.state != 0 then some a.owner else if b.state != 0 then some b.owner else none

/-- An event log entry (Table 15-13). -/
def eventBytes (e : Event) : List Byte :=
  toBytes 32 (put e.code 16 0 + put (e.part.getD 0xFF) 8 16 + put e.seq 32 32 + put e.calendar 48 64 + put e.detail 128 128)

/-- A light-meter sample (Table 15-15). -/
def sampleBytes (x : Sample) : List Byte :=
  toBytes 16 (put x.time 48 0 + put x.probe 8 48 + put (ofBool x.absent) 1 56 + put x.value 64 64)

/-- IslandClocks in kHz (R499): in Safelight with reason NO_REFERENCE only AON and MGMT run. (DEDUCED, log entry 56.) -/
def islandClocks (s : State) : List Nat :=
  if s.start.refInUse == 0 then [0, 0, 0, 0, 0, 0, 50000, 50000]
  else [1300000, 1200000, 1600000, s.dram.rate * 250, s.und.rate * 250, 1000000, 200000, 50000]

/-- The four bytes of PortLink of a port (Table 9-16). -/
def portLink (s : State) (p : Nat) : List Nat :=
  let x := portOf s p
  if x.up then [x.rate, x.width, ofBool x.mld + 2 * ofBool (contained s p) + 4 * ofBool x.flits, 0]
  else [0, 0, 2 * ofBool (contained s p), 0]

/-- Chunks that can be programmed without an erase, in bytes (R426). -/
def freeCapacity (s : State) : Nat :=
  let opens := s.und.superblocks.filter fun p => p.2.use == 1
  let left := opens.foldl (fun a p => a + (sbChunks s p.2 - p.2.nextChunk)) 0
  (sbFree s * sbChunks s { offline := offlineChannel s } + left) * 2048

/-- The steps that the admission points of the frames hold for a master (R437). -/
def heldSteps (s : State) (m : Nat) : Nat :=
  ((s.cmp.runs.filter fun r => 64 + r.part == m).flatMap fun r => r.seqs.zipIdx.filter fun q =>
    q.1.stalledSince.isSome && (stepAt s r q.2 q.1).any (regulated s r q.1)).length

/-- The state of a master's budgets (Table 12-5). -/
def masterBytes (s : State) (m : Nat) : List Byte :=
  ((List.range 3).flatMap fun t => toBytes 4 (budgetInForce s m t)) ++ ((List.range 3).flatMap fun t => toBytes 4 (chargeOf s m t))
    ++ toBytes 4 ((s.regul.held.filter fun q => q.1 == m).length + (((heldWork s).filter fun q => q.1 == m).length + heldSteps s m))
    ++ zeros 4

/-- The StartLog: 8 B a start, newest first. -/
def startLogBytes (s : State) : List Byte :=
  slice (s.start.log.flatMap fun e => bytesOf [e.1, e.2.1, 0, 0] ++ toBytes 4 e.2.2) 0 64 0

/-- The key under which the log of a road's role is kept (R543). -/
def logKey (part : Option Nat) : Nat := part.getD 64

/-! ### Registers in BAR0 (R338) -/

/-- A 4 B word of PF0's control block (Table 9-6). -/
def controlWord (s : State) (port offset : Nat) : Nat :=
  let p := portOf s port
  if offset == 0x00 then
    put s.start.phase 3 0 + put (ofBool (s.start.stage == .safelight)) 1 3
      + put (if s.start.stage == .safelight then s.start.reason else 0) 8 8
      + put (ofBool (contained s port)) 1 16 + put p.cause 3 17 + put (ofBool p.refused) 1 20 + put (ofBool p.mld) 1 21
  else if offset == 0x08 then p.intStatus.toNat
  else if offset == 0x0C then p.intEnable.toNat
  else if offset == 0x10 then
    ((List.range 16).filter fun n => ldFrozen s (16 * port + n)).foldl (fun a n => a + 2 ^ n) 0
      + (if contained s port then 0xFFFF * 65536 else 0)
  else 0

/-- A 4 B word of the window's registers (Table 15-5). -/
def windowWord (s : State) (port offset : Nat) : Nat :=
  let p := portOf s port
  if offset == 0x80000 then p.winOp
  else if offset == 0x80004 then p.winCtx
  else if offset == 0x80008 then p.winOffset
  else if offset == 0x80010 then put (ofBool p.winBusy) 1 0 + put (ofBool p.winOverrun) 1 1 + put p.winStatus 8 8 + put p.winLen 11 16
  else if 0x81000 ≤ offset && offset < 0x81400 then
    (List.range 4).foldl (fun a k => a + put (MapOps.getD (offset - 0x81000 + k) 0 p.winData) 8 (8 * k)) 0
  else 0

/-- LD_STATUS (Table 9-7). -/
def ldStatus (s : State) (i : Nat) : Nat :=
  let active := (s.queue.rings.filter fun q => q.1 / 64 == i && ringState s q.1 == 1).length
  put (ofBool (ldPart s (i / 16) (i % 16)).isSome) 1 0 + put (ofBool (ldFrozen s i)) 1 1
    + put (ofBool (! (ldOf s i).bme || (ldOf s i).d3)) 1 2 + put (ofBool (contained s (i / 16))) 1 3 + put active 7 8

/-- A ring block (Table 7-1). SQ_TAIL reads 0. -/
def ringBlock (s : State) (id : Nat) : Nat :=
  let r := ringOf s id
  put r.sqBase 52 0 + put r.sqLog2 5 52 + put (ofBool (r.state != 0 && ! r.disabling)) 1 57 + put r.cqBase 64 64 + put r.cqLog2 5 128
    + put r.irqMode 2 133 + put r.vector 11 135 + put r.irqDelay 8 146 + put r.cqHead 16 224 + put r.sqHead 16 256 + put r.cqTail 16 288
    + put (ringState s id) 2 320 + put r.fault 8 328 + put r.inFlight 16 336

/-- A 4 B word of an HDM decoder's registers: base, size, control and DPA skip. (PRESUMED, log entry 109.) -/
def decoderWord (l : Ld) (n word : Nat) : Nat :=
  match MapOps.get? n l.decoders with
  | none => if word == 4 then put (ofBool (l.notCommitted.contains n)) 1 11 else 0
  | some d =>
    if word < 2 then d.base / 2 ^ (32 * word) % 2 ^ 32
    else if word < 4 then d.size / 2 ^ (32 * (word - 2)) % 2 ^ 32
    else if word == 4 then put (d.grain - 8) 4 0 + put d.ways 4 4 + put (ofBool d.locked) 1 8 + put 3 2 9
    else if word == 5 then d.skip % 2 ^ 32 else if word == 6 then d.skip / 2 ^ 32 % 2 ^ 32 else 0

/-- A 4 B word of a function's CXL component registers: the capability headers, and the RAS, Link and HDM Decoder capabilities
(Table 9-5). Errors of the link are never in an LD's RAS capability (R360). (PRESUMED, log entry 109.) -/
def componentWord (s : State) (f : Fn) (offset : Nat) : Nat :=
  let other := match f with | .pf0 _ => 0x0004 | .ld _ _ => 0x0005
  if offset == 0x00 then 0x0001 + put 1 4 16 + put 1 4 20 + put 2 8 24
  else if offset == 0x04 then 0x0002 + put 2 4 16 + put 0x100 12 20
  else if offset == 0x08 then other + put 2 4 16 + put 0x200 12 20
  else match f with
  | .pf0 p => if offset == 0x100 then (portOf s p.val).ras else 0
  | .ld p n =>
    if offset == 0x200 then 2 + put 1 1 8 + put 1 1 9 + put 1 1 12
    else if offset == 0x204 then 2
    else if 0x210 ≤ offset && offset < 0x290 then
      decoderWord (ldOf s (16 * p.val + n.val)) ((offset - 0x210) / 32) ((offset - 0x210) % 32 / 4)
    else 0

/-- A 4 B word of a function's CXL device registers: the capability headers, Device Status, the primary mailbox and an LD's Memory Device
Status (Table 9-5). (PRESUMED, log entry 109.) -/
def deviceRegWord (s : State) (f : Fn) (offset : Nat) : Nat :=
  let m := MapOps.getD (fnCode f) {} s.link.mailboxes
  let onLd := match f with | .pf0 _ => false | .ld _ _ => true
  if offset == 0x00 then put 1 8 16
  else if offset == 0x04 then 2 + ofBool onLd
  else if offset == 0x10 then 0x0001 + put 1 8 16
  else if offset == 0x14 then 0x80
  else if offset == 0x18 then 8
  else if offset == 0x20 then 0x0002 + put 1 8 16
  else if offset == 0x24 then 0x7E0
  else if offset == 0x28 then 0x820
  else if onLd && offset == 0x30 then 0x4000 + put 1 8 16
  else if onLd && offset == 0x34 then 0x88
  else if onLd && offset == 0x38 then 8
  else if onLd && offset == 0x88 then put 1 2 2 + put 1 1 4
  else if offset == 0x7E0 then 11
  else if offset == 0x7E8 then m.op + put m.payload.length 16 16
  else if offset == 0x7EC then m.payload.length / 2 ^ 16 % 32
  else if offset == 0x7F4 then m.code
  else if 0x800 ≤ offset && offset < 0x1000 then ofBytes (slice m.payload (offset - 0x800) 4 0)
  else 0

/-- What a 4 B read of a function's BAR0 gives, where Table 9-5 names the block; 0 outside. -/
def readWord (s : State) (f : Fn) (offset : Nat) : Nat :=
  match f with
  | .pf0 p =>
    if offset < 0x100 then controlWord s p.val offset
    else if 0x1000 ≤ offset && offset < 0x2000 then componentWord s f (offset - 0x1000)
    else if 0x10000 ≤ offset && offset < 0x11000 then deviceRegWord s f (offset - 0x10000)
    else windowWord s p.val offset
  | .ld p n =>
    let i := 16 * p.val + n.val
    if offset < 0x1000 then componentWord s f offset
    else if offset < 0x2000 then deviceRegWord s f (offset - 0x1000)
    else if offset == 0x2000 then ldStatus s i
    else if 0x8000 ≤ offset && offset < 0x9000 then
      ringBlock s (i * 64 + (offset - 0x8000) / 64) / 2 ^ (offset % 64 * 8) % 2 ^ 32
    else if 0x10000 ≤ offset && offset < 0x18000 then
      let e := MapOps.getD ((offset - 0x10000) / 16) (0, 0, true) (ldOf s i).msixTable
      (e.1 + put e.2.1 32 64 + put (ofBool e.2.2) 1 96) / 2 ^ (offset % 16 * 8) % 2 ^ 32
    else if 0x18000 ≤ offset && offset < 0x18100 then
      ((ldOf s i).pba.filter fun v => v / 32 == (offset - 0x18000) / 4).foldl (fun a v => a + 2 ^ (v % 32)) 0
    else 0

/-! ### Values on a road acting for the fabric manager -/

/-- Objects of the chapters on identity, lifetime, calendar, start-up and clocks. (DEDUCED, log entry 56.) -/
def valueA (s : State) (c : Nat) : Option (List Byte) :=
  if c == 0x100001 then some (toBytes 2 Config.vendorId)
  else if c == 0x100005 then some (toBytes 16 (deviceId s))
  else if c == 0x100006 then some (toBytes 2 (siliconRev s))
  else if c == 0x100008 then some (slice s.sec.version 0 32 0)
  else if c == 0x110003 then some (bandBytes s)
  else if c == 0x110007 then some (toBytes 2 (treesGone s))
  else if c == 0x110008 then some (toBytes 8 (signaturesLeft s))
  else if c == 0x110009 then some (toBytes 8 (2 ^ 30 - signaturesLeft s))
  else if c / 256 == 0x1100 then
    (lifeList.find? fun q => q.1 == c % 256).map fun q => toBytes q.2.2.1 (life s q.1 / q.2.2.2)
  else if c == 0x120001 then some (toBytes 8 (s.time.calUs / 1000000))
  else if c == 0x120002 then some (toBytes 2 (calMs s % 1000))
  else if c == 0x120003 then some [BitVec.ofNat 8 (ofBool s.time.set_)]
  else if c == 0x120004 then some (toBytes 4 (ofInt 32 s.time.lastStep))
  else if c == 0x120005 then some (toBytes 8 (calMs s))
  else if c == 0x180001 then some [BitVec.ofNat 8 s.start.phase]
  else if c == 0x180002 then some [BitVec.ofNat 8 (ofBool (s.start.stage == .safelight))]
  else if c == 0x180003 then some [BitVec.ofNat 8 s.start.reason]
  else if c == 0x180005 then some [BitVec.ofNat 8 s.start.failures]
  else if c == 0x180006 then some [BitVec.ofNat 8 s.start.lastFail]
  else if c == 0x180007 then some [BitVec.ofNat 8 s.start.strap.toNat]
  else if c == 0x180008 then some (toBytes 4 s.start.startMs)
  else if c == 0x180009 then some (startLogBytes s)
  else if c == 0x18000C then some [BitVec.ofNat 8 s.start.cause]
  else if c == 0x200002 then some [BitVec.ofNat 8 s.start.refInUse]
  else if c == 0x200003 then some [BitVec.ofNat 8 (s.start.rclkPort.getD 0xFF)]
  else if c == 0x200004 then some (toBytes 4 (ofInt 32 s.start.rclkPpm))
  else if c == 0x200005 then some ((islandClocks s).flatMap (toBytes 4))
  else if c == 0x200006 then some [BitVec.ofNat 8 (ofBool s.start.losc)]
  else if c == 0x201001 then some (toBytes 8 s.start.frameEnable.toNat)
  else if c == 0x201002 then some (toBytes 8 s.start.frameOpen.toNat)
  else if c == 0x201101 then some (toBytes 2 s.start.ddrEnable.toNat)
  else if c == 0x201102 then some (toBytes 2 s.start.onfiEnable.toNat)
  else if c == 0x201103 then some (toBytes 1 s.start.hbmEnable.toNat)
  else none

/-- Objects of the chapters on partitions, tiers, the codec, sessions and regulation, as a diagnostic read sees them (R312). -/
def valueB (s0 : State) (road : Road) (c : Nat) : Option (List Byte) :=
  let s := commitView s0
  if c == 0x210003 then some (toBytes 2 s.share.expos.length)
  else if c == 0x210004 then some (toBytes 2 s.share.claims.length)
  else if c == 0x210006 then some (toBytes 2 (sharesPending s))
  else if c == 0x220008 then some (toBytes 2 ((List.range 16).foldl (fun a n => a + ofBool (channelInUse s n) * 2 ^ n) 0))
  else if c == 0x220009 then some (toBytes 1 s.tier.k)
  else if c == 0x22000A then some (toBytes 1 ((List.range 8).foldl (fun a m => a + ofBool (stackInUse s m) * 2 ^ m) 0))
  else if c == 0x22000B then some (toBytes 4 s.tier.mapEntries)
  else if c == 0x22000C then some (toBytes 4 ((List.range 8).foldl (fun a m => a + freeSlots s .ridge m) 0))
  else if c == 0x22000D then some (toBytes 4 (s.tier.dirMds.foldl (fun a m => a + freeHomesOf s m) 0))
  else if c == 0x220011 then some (toBytes 8 (entryWord (entryOf s (diagOf s road 0x2200 0x10))))
  else if c == 0x220013 then
    let ext := diagOf s road 0x2200 0x10
    let key := tileKey ext (diagOf s road 0x2200 0x12)
    some (if kindOf s ext == 1 || kindOf s ext == 3 then tdeBytes key (tdeOf s key) else zeros 64)
  else if c == 0x230002 then some (bytesOf ((List.range 64).map (slotByte s)))
  else if c == 0x230004 then
    some (toBytes 16 ((List.range 8).foldl (fun a m => (encodersOf s m).foldl (fun b e => b + 2 ^ (16 * m + e)) a) 0))
  else if c == 0x230012 then some (sheetBytes (bankOf s (2 * diagOf s road 0x2300 0x10 + diagOf s road 0x2300 0x11)))
  else if c == 0x230013 then some (sheetDigest (bankOf s (2 * diagOf s road 0x2300 0x10 + diagOf s road 0x2300 0x11)))
  else if c == 0x240007 then some (toBytes 4 s.sess.recs.length)
  else if c == 0x240008 then some (toBytes 2 s.sess.prefixes.length)
  else if c == 0x240009 then some (toBytes 4 (recordsLost s))
  else if c == 0x240011 then
    some (match MapOps.get? (diagOf s road 0x2400 0x10) s.sess.recs with | some r => sessBytes r | none => zeros 128)
  else if c == 0x240013 then
    some (match MapOps.get? (diagOf s road 0x2400 0x12) s.sess.prefixes with | some e => pfxBytes e | none => zeros 32)
  else if c == 0x250009 then some (s.regul.figures.flatMap (toBytes 4))
  else if c == 0x25000A then
    some (((List.range 3).flatMap fun t =>
      toBytes 2 (match MapOps.get? t s.regul.scaled with | some q => 1000 * q.1 / max 1 q.2 | none => 1000)) ++ zeros 2)
  else if c == 0x25000B then some (toBytes 1 (s.regul.congested.foldl (fun a t => a + 2 ^ t) 0))
  else if c == 0x250011 then some (masterBytes s (diagOf s road 0x2500 0x10))
  else none

/-- Objects of the chapters on DRAM, Underlay, security, the endpoint and programs. -/
def valueC (s : State) (road : Road) (c : Nat) : Option (List Byte) :=
  if c == 0x260002 then some (toBytes 2 s.dram.rate)
  else if c == 0x26000A then some (bytesOf ((List.range 16).map fun n => (ctlOf s n).state))
  else if c == 0x26000B then some (bytesOf ((List.range 8).map fun m => (ctlOf s (16 + m)).state))
  else if c == 0x26000C then some (toBytes 4 s.dram.grain)
  else if c == 0x26000E then some (toBytes 1 s.dram.reserveScrub)
  else if c == 0x26000F then some (toBytes 1 s.dram.mode)
  else if c == 0x260012 then
    let n := diagOf s road 0x2600 0x10
    let d := diagOf s road 0x2600 0x11
    some (if (ctlOf s n).fitted ≤ d then zeros 1024
      else slice (Config.spd n d) 0 1024 0)
  else if c == 0x270001 then some (toBytes 1 s.und.state)
  else if c == 0x270002 then some (bytesOf ((List.range 16).map fun n => MapOps.getD n 0 s.und.channels))
  else if c == 0x270003 then some (toBytes 2 s.und.rate)
  else if c == 0x270004 then
    some (bytesOf [s.und.ces, s.und.luns, s.und.planes, unitsUsed s, unitGroups s] ++ toBytes 2 s.und.pages ++ toBytes 4 s.und.blocks
      ++ zeros 5)
  else if c == 0x270005 then some (toBytes 8 (rawCapacity s))
  else if c == 0x270006 then some (toBytes 8 (usableCapacity s))
  else if c == 0x270007 then some (toBytes 8 (freeCapacity s))
  else if c == 0x270008 then some (toBytes 4 (sbFree s))
  else if c == 0x27000F then some (toBytes 8 (retention s))
  else if c == 0x270014 then
    some (match MapOps.get? (diagOf s road 0x2700 0x13) s.und.eprs with | some e => eprBytes e | none => zeros 128)
  else if c == 0x280001 then some (deviceKey s)
  else if c == 0x280002 then some (authorityKey s)
  else if c == 0x280003 then some (toBytes 1 (svnFloor s))
  else if c == 0x280004 then some (toBytes 4 s.sec.svn)
  else if c == 0x280005 then some (toBytes 1 (s.sec.slot.getD 0))
  else if c == 0x280008 then some (slice s.sec.digest 0 32 0)
  else if c == 0x280009 then some (toBytes 2 (treesGone s))
  else if c == 0x28000A then some (toBytes 4 s.sec.q)
  else if c == 0x28000B then some (toBytes 8 (signaturesLeft s))
  else if c == 0x28000E then some (toBytes 1 s.sec.debug)
  else if c == 0x280010 then some (toBytes 1 (s.sec.sessions.filter (·.2.established)).length)
  else if c == 0x280013 then some (toBytes 16 (keyMeta s (diagOf s road 0x2800 0x12)))
  else if c == 0x290007 then some (bytesOf ((List.range 4).flatMap (portLink s)))
  else if c == 0x2A0004 then some (toBytes 2 (s.cmp.registry.filter (·.1 < 65536)).length)
  else if c == 0x2A0005 then some (toBytes 2 (s.cmp.registry.filter fun p => decide (65536 ≤ p.1)).length)
  else if c == 0x2A0006 then some (toBytes 1 (s.cmp.runs.filter fun r => r.granted && ! r.appending).length)
  else if c == 0x2A0007 then some (toBytes 4 (s.cmp.runs.filter fun r => ! r.granted).length)
  else if c == 0x2A0011 then
    some (match MapOps.get? (diagOf s road 0x2A00 0x10) s.cmp.registry with | some e => regBytesOf e | none => zeros 64)
  else if c == 0x2A0013 then
    some (match MapOps.get? (65536 + diagOf s road 0x2A00 0x12) s.cmp.registry with | some e => regBytesOf e | none => zeros 64)
  else none

/-- Counters, sensors, the light meter, and the debug objects. -/
def valueD (s : State) (c : Nat) : Option (List Byte) :=
  let index := c / 256
  let sub := c % 256
  if index == 0x3101 then some (toBytes 4 (ofInt 32 (s.pkg.temps.getD (sub - 1) 0)))
  else if index == 0x3102 then some (toBytes 4 (s.pkg.rails.getD (sub - 1) 0))
  else if c == 0x310301 then some (toBytes 4 (packagePower s.pkg.rails))
  else if c == 0x310302 then some ([s.pkg.fc, s.pkg.fr, s.pkg.fb, s.pkg.fp].flatMap (toBytes 2))
  else if 0x3000 ≤ index && index ≤ 0x37FF then some (toBytes 8 (counter s index sub))
  else if c == 0x380004 then some (toBytes 2 s.logs.lmFill.length)
  else if c == 0x380006 then some (toBytes 2 s.logs.lmDrain.length)
  else if c == 0x380007 then some (toBytes 8 s.logs.lmLost)
  else if c == 0x380010 then some (slice (s.logs.lmDrain.flatMap sampleBytes) 0 65536 0)
  else if c == 0x600001 then some (slice (s.sec.challenge.getD []) 0 32 0)
  else none

/-- An object of the event log of a role (Table 15-14). -/
def logValue (s : State) (part : Option Nat) (sub : Nat) : Option (List Byte) :=
  let l := logOf s (logKey part)
  if sub == 1 then some (toBytes 2 l.fill.length)
  else if sub == 3 then some (toBytes 2 l.drain.length)
  else if sub == 4 then some (toBytes 8 l.lost)
  else if sub == 0x10 then some (slice (l.drain.flatMap eventBytes) 0 32768 0)
  else none

/-- The first answer among several. -/
def firstSome (l : List (Option (List Byte))) : Option (List Byte) := (l.find? (·.isSome)).join

/-- An object's value as the fabric manager reads it; the set of 0x2A10 is that of the partition in CONTEXT (R522). -/
def fmValue (s : State) (road : Road) (o : OdObj) (index sub ctx : Nat) : List Byte :=
  let c := index * 256 + sub
  if o.type == 0x12 then tableBytes (tableOf (commitView s) index) none
  else if index == 0x2A10 then toBytes o.size (if ctx < 64 then regObj s ctx sub o.dflt else 0)
  else if isDiag index sub then toBytes o.size (diagOf s road index sub)
  else if index == 0x3900 then (logValue s none sub).getD (zeros o.size)
  else (firstSome [valueA s c, valueB s road c, valueC s road c, valueD s c]).getD (toBytes o.size (scalar s index sub o.dflt))

/-! ### Values on a partition's road (R484) -/

/-- True of a counter that has one subindex for each partition. -/
def perPart (o : OdObj) : Bool := decide (0x3000 ≤ o.index) && decide (o.index ≤ 0x37FF) && o.sub == 1 && o.subTo == 0x40

/-- The objects of the dictionary that a partition's road reads as they are. -/
def partReads (index sub : Nat) : Bool :=
  index == 0x1000 || index == 0x1200 || index == 0x1800 || (index == 0x2800 && [1, 4, 8, 0xB, 0xE].contains sub)

/-- The selectors that a partition's road writes (Table 13-12). (DEDUCED, log entry 56.) -/
def partDiag (index sub : Nat) : Bool :=
  isDiag index sub && [0x2200, 0x2300, 0x2400, 0x2800, 0x2A00].contains index

/-- The owner of what a snapshot object shows, on a road. -/
def snapOwner (s : State) (road : Road) (c : Nat) : Option Nat :=
  if c == 0x220013 then some (entryOf s (diagOf s road 0x2200 0x10)).part
  else if c == 0x230012 || c == 0x230013 then
    let b := bankOf s (2 * diagOf s road 0x2300 0x10 + diagOf s road 0x2300 0x11)
    if b.state == 0 then none else some b.owner
  else if c == 0x240011 then (MapOps.get? (diagOf s road 0x2400 0x10) s.sess.recs).map (·.part)
  else if c == 0x240013 then (MapOps.get? (diagOf s road 0x2400 0x12) s.sess.prefixes).map (·.part)
  else if c == 0x280013 then some (diagOf s road 0x2800 0x12 / 64)
  else if c == 0x2A0011 then (MapOps.get? (diagOf s road 0x2A00 0x10) s.cmp.registry).map (·.part)
  else if c == 0x2A0013 then (MapOps.get? (65536 + diagOf s road 0x2A00 0x12) s.cmp.registry).map (·.part)
  else none

/-- An object's value as a partition reads it (Table 13-12). -/
def partValue (s : State) (road : Road) (p : Nat) (o : OdObj) (index sub : Nat) : List Byte :=
  let c := index * 256 + sub
  if o.type == 0x12 then
    (if (tableOf s index).ownerBit == 65535 then zeros o.size else tableBytes (tableOf s index) (some p))
  else if index == 0x2A10 then toBytes o.size (regObj s p sub o.dflt)
  else if index == 0x3900 then (logValue s (some p) sub).getD (zeros o.size)
  else if perPart o then (if sub == p + 1 then toBytes 8 (counter s index sub) else zeros 8)
  else if partReads index sub then fmValue s road o index sub 0
  else if partDiag index sub then toBytes o.size (diagOf s road index sub)
  else if c == 0x230002 then
    bytesOf ((List.range 64).map fun n => if slotOwner s n == some p then slotByte s n else 0)
  else if snapOwner s road c == some p then fmValue s road o index sub 0
  else zeros o.size

/-- An object's value as a road's role reads it. -/
def readValue (s : State) (road : Road) (o : OdObj) (index sub ctx : Nat) : List Byte :=
  if roadFm road then fmValue s road o index sub ctx
  else match roadPart s road with | some p => partValue s road p o index sub | none => zeros o.size

end Sys2Proof.Machine
end

