-- ==== Sys2Proof/Machine/OdOps.lean ====
section
/-! DEFINITION. Messages of the object dictionary: READ, WRITE, DESCRIBE and block transfers, with persistence
(chapter 15). Every road carries the same messages, and each is served whole (R524). -/

namespace Sys2Proof.Machine

open Sys2Proof

/-! ### Roads and responses -/

/-- A road takes messages now: I3C from S1 on, the others while their function is presented and served (R509, Table 14-10). -/
def roadOpen (s : State) (road : Road) : Bool :=
  let withRef := isLit s || (s.start.stage == .safelight && s.start.reason != 1)
  match road with
  | .i3c => ! [Stage.off, Stage.held, Stage.tripped].contains s.start.stage
  | .pf0 p => withRef && presented s (.pf0 p)
  | .window p => withRef && presented s (.pf0 p)
  | .ld p n => withRef && presented s (.ld p n)

/-- The window's registers of a port, where the road is a window. -/
def modWindow (road : Road) (f : Port → Port) (s : State) : State :=
  match road with
  | .window p => modPort p.val f s
  | _ => s

/-- An OD message on an MCTP road (R523, Table 15-2): message type, VendorId, most significant byte first, command set, header and data.
(PRESUMED, log entry 128.) -/
def odMessage (op tag index sub context status xfer offset : Nat) (data : List Byte) : List Byte :=
  [0x7E] ++ (toBytes 2 Config.vendorId).reverse ++ [0x0D]
    ++ toBytes 12 (put op 8 0 + put tag 8 8 + put index 16 16 + put sub 8 32 + put context 8 40 + put status 8 48 + put xfer 8 56
        + put offset 32 64)
    ++ data

/-- The one response to a request (R523, R524): on an MCTP road a message, on I3C with an in-band interrupt, in a window its registers. -/
def odRespond (road : Road) (op tag index sub status xfer offset : Nat) (data : List Byte) (s : State) : State :=
  let bytes := match road with
    | .window _ => data
    | _ => odMessage (op + 0x80) tag index sub (Config.odContext (counter s 0x30F0 1)) status xfer offset data
  let s1 := count 0x30F0 1 (emit .odResponse [roadCode road, op + 0x80, tag, index, sub, status, xfer, offset] bytes s)
  let s2 := if status == 0 then s1 else count 0x30F0 2 s1
  let s3 := modWindow road (fun p => { p with
    winBusy := false, winStatus := status, winLen := data.length
    winData := (overlay ((List.range 1024).map fun i => MapOps.getD i 0 p.winData) 0 (data.map (·.toNat))).zipIdx.foldl
      (fun m q => MapOps.put q.2 0 q.1 m) [] }) s2
  if road == .i3c then emit .ibi [0xAE] [] s3 else s3

/-- The SPDM place whose sessions a road carries (R467, R521). -/
def roadPlace : Road → Option SpdmAt
  | .i3c => some .i3c
  | .pf0 p => some (.doe (.pf0 p))
  | .ld p n => some (.doe (.ld p n))
  | .window _ => none

/-- A secured session is established where a road ends. -/
def roadSecured (s : State) (road : Road) : Bool :=
  match roadPlace road with
  | some a => s.sec.sessions.any fun q => q.2.at_ == a && q.2.established
  | none => false

/-- A request of this road waits for its response: a flash program or an image verification runs for it (R524). -/
def roadBusy (s : State) (road : Road) : Bool :=
  (s.od.persisting.any fun j => j.answers && j.road == road) || s.od.xfers.any fun x => x.2.road == road && x.2.verifying.isSome

/-- The status with which a road without a role is answered: an unbound LD's (R520). -/
def roleless (s : State) (road : Road) : Bool := ! roadFm road && (roadPart s road).isNone

/-! ### Persistence (R529, R530) -/

/-- The current records may hold one more: 60 KiB at most. -/
def recordFits (s : State) (r : PersistRec) : Bool := decide (storeSize (withRec (currentRecs s.flash.store) r) ≤ 61440)

/-- The objects whose written values are persisted: RWP, and the RWS objects that say so (R489). -/
def persisted (o : OdObj) (index sub : Nat) : Bool :=
  o.access == 3 || (index == 0x2800 && [6, 0xC, 0x11].contains sub)

/-- A value that has taken effect is programmed; the response follows (R530). -/
def persist (road : Road) (op tag index sub xfer : Nat) (answers : Bool) (r : PersistRec) (s : State) : State :=
  s.setOd { s.od with persisting := s.od.persisting ++ [
    { road := road, op := op, tag := tag, index := index, sub := sub, xfer := xfer, answers := answers, rec_ := r }] }

/-! ### READ (R525) -/

/-- The drain objects, which are read directly. -/
def isDrain (index sub : Nat) : Bool := (index == 0x3900 || index == 0x3800) && sub == 0x10

/-- Drops the snapshot that a road holds. -/
def dropSnapshot (road : Road) (s : State) : State :=
  s.setOd { s.od with snapshots := s.od.snapshots.filter fun q => q.road != road }

/-- What a READ of a present object gives: a status, its data, and the state. (DEDUCED, log entry 55.) The bits of LmProbes without a
meaning read as they were written. (DESIGN CHOICE, log entry 97.) -/
def readObject (road : Road) (o : OdObj) (index sub ctx offset length : Nat) (s : State) : Nat × List Byte × State :=
  if o.access == 4 then (2, [], s)
  else if length == 0 || 1024 < length then (6, [], s)
  else if o.type < 0x10 then
    if offset == 0 then (0, readValue s road o index sub ctx, s) else (9, [], s)
  else if o.size ≤ 1024 || isDrain index sub then
    if offset + length ≤ o.size then (0, slice (readValue s road o index sub ctx) offset length 0, s) else (9, [], s)
  else if offset == 0 then
    if o.size < length then (9, [], s)
    else if 262144 < o.size then (3, [], s)
    else if 8 ≤ s.od.snapshots.length then (5, [], s)
    else
      let v := readValue s road o index sub ctx
      (0, slice v 0 length 0, s.setOd { s.od with snapshots := s.od.snapshots ++ [⟨road, index, sub, v⟩] })
  else match s.od.snapshots.find? fun q => q.road == road && q.index == index && q.sub == sub with
    | none => (9, [], s)
    | some q => if offset + length ≤ q.bytes.length then (0, slice q.bytes offset length 0, s) else (9, [], s)

/-- A READ. (DEDUCED, log entry 55.) -/
def odRead (road : Road) (tag index sub ctx offset length : Nat) (s : State) : State :=
  let s0 := if offset == 0 then dropSnapshot road s else s
  let r := if roleless s0 road then (2, [], s0)
    else match present s0 index sub with
      | .error e => (e, [], s0)
      | .ok o => readObject road o index sub ctx offset length s0
  odRespond road 1 tag index sub r.1 0 offset r.2.1 r.2.2

/-! ### DESCRIBE (R569) -/

/-- Every object's number, index × 256 + subindex, that a listing or a table gives. -/
def allObjects (s : State) : List Nat :=
  (odTable.flatMap fun o => (List.range (o.subTo - o.sub + 1)).map fun i => o.index * 256 + o.sub + i)
    ++ (tableIndices s).map (· * 256)

/-- An object is present. -/
def isPresent (s : State) (index sub : Nat) : Bool :=
  match present s index sub with | .ok _ => true | .error _ => false

/-- The present object that follows, 0xFFFFFF after the last. -/
def nextObject (s : State) (index sub : Nat) : Nat :=
  let c := index * 256 + sub
  (allObjects s).foldl (fun a x => if c < x && x < a && isPresent s (x / 256) (x % 256) then x else a) 0xFFFFFF

/-- The flags of DESCRIBE: persisted, and one for each partition. -/
def odFlags (o : OdObj) (index sub : Nat) : Nat :=
  ofBool (persisted o index sub || (index == 0x1100 && (sub == 3 || lifeList.any fun q => q.1 == sub)) || (index == 0x1800 && sub == 5))
    + 2 * ofBool (index == 0x2A10)

/-- A DESCRIBE. -/
def odDescribe (road : Road) (tag index sub : Nat) (s : State) : State :=
  if roleless s road then odRespond road 3 tag index sub 2 0 0 [] s
  else match present s index sub with
    | .error e => odRespond road 3 tag index sub e 0 0 [] s
    | .ok o =>
      let n := nextObject s index sub
      odRespond road 3 tag index sub 0 0 0
        (bytesOf [o.type, o.access, odFlags o index sub, 0] ++ toBytes 4 o.size ++ toBytes 2 (n / 256) ++ bytesOf [n % 256, 0, 0, 0]) s

/-! ### WRITE (R527) -/

/-- A write of CalendarSeconds (R110, R111): no session's age changes, and the retention clock never runs back (R418). -/
def setCalendar (v : Nat) (s : State) : State :=
  let new := v * 1000000
  let step : Int := (v * 1000 : Nat) - (calMs s : Nat)
  let later := fun (t : Nat) => (((t : Int) + step) % (2 ^ 48 : Nat)).toNat
  let secs := Int.tdiv step 1000
  let held := retention s
  let s1 := s.setTime { s.time with calUs := new, set_ := true, lastStep := max (-2147483647) (min 2147483647 secs) }
  let s2 := s1.setSess { s1.sess with
    recs := s1.sess.recs.map fun p => (p.1, { p.2 with lastTouch := later p.2.lastTouch, stateSince := later p.2.stateSince })
    prefixes := s1.sess.prefixes.map fun p => (p.1, { p.2 with idleSince := later p.2.idleSince }) }
  let s3 := s2.setUnd { s2.und with clock := max s2.und.clock held }
  let s4 := if 1000 ≤ step.natAbs then raise 0x0306 none 0 s3 else s3
  if v * 1000 < s4.und.h then raise 0x0B0A none 0 s4 else s4

/-- The event log of a role exchanges its banks (R545). -/
def swapLog (part : Option Nat) (s : State) : State :=
  let k := logKey part
  s.setLogs { s.logs with events := MapOps.insert k ((logOf s k).swap part (calMs s)) s.logs.events }

/-- The light meter exchanges its banks (R546). -/
def swapMeter (s : State) : State :=
  s.setLogs { s.logs with lmFill := [], lmDrain := s.logs.lmFill.reverse }

/-- A write that starts something and keeps no value, by object: the status, and the state. None for the other objects.
(DEDUCED, log entry 58.) -/
def writeAction (part : Option Nat) (index sub ctx v : Nat) (s : State) : Option (Nat × State) :=
  let c := index * 256 + sub
  if index == 0x2A10 then
    let p := part.getD ctx
    if 64 ≤ p then some (2, s)
    else if sub != 7 then some (0, setRegObj p sub v s)
    else if regStatus s p == 1 then some (3, s)
    else if v == 1 then some (0, regStart p s)
    else if v == 2 then some (0, regUndo p s)
    else some (0, regReload p s)
  else if c == 0x120001 then some (0, setCalendar v s)
  else if c == 0x18000B then some (4, s)
  else if c == 0x201001 then some (0, writeFrameEnable v s)
  else if index == 0x2011 then some (0, writeMemEnable (sub - 1) v s)
  else if c == 0x210005 then some (0, killLd v s)
  else if index == 0x2101 then some (writePart (sub - 1) v s)
  else if c == 0x26000D then
    if s.dram.reserveScrub == 1 then some (3, s) else some (0, s.setDram { s.dram with reserveScrub := 1 })
  else if c == 0x27000B then
    if v != 0x464D5431 then some (4, s)
    else if ! mayFormat s then some (3, s)
    else if s.und.state == 0 then some (0, s)
    else some (0, formatNow s)
  else if c == 0x280007 then
    if v != s.sec.svn then some (3, s) else some (0, burnSvn v (freeValue s % 2 == 0) (used s))
  else if c == 0x28000F then if v == 0x434C4F53 then some (0, burnDebug s) else some (4, s)
  else if c == 0x29000A then
    if v < 4 then some (0, quiesce v s)
    else if 0x80 ≤ v && v < 0x84 then some (0, unquiesce (v - 0x80) s)
    else some (3, s)
  else if c == 0x390002 then some (0, swapLog part s)
  else if c == 0x380005 then some (0, swapMeter s)
  else none

/-- What follows a new value of an object that keeps it. -/
def afterWrite (index sub v : Nat) (s : State) : State :=
  let c := index * 256 + sub
  if c == 0x200001 then (if v == 0 then fallback s else pumpClock s)
  else if index == 0x2500 && 5 ≤ sub && sub ≤ 8 then recompute s
  else if index == 0x2500 then judge s
  else if c == 0x270012 then gcCheck s
  else s

/-- A partition's road may write the object (R484). -/
def partWrites (index sub : Nat) : Bool := index == 0x2A10 || index == 0x3900 || partDiag index sub

/-- The access code and the role let a road write the object: 0, NO_ACCESS or NEEDS_SECURE (R521, R527). -/
def writeAllowed (s : State) (road : Road) (secured : Bool) (o : OdObj) (index sub : Nat) : Nat :=
  if ! roadFm road && ! (partWrites index sub || o.type == 0x12) then 2
  else if o.access ≤ 1 then 2
  else if o.access == 6 && s.sec.debug != 1 then 2
  else if o.access == 5 && ! secured then 7
  else 0

/-- The response to a write that is at once complete. -/
def writeAnswer (road : Road) (tag index sub status : Nat) (s : State) : State := odRespond road 2 tag index sub status 0 0 [] s

/-- A write of an allowed value to a present object. -/
def writeObject (road : Road) (tag index sub ctx : Nat) (o : OdObj) (v0 : Nat) (s : State) : State :=
  let v := unreserved index sub v0
  let st := valueStatus s o index sub v
  if st != 0 then writeAnswer road tag index sub st s
  else if index * 256 + sub == 0x18000B && v == 0x52535452 then restartNow (writeAnswer road tag index sub 0 s)
  else if isDiag index sub then
    writeAnswer road tag index sub 0 (s.setOd { s.od with
      diag := MapOps.put (roadCode road * 2 ^ 24 + index * 256 + sub) 0 v s.od.diag })
  else match writeAction (roadPart s road) index sub ctx v s with
    | some (e, t) => writeAnswer road tag index sub e t
    | none =>
      let r : PersistRec := { index := index, sub := sub, type := o.type, bytes := toBytes o.size v, seq := 0 }
      if ! persisted o index sub then writeAnswer road tag index sub 0 (afterWrite index sub v (setScalar index sub v s))
      else if scalar s index sub o.dflt == v then writeAnswer road tag index sub 0 s
      else if ! recordFits s r then writeAnswer road tag index sub 3 s
      else persist road 2 tag index sub 0 true r (afterWrite index sub v (setScalar index sub v s))

/-- A WRITE. A message that claims a secured session which does not exist fails its authentication and gets no response.
(DEDUCED, log entry 55.) -/
def odWrite (road : Road) (secured : Bool) (tag index sub ctx : Nat) (bytes : List Byte) (s : State) : State :=
  let sec := secured && roadPlace road != none
  if sec && ! roadSecured s road then modWindow road (fun p => { p with winBusy := false }) (count 0x30D0 4 s)
  else if roleless s road then writeAnswer road tag index sub 2 s
  else match present s index sub with
    | .error e => writeAnswer road tag index sub e s
    | .ok o =>
      let a := writeAllowed s road sec o index sub
      if a != 0 then writeAnswer road tag index sub a s
      else if o.type == 0x12 || 1024 < o.size || bytes.length != o.size then writeAnswer road tag index sub 6 s
      else writeObject road tag index sub ctx o (ofBytes bytes) s

/-! ### Block transfer (R531 to R534) -/

/-- The image slot that an object stands for. -/
def imageSlot (index : Nat) : Option Nat := if index == 0x1010 then some 0 else if index == 0x1011 then some 1 else none

/-- The bytes of an image slot are replaced. -/
def setSlotBytes (slot : Nat) (bs : List Byte) (s : State) : State :=
  if slot == 0 then s.setFlash { s.flash with slot0 := bs } else s.setFlash { s.flash with slot1 := bs }

/-- A transfer ends. -/
def endXfer (id : Nat) (s : State) : State := s.setOd { s.od with xfers := MapOps.erase id s.od.xfers }

/-- A transfer is kept with new contents. -/
def putXfer (id : Nat) (x : Xfer) (s : State) : State := s.setOd { s.od with xfers := MapOps.insert id x s.od.xfers }

/-- What an XFER_OPEN of a present object may meet: 0, or a status. -/
def openStatus (s : State) (road : Road) (o : OdObj) (index total : Nat) : Nat :=
  match imageSlot index with
  | some slot =>
    if ! roadFm road then 2
    else if s.sec.slot == some slot then 3
    else if total == 0 || 16777216 < total then 4
    else 0
  | none =>
    if ! roadFm road && (tableOf s index).ownerBit == 65535 then 2
    else if o.type != 0x12 then 6
    else if o.access ≤ 1 then 2
    else if total != 0 then 6
    else if 262144 < o.size then 3
    else 0

/-- XFER_OPEN (R531 to R533). Which number it gets is a free value. (DEDUCED, log entry 57.) -/
def xferOpen (road : Road) (tag index sub total : Nat) (s : State) : State :=
  let say := fun (st x : Nat) (t : State) => odRespond road 0x10 tag index sub st x 0 [] t
  if roleless s road then say 2 0 s
  else match present s index sub with
    | .error e => say e 0 s
    | .ok o =>
      let st := openStatus s road o index total
      if st != 0 then say st 0 s
      else if (s.od.xfers.any fun x => x.2.index == index || x.2.road == road) || 4 ≤ s.od.xfers.length then say 5 0 s
      else
        let id := nthFree (0 :: s.od.xfers.map (·.1)) (freeValue s % (255 - s.od.xfers.length))
        let t := tableOf s index
        let x : Xfer := { road := road, index := index, total := total, version := t.version
                          rows := if (imageSlot index).isSome then [] else t.data
                          image := [], erasing := (imageSlot index).isSome, verifying := none }
        let s1 := putXfer id x (used s)
        say 0 id (match imageSlot index with | some n => setSlotBytes n [] s1 | none => s1)

/-- Bytes laid over the staged rows of a table, from an offset behind the header. (DEDUCED, log entry 57.) -/
def stageBytes (t : TableObj) (at_ : Nat) (bs : List Byte) (rows : Map Nat) : Map Nat :=
  let first := at_ / t.rowBytes
  let last := (at_ + bs.length - 1) / t.rowBytes
  if bs.isEmpty then rows
  else (span first (last - first + 1)).foldl (fun m n =>
    let old := toBytes t.rowBytes (MapOps.getD n t.fill m)
    let lo := max at_ (n * t.rowBytes)
    let piece := (bs.drop (lo - at_)).take ((n + 1) * t.rowBytes - lo)
    MapOps.put n t.fill (ofBytes (overlay old (lo - n * t.rowBytes) piece)) m) rows

/-- Runs a message on a transfer of the road that opened it, or answers why not (R531). -/
def onXfer (road : Road) (op tag id offset : Nat) (f : Xfer → State → State) (s : State) : State :=
  if roleless s road then odRespond road op tag 0 0 2 id offset [] s
  else match MapOps.get? id s.od.xfers with
    | none => odRespond road op tag 0 0 6 id offset [] s
    | some x => if x.road != road then odRespond road op tag x.index 0 2 id offset [] s else f x s

/-- XFER_DATA (R532, R533). -/
def xferData (road : Road) (tag id offset : Nat) (bytes : List Byte) (s : State) : State :=
  onXfer road 0x11 tag id offset (fun x s =>
    let say := fun (st : Nat) (t : State) => odRespond road 0x11 tag x.index 0 st id offset [] t
    if 1024 < bytes.length then say 6 s
    else match imageSlot x.index with
      | some slot =>
        if x.erasing then say 5 s
        else if offset != x.image.length || x.total < offset + bytes.length then say 9 s
        else say 0 (setSlotBytes slot (x.image ++ bytes) (putXfer id { x with image := x.image ++ bytes } s))
      | none =>
        let t := tableOf s x.index
        if offset < 32 || tableSize t < offset + bytes.length then say 9 s
        else say 0 (putXfer id { x with rows := stageBytes t (offset - 32) bytes x.rows } s)) s

/-- What follows an accepted table: the windows of a budget table, the frames of a frame-share table. The next sample looks at the
derating tables (R559). -/
def afterTable (index : Nat) (s : State) : State :=
  if index == 0x5070 then budgetsAccepted s
  else if index == 0x5053 then placeFrames s
  else s

/-- The rows of a table are replaced at once, and VERSION advances (R533, R534). -/
def replaceRows (x : Xfer) (s : State) : Nat × State :=
  let t := tableOf s x.index
  let n := { t with data := x.rows }
  let bumped := fun (q : Nat × State) =>
    if q.1 == 0 && (tableOf q.2 x.index).version == t.version then (0, bumpVersion x.index q.2) else q
  if x.index == 0x2110 || x.index == 0x2120 || x.index == 0x2130 then
    if ! (x.rows.all fun q => partRowOk x.index q.2) then (3, s)
    else if x.index == 0x2120 then bumped (rangeCommit x.rows s)
    else if x.index == 0x2130 then bumped (shareCommit x.rows s)
    else if hitOk s (x.rows.map (·.2)) then (0, bumpVersion x.index (setTable x.index n s))
    else (3, s)
  else if ! commitOk s x.index n then (3, s)
  else (0, afterTable x.index (bumpVersion x.index (setTable x.index n s)))

/-- The record of a table that is persisted. -/
def tableRecord (index : Nat) (t : TableObj) : PersistRec :=
  { index := index, sub := 0, type := 0x12, bytes := tableBytes t none, seq := 0 }

/-- The commit of a table transfer (R533, R534, R538). -/
def commitTable (road : Road) (tag id : Nat) (x : Xfer) (s : State) : State :=
  let say := fun (st : Nat) (t : State) => odRespond road 0x12 tag x.index 0 st id 0 [] t
  let t := tableOf s x.index
  let mine := match roadPart s road with | some p => ownRows p t { t with data := x.rows } | none => true
  let keeps := t.access == 3 && x.rows != t.data
  if t.version != x.version then say 0x0A s
  else if ! mine then say 3 s
  else if keeps && ! recordFits s (tableRecord x.index { t with data := x.rows }) then say 3 s
  else match replaceRows x s with
    | (0, s1) =>
      let s2 := count 0x30F0 5 (raise 0x0F05 none (x.index + put (tableOf s1 x.index).version 32 16) s1)
      if keeps then persist road 0x12 tag x.index 0 id true (tableRecord x.index (tableOf s2 x.index)) s2 else say 0 s2
    | (e, s1) => say e s1

/-- XFER_COMMIT: it ends its transfer, whatever it answers (R531). -/
def xferCommit (road : Road) (tag id : Nat) (s : State) : State :=
  onXfer road 0x12 tag id 0 (fun x s =>
    match imageSlot x.index with
    | none => commitTable road tag id x (endXfer id s)
    | some _ =>
      if x.erasing || x.image.length != x.total then odRespond road 0x12 tag x.index 0 3 id 0 [] (endXfer id s)
      else putXfer id { x with verifying := some tag } s) s

/-- XFER_ABORT. -/
def xferAbort (road : Road) (tag id : Nat) (s : State) : State :=
  onXfer road 0x13 tag id 0 (fun x s => odRespond road 0x13 tag x.index 0 0 id 0 [] (count 0x30F0 6 (endXfer id s))) s

/-- A transfer has had no message for 10 s (R531). One whose image is being verified has ended its messages.
(DEDUCED, log entry 57.) -/
def xferTimeout (id : Nat) (s : State) : State :=
  match MapOps.get? id s.od.xfers with
  | none => s
  | some x =>
    if x.verifying.isSome then s else raise 0x0F04 none x.index (count 0x30F0 6 (endXfer id s))

/-! ### Debug token (R486) -/

/-- A write of DebugToken, whose value is longer than a message's data (DESIGN CHOICE, log entry 53): a token that does
not unlock is refused. -/
def debugToken (road : Road) (scope : Nat) (signature : List Byte) (s : State) : State :=
  if roleless s road then writeAnswer road 0 0x6000 2 2 s
  else match present s 0x6000 2 with
    | .error e => writeAnswer road 0 0x6000 2 e s
    | .ok _ =>
      if ! roadFm road then writeAnswer road 0 0x6000 2 2 s
      else
        let r := tryToken scope signature s
        writeAnswer road 0 0x6000 2 (if r.1 then 0 else 3) r.2

/-! ### Serving messages (R524) -/

/-- A write of SvnCommit whose burn ends as told (R454). (DEDUCED, log entry 58.) -/
def odSvn (road : Road) (secured : Bool) (v : Nat) (burned : Bool) (s : State) : State :=
  if (secured && roadPlace road != none) && roadSecured s road && ! roleless s road && roadFm road && isPresent s 0x2800 7
      && v == s.sec.svn then
    writeAnswer road 0 0x2800 7 0 (burnSvn v burned s)
  else odWrite road secured 0 0x2800 7 0xFF (toBytes (if v < 2 ^ 32 then 4 else 9) v) s

/-- The messages that may burn a fuse: the writes of SvnCommit and DebugClose (R454, R488). -/
def burns : OdMsg → Bool
  | .write _ _ index sub _ _ => index == 0x2800 && (sub == 7 || sub == 15)
  | .svn _ _ _ => true
  | _ => false

/-- What one message does. -/
def odAct (r : Road) (m : OdMsg) (s : State) : State :=
  match m with
  | .read tag index sub ctx offset length => odRead r tag index sub ctx offset length s
  | .write sec tag index sub ctx bytes => odWrite r sec tag index sub ctx bytes s
  | .describe tag index sub => odDescribe r tag index sub s
  | .open_ tag index sub total => xferOpen r tag index sub total s
  | .data tag id offset bytes => xferData r tag id offset bytes s
  | .commit tag id => xferCommit r tag id s
  | .abort tag id => xferAbort r tag id s
  | .token scope signature => debugToken r scope signature s
  | .svn sec v burned => odSvn r sec v burned s
  | .other op index sub xfer offset => odRespond r op 0 index sub 6 xfer offset [] s

/-- Serves one message. No other message than a burn reaches the fuses (R447). -/
def odRun (r : Road) (m : OdMsg) (s : State) : State :=
  if burns m then odAct r m s else (odAct r m s).setFuses s.fuses

/-- A message arrives: one on a road whose response is not yet sent waits at its endpoint, and a window ignores it (R524,
Table 15-5). -/
def odServe (r : Road) (m : OdMsg) (s : State) : State :=
  if ! roadOpen s r then s
  else if roadBusy s r then
    (match r with
      | .window p => modPort p.val (fun q => { q with winOverrun := true }) s
      | _ => s.setOd { s.od with waits := s.od.waits ++ [(r, m)] })
  else odRun r m (modWindow r (fun p => { p with winBusy := true }) s)

/-- Serves the messages that wait on roads whose response has gone out. -/
def serveWaits : Nat → State → State
  | 0, s => s
  | n + 1, s =>
    match s.od.waits.find? fun q => ! roadBusy s q.1 with
    | none => s
    | some q =>
      let s1 := s.setOd { s.od with waits := s.od.waits.erase q }
      serveWaits n (if roadOpen s1 q.1 then odRun q.1 q.2 s1 else s1)

/-- The roads look at what waits. -/
def pumpWaits (s : State) : State := serveWaits s.od.waits.length s

/-- A write of a value in an object's own size, as a row of the opcode table gives it; a value that does not fit carries
too many bytes. -/
def odPut (road : Road) (secured : Bool) (index sub size value : Nat) (s : State) : State :=
  odServe road (.write secured 0 index sub 0xFF (toBytes (if value < 256 ^ size then size else size + 1) value)) s

/-- The flash program of the oldest persisted write ends (R530). -/
def persistDone (ok : Bool) (s : State) : State :=
  match s.od.persisting with
  | [] => s
  | j :: rest =>
    let s1 := s.setOd { s.od with persisting := rest }
    let s2 := if ok then putRec j.rec_ s1 else raise 0x0F02 none (j.index + put j.sub 8 16) s1
    pumpWaits (if j.answers then odRespond j.road j.op j.tag j.index j.sub (if ok then 0 else 8) j.xfer 0 [] s2 else s2)

/-- The erase of an image slot has ended (R532). -/
def slotErased (slot : Nat) (s : State) : State :=
  s.setOd { s.od with
    xfers := s.od.xfers.map fun q => (q.1, if imageSlot q.2.index == some slot then { q.2 with erasing := false } else q.2) }

/-- The verification of a delivered image has ended (R455): ImageSelect names its slot if every check passes; a slot that fails R452 is
counted and told (Tables 13-16 and 13-17). (DEDUCED, log entry 126.) -/
def imageVerified (slot : Nat) (s : State) : State :=
  match s.od.xfers.find? fun q => imageSlot q.2.index == some slot && q.2.verifying.isSome with
  | none => s
  | some (id, x) =>
    let why := verifyImage s x.image
    let ok := why == 0
    let s1 := endXfer id s
    let r : PersistRec := { index := 0x2800, sub := 6, type := 2, bytes := toBytes 1 slot, seq := 0 }
    let s2 := if ! ok || scalar s1 0x2800 6 0 == slot then s1 else persist x.road 2 0 0x2800 6 0 false r (setScalar 0x2800 6 slot s1)
    let s3 := if ok then count 0x30F0 5 s2 else refuseSlot slot why s2
    pumpWaits (odRespond x.road 0x12 (x.verifying.getD 0) x.index 0 (if ok then 0 else 3) id 0 [] s3)

/-! ### The light meter (R546) -/

/-- A probe: index, subindex, and whether it is enabled. -/
def probeOf (s : State) (n : Nat) : Nat × Nat × Bool :=
  let w := field (scalar s 0x3800 3 0) (32 * n + 31) (32 * n)
  (field w 15 0, field w 23 16, bitAt w 24)

/-- The types that a probe may name. -/
def probeType (t : Nat) : Bool := [2, 3, 4, 5, 6, 7].contains t

/-- What a probe reads now: absent, and the value as 64 bits. -/
def probeValue (s : State) (index sub : Nat) : Bool × Nat :=
  if index < 0x1000 || 0x3FFF < index then (true, 0)
  else match present s index sub with
    | .error _ => (true, 0)
    | .ok o =>
      if ! probeType o.type || o.access == 4 then (true, 0)
      else
        let v := ofBytes (fmValue s .i3c o index sub 0xFF)
        (false, if o.type == 6 then ofInt 64 (toInt 32 v) else v)

/-- One sample enters the fill bank, or is lost. -/
def enterSample (n : Nat) (s : State) : State :=
  let p := probeOf s n
  if ! p.2.2 then s
  else if 4096 ≤ s.logs.lmFill.length then s.setLogs { s.logs with lmLost := (s.logs.lmLost + 1) % two64 }
  else
    let v := probeValue s p.1 p.2.1
    s.setLogs { s.logs with lmFill := ⟨nowUs s, n, v.1, v.2⟩ :: s.logs.lmFill }

/-- A sampling period has passed while LmEnable is 1. -/
def sampleAll (s : State) : State :=
  if ! isLit s || scalar s 0x3800 1 0 != 1 then s else (List.range 64).foldl (fun u n => enterSample n u) s

/-! ### The window's registers (Table 15-5) -/

/-- GO: the request in the registers is submitted. -/
def windowGo (port : Fin 4) (s : State) : State :=
  let p := portOf s port.val
  let road : Road := .window port
  let op := field p.winOp 7 0
  let sub := field p.winOp 15 8
  let index := field p.winOp 31 16
  let ctx := field p.winCtx 7 0
  let xfer := field p.winCtx 15 8
  let len := field p.winCtx 26 16
  let data := ((List.range (min len 1024)).map fun i => BitVec.ofNat 8 (MapOps.getD i 0 p.winData))
  let m : OdMsg :=
    if 1024 < len && (op == 2 || op == 0x11) then .other op index sub xfer p.winOffset
    else if op == 1 then .read 0 index sub ctx p.winOffset len
    else if op == 2 then .write false 0 index sub ctx data
    else if op == 3 then .describe 0 index sub
    else if op == 0x10 then .open_ 0 index sub (ofBytes (data.take 4))
    else if op == 0x11 then .data 0 xfer p.winOffset data
    else if op == 0x12 then .commit 0 xfer
    else if op == 0x13 then .abort 0 xfer
    else .other op index sub xfer p.winOffset
  odServe road m s

end Sys2Proof.Machine
end

