-- ==== Sys2Proof/Machine/CmdOps.lean ====
section
/-! DEFINITION. Ring commands: the fetch and its checks (R269, R274, R276), and what each fetched command of chapters 2, 3
and 6 does. -/

namespace Sys2Proof.Machine

open Sys2Proof

/-! ### Ring registers (R264 to R270) -/

/-- ENABLE = 1 is written to a ring (R266): its SQ's extents that are parked, or being parked, are brought back to Batten, as those of
a program are (R230). -/
def ringEnable (i ring : Nat) (s : State) : State :=
  let id := i * 64 + ring
  let r := ringOf s id
  match ldPart s (i / 16) (i % 16) with
  | none => if r.state != 0 || ! ldServed s i then s else faultRing id 4 s
  | some p =>
    if r.state != 0 || ! ldServed s i then s
    else
      let first := r.sqBase / 2097152
      let n := (r.sqBase + 64 * 2 ^ r.sqLog2 + 2097151) / 2097152 - first
      let ok := 6 ≤ r.sqLog2 && r.sqLog2 ≤ 16 && 6 ≤ r.cqLog2 && r.cqLog2 ≤ 16 && r.irqMode ≤ 2 && r.sqBase % 4096 == 0
        && (List.range n).all (fun k => canWrite s p (first + k)) && ringsEnabled s p < 64
      if ok then
        unparkAll (64 + p) (devExts s p first n) (modRing id (fun q => { q with
          sqHead := 0, cqTail := 0, cqHead := 0, sqTail := 0, state := 1, fault := 0, phase := true, disabling := false
          pinned := devExts s p first n, fetch := 0 }) s)
      else faultRing id 4 s

/-- ENABLE = 0 is written to a ring (R270). -/
def ringDisable (i ring : Nat) (s : State) : State :=
  let id := i * 64 + ring
  if (ringOf s id).state == 0 then s else disableCheck id (modRing id (fun q => { q with disabling := true }) s)

/-- Values stored to a field of a ring between two samplings: all but the latest coalesce (R267). -/
def coalesced (id : Nat) (stores : List (BitVec 16)) (s : State) : Option (Nat × State) :=
  match stores.getLast? with
  | none => none
  | some v =>
    if ringState s id != 1 then none
    else some (v.toNat, countBy 0x3070 2 (stores.length - 1) s)

/-- Stores to SQ_TAIL (R267). (DEDUCED, log entry 37.) -/
def sqTail (i ring : Nat) (stores : List (BitVec 16)) (s : State) : State :=
  let id := i * 64 + ring
  match coalesced id stores s with
  | none => countBy 0x3070 3 stores.length s
  | some (v, t) =>
    if 2 ^ (ringOf t id).sqLog2 ≤ v then faultRing id 1 t else modRing id (fun q => { q with sqTail := v }) t

/-- Stores to CQ_HEAD (R267): one that would release a record not yet written is a fault. (DEDUCED, log entry 37.) -/
def cqHead (i ring : Nat) (stores : List (BitVec 16)) (s : State) : State :=
  let id := i * 64 + ring
  match coalesced id stores s with
  | none => countBy 0x3070 3 stores.length s
  | some (v, t) =>
    let r := ringOf t id
    let size := 2 ^ r.cqLog2
    let written := (r.cqTail + size - r.cqHead) % size
    if size ≤ v || written < (v + size - r.cqHead) % size then faultRing id 2 t
    else modRing id (fun q => { q with cqHead := v }) t

/-! ### Fetch (R269, R274, R276) -/

/-- The session that a descriptor names. -/
def sessionNamed (d : Nat) : Option Nat :=
  let op := field d 7 0
  let h := field d 145 128
  if 2 ≤ op && op ≤ 5 then (if bitAt d 146 then some h else none)
  else if op == 0x10 then (if field d 147 146 == 1 || field d 147 146 == 2 then some h else none)
  else if op == 0x11 then (if bitAt d 147 then none else some h)
  else if op == 0x12 || op == 0x13 then some h
  else none

/-- What an ATTEND's KV_TOKENS + APPEND may reach (R259). -/
def attendFits (s : State) (d : Nat) : Bool :=
  let r := sessOf s (field d 145 128)
  (r.kvTokens + field d 175 160) * bBytes (bindRow s r.part r.binding) ≤ r.layerStride * 2097152

/-- The status of the checks of R274 for a descriptor of a partition. -/
def fetchStatus (s : State) (part d : Nat) : Nat :=
  if ! formOk s d then 0x10
  else
    let st := checkRights s part d
    if st == 0 && field d 7 0 == 0x12 && ! attendFits s d then 0x10 else st

/-- A ring's entry may be fetched now, but for what its descriptor names. (DEDUCED, log entry 22.) -/
def mayFetch (s : State) (i ring part : Nat) : Bool :=
  let id := i * 64 + ring
  let r := ringOf s id
  let size := 2 ^ r.cqLog2
  ldServed s i && ! (ldOf s i).flr && r.state == 1 && ! r.disabling && ! ldFrozen s i && partState s part == 1 && r.sqHead != r.sqTail
    && r.inFlight + heldOf s id + (r.cqTail + size - r.cqHead) % size < size - 1
    && (s.queue.cmds.filter fun q => q.2.part == part).length < 16384 && s.queue.cmds.length < 262144

/-- The ring that the device serves now (R269): the one whose turn it is while it may be fetched from and has had fewer than 8
descriptors, else the next in the order of their numbers. -/
def servedRing (s : State) : Option Nat :=
  let may := fun (q : Nat) => (ldPart s (q / 1024) (q / 64 % 16)).any (mayFetch s (q / 64) (q % 64))
  let l := (s.queue.rings.map (·.1)).filter may
  if l.contains s.queue.turn && s.queue.taken < 8 then some s.queue.turn
  else match l.find? (decide <| s.queue.turn < ·) with
    | some q => some q
    | none => l.head?

/-- One more turn of a ring: its descriptor is counted, or, where it can give none now, its turn ends (R269). -/
def serveTurn (id n : Nat) (s : State) : State :=
  s.setQueue { s.queue with turn := id, taken := if s.queue.turn == id && s.queue.taken < 8 then s.queue.taken + n else n }

/-- A touch or another command enters its session (R104, R108). -/
def enterSession (id d : Nat) (s : State) : State :=
  match sessionNamed d with
  | none => s
  | some h =>
    let r := sessOf s h
    let r1 := { r with
      inFlight := r.inFlight + 1
      lastTouch := if isTouch d then calMs s else r.lastTouch
      parkRetries := if isTouch d then 0 else r.parkRetries }
    let s1 := setSessRec h r1 (modCmd id (fun q => { q with session := some h }) s)
    if isTouch d && r.state == 1 then setSessState h 0 s1 else s1

/-- The session that a descriptor names has all the commands it may have in flight (Table 3-4). (DEDUCED, log entry 22.) -/
def sessionFull (s : State) (part d : Nat) : Bool :=
  formOk s d && checkRights s part d == 0 && (sessionNamed d).any fun h => decide (65535 ≤ (sessOf s h).inFlight)

/-- The descriptors whose started point is their fetch (Table 7-4). (DEDUCED, log entry 22.) -/
def fetchStarts (d : Nat) : Bool :=
  let op := field d 7 0
  [0x02, 0x05, 0x10, 0x11, 0x25, 0x30, 0x31].contains op || (op == 0x33 && field d 129 128 != 2)

/-- A fetched descriptor becomes a command in flight. One whose started point is its fetch has started, but that FENCE may hold it
back (R286, Table 7-3). -/
def newCmd (i ring part d : Nat) (s : State) : State :=
  let id := i * 64 + ring
  let r := ringOf s id
  let n := s.queue.nextCmd
  let dl := field d 63 32
  let fence := bitAt d 9 && s.queue.cmds.any fun q => q.2.ring == id
  let c : Cmd :=
    { ring := id, part := part, desc := d, slot := r.sqHead, fetchUs := nowUs s
      expiry := if dl == 0 || d == 2 ^ 512 then none else some (nowUs s + dl)
      started := fetchStarts d && ! fence, begun := false, met := [], result0 := 0, result1 := 0, todo := [], session := none, order := n, discard := false }
  let s1 := s.setQueue { s.queue with cmds := MapOps.insert n c s.queue.cmds, nextCmd := n + 1 }
  count 0x3070 1 (modRing id (fun q => { q with sqHead := (q.sqHead + 1) % 2 ^ q.sqLog2, inFlight := q.inFlight + 1, fetch := 0 }) s1)

/-- The argument block of a RUN is read, at the fetch or, where its tile must land first, when the command is taken up (R257).
(DESIGN CHOICE, log entry 35.) -/
def readBlockOf (id : Nat) (s : State) : State :=
  match cmdOf s id with
  | none => s
  | some c =>
    if c.op != 0x14 || c.block.isSome then s
    else
      let g := listSectors [1, id] c.part (c.bits 243 192) 2 s
      modCmd id (fun q => { q with block := g.1 }) g.2

/-- The device fetches the entry at SQ_HEAD of the ring that it serves (R268, R269), and checks it. A fetch that waits for its sector
stays in progress; one that a freeze met completes with that freeze's status and is not checked (R271). -/
def fetchOne (i ring : Nat) (s0 : State) : State :=
  let id := i * 64 + ring
  match ldPart s0 (i / 16) (i % 16) with
  | none => s0
  | some part =>
    if ! mayFetch s0 i ring part || servedRing s0 != some id then s0
    else
      let r := ringOf s0 id
      match listSector [5, id] part (r.sqBase + 64 * r.sqHead) s0 with
      | (none, t) => serveTurn id 8 (modRing id (fun q => { q with fetch := max 1 q.fetch }) t)
      | (some (bytes, bad), t0) =>
        let t := serveTurn id 1 (forgetReads (· == [5, id]) t0)
        let n := t.queue.nextCmd
        let d := ofBytes bytes
        if 1 < r.fetch then completeCmd n r.fetch 0 0 (newCmd i ring part d t)
        else if bad then completeCmd n 0x20 0 0 (raise 0x0702 (some part) 0 (newCmd i ring part (2 ^ 512) t))
        else if sessionFull t part d then serveTurn id 8 s0
        else
          let st := fetchStatus t part d
          if st != 0 then completeCmd n st 0 0 (newCmd i ring part d t)
          else readBlockOf n (enterSession n d (newCmd i ring part d t))

/-- Whether the session or prefix that a command names is still its own: one that has ended since the fetch is not (R96, R132). -/
def namedNow (s : State) (c : Cmd) : Nat :=
  if (sessionNamed c.desc).isSome then sessCheck s c.part c.desc
  else if c.op == 0x11 then checkRights s c.part c.desc
  else 0

/-- The descriptor of a command waits: it runs when it is taken up again. (DESIGN CHOICE, log entry 42.) -/
def waitCmd (id : Nat) (s : State) : State := modCmd id (fun q => { q with begun := false }) s

/-- A failed link cuts a command off from what it acts on (R18): its I/O die from the engine of the record or entry that it names,
the engine from the directory MDs of its extents, or, where it drops them, those from the homes of their tiles. -/
def cutOff (s : State) (c : Cmd) : Bool :=
  let reach := fun (n : Nat) (devs : List Nat) (drops : Bool) =>
    diesUp s [12 + c.ring / 1024, n % 8] && engineUp s n devs && (! drops || devs.all (extUp s))
  ! s.link.failed.isEmpty && match sessionNamed c.desc with
    | some h =>
      let r := sessOf s h
      let drops := c.op == 0x05 || c.op == 0x11 || c.op == 0x13 || (c.op == 0x12 && decide (1 < r.state))
        || (c.op == 0x02 && c.bits 149 147 == 5)
      ! reach h (if c.op == 0x10 then [] else kvAll s r ++ logAll s r) drops
    | none => c.op == 0x11 && ! reach (c.bits 139 128) (pfxDevs s (pfxOf s (c.bits 139 128))) true

/-- A command does not begin now: an FLR of its LD runs (R350), its session is being ended (R129), a failed link cuts it off (R18), or it
names a session record that a commit holds and waits for the hold to
be released, but that an UPDATE is refused at once (R310, R311, R312). (DESIGN CHOICE, log entry 42.) -/
def heldNow (s : State) (c : Cmd) : Bool :=
  c.discard || (sessionNamed c.desc).any (sessEnding s) || cutOff s c || ! (c.op == 0x10 && c.bits 147 146 == 1) && (sessionNamed c.desc).any (sessHeld s)

/-- A command begins: one whose expiry instant has passed misses its deadline (R286). (DESIGN CHOICE, log entry 42.) -/
def beginCmd (id op : Nat) (form : Cmd → Bool) (f : Cmd → State → State) (s : State) : State :=
  runCmd id op form (fun c t =>
    if heldNow t c then waitCmd id t
    else if (! c.started) && c.expiry.any (fun e => decide (e < nowUs t)) then completeCmd id 0x24 0 0 t
    else if namedNow t c != 0 then completeCmd id (namedNow t c) 0 0 t
    else f c t) s

/-! ### Commands by extent and tile (R277, R278) -/

/-- An extent is held for R317, by a code or command that parks or drops it. -/
def parkHeld (s : State) (code dev : Nat) : Bool := decide (4 ≤ code) && extHeld s dev

/-- The extents that a HINT names: those of its range, or of its session. -/
def hintDevs (s : State) (c : Cmd) : List Nat :=
  if bitAt c.desc 146 then
    let r := sessOf s (c.bits 145 128)
    kvDevs s r ++ logDevs s r
  else devExts s c.part (namedExts c.desc).1 (namedExts c.desc).2

/-- A HINT fetched earlier names an extent of this one and has not taken effect: this one waits for it (R56). -/
def hintBehind (s : State) (id : Nat) : Bool :=
  match cmdOf s id with
  | none => false
  | some c =>
    let mine := hintDevs s c
    s.queue.cmds.any fun q => q.1 < id && q.2.op == 2 && ! q.2.begun && (hintDevs s q.2).any mine.contains

/-- A HINT begins, in the order of fetch of those that name its extents (R56). -/
def beginHint (id : Nat) (form : Cmd → Bool) (f : Cmd → State → State) (s : State) : State :=
  if hintBehind s id then s else beginCmd id 2 form f s

/-- HINT by extent (R55 to R59, R317). A PARK that no usable Underlay takes is counted on a held extent too (R58). -/
def hintExts (id : Nat) (c : Cmd) (s : State) : State :=
  let code := c.bits 149 147
  let devs := devExts s c.part (namedExts c.desc).1 (namedExts c.desc).2
  let lost := fun d => imageLost s d && code != 5
  let go := devs.filter fun d => ! parkHeld s code d && ! extGone s d && ! lost d
  let void := devs.filter fun d => parkHeld s code d && ! extGone s d && ! lost d && parkVoid s code d
  let cd := if code == 1 && bitAt c.desc 152 then some (c.bits 151 150) else none
  let s1 := (go ++ void).foldl (fun u d => hintExtent
    { ext := d, act := 3, master := c.part, tier := if code == 1 then .ridge else .batten, md := none, cd := cd, hint := code
      touched := 0, waiters := [] } u) (markStarted id s)
  let met := (if devs.any (parkHeld s code) then [0x14] else []) ++ (if devs.any (extGone s) then [0x22] else [])
    ++ (if devs.any lost then [0x20] else [])
  completeCmd id (statusOf met) go.length 0 s1

/-- A request on an extent for a command. -/
def extReq (id : Nat) (c : Cmd) (dev act : Nat) (tier : Tier) (md : Option Nat) (touched : Nat) : ExtReq :=
  { ext := dev, act := act, master := c.part, tier := tier, md := md, cd := none, hint := 0, touched := touched, waiters := [.cmd id] }

/-- PARK by extent (R277). -/
def parkExts (id : Nat) (c : Cmd) (s : State) : State :=
  let devs := devExts s c.part (namedExts c.desc).1 (namedExts c.desc).2
  devs.foldl (fun u d => requestPark (extReq id c d 1 .batten none 0) u)
    (modCmd id (fun q => { q with todo := devs.map extSubject }) s)

/-- UNPARK by extent. -/
def unparkExts (id : Nat) (c : Cmd) (s : State) : State :=
  let devs := devExts s c.part (namedExts c.desc).1 (namedExts c.desc).2
  let tier : Tier := if bitAt c.desc 155 then .batten else .ridge
  devs.foldl (fun u d => requestUnpark (extReq id c d 0 tier none 0) u)
    (modCmd id (fun q => { q with todo := devs.map extSubject }) s)

/-- DROP by extent (R59, R317). -/
def dropExts (id : Nat) (c : Cmd) (s : State) : State :=
  let devs := devExts s c.part (namedExts c.desc).1 (namedExts c.desc).2
  devs.foldl (fun u d => requestDrop (extReq id c d 2 .batten none 0) u) (markStarted id (modCmd id (fun q => { q with todo := devs.map extSubject }) s))

/-- What a MOVE asks for one of its tiles (R278). -/
def moveTile (id : Nat) (c : Cmd) (key : Nat) (s : State) : State :=
  let ext := extOf key
  let tier := tierOf (c.bits 208 208)
  let t := tdeOf s key
  if extGone s ext then tell [.cmd id] key .failed s
  else if kindOf s ext == 0 then tell [.cmd id] key .done s
  else if kindOf s ext == 1 then
    if t.state == .poisoned then tell [.cmd id] key .poisoned s
    else if ! isHome t.tier || moveInPlace c.desc t then tell [.cmd id] key .done s
    else requestMove (plainMove key tier (moveMd s c.desc tier t) 0 c.part [.cmd id]) s
  else
    requestUnpark (extReq id c ext 4 tier (if bitAt c.desc 212 then none else some (c.bits 211 209)) (key % 32)) s

/-- MOVE (R278). -/
def moveTiles (id : Nat) (c : Cmd) (s : State) : State :=
  let keys := tileKeys s c.part (namedTiles c.desc).1 (namedTiles c.desc).2
  keys.foldl (fun u k => moveTile id c k u) (modCmd id (fun q => { q with todo := keys }) s)

/-! ### Commands by session (R109, R116, R127) -/

/-- The handle that a descriptor names. -/
def Cmd.handle (c : Cmd) : Nat := c.bits 145 128

/-- What R127 says of a park request: 0, NOT_PERMITTED or CONFLICT. -/
def parkMeets (s : State) (h level : Nat) : Nat :=
  let r := sessOf s h
  if level == 3 && bRebuild (bindRow s r.part r.binding) == 0 then 0x11
  else if 1 < r.inFlight || r.state == 5 || r.state == 6 || r.expoHeld then 0x14
  else 0

/-- A park request of a command (R109). `waits` says whether the command completes with the park; else it completes at
once with a count. -/
def parkRequest (id : Nat) (c : Cmd) (level0 : Nat) (waits : Bool) (s : State) : State :=
  let h := c.handle
  let r := sessOf s h
  let st := parkMeets s h level0
  let level := capLevel s level0
  let n := (kvDevs s r).length + (if level == 1 then 0 else (logDevs s r).length)
  let cmds := if waits then [id] else []
  let rest := fun (k : Nat) (u : State) => if waits then u else completeCmd id 0 k 0 u
  if st != 0 then completeCmd id st 0 0 s
  else if r.state == 7 then completeCmd id 0x41 0 0 s
  else if r.state == 4 then completeCmd id 0 0 0 s
  else if r.state == 2 then
    match sessParkOf s false h with
    | none => completeCmd id 0 0 0 s
    | some p =>
      if level ≤ p.level then rest n (setSessPark { p with cmds := p.cmds ++ cmds } (markStarted id s))
      else
        let s1 := dropSessPark false h (forget (.session h) (withdraw (.session h) (markStarted id s)))
        rest n (startPark false h level 128 (p.cmds ++ cmds) (kvDevs s1 r) (logDevs s1 r) s1)
  else if level ≤ r.parkLevel then completeCmd id 0 0 0 s
  else rest n (parkSession h level 128 cmds (markStarted id s))

/-- A DROP naming a session completes once no KV extent of it waits for its drop (Table 7-4). -/
def dropsDone (s : State) (p : SessPark) : Bool :=
  let kv := kvDevs s (sessOf s p.entry)
  ! (p.todo ++ p.again).any kv.contains

/-- The DROP commands that wait on a session's park complete. -/
def endDrops (p : SessPark) (s : State) : State :=
  if p.isPrefix || p.level != 3 || ! dropsDone s p then s
  else
    let mine := p.cmds.filter fun c => (cmdOf s c).any fun q => q.op == 5
    endCmds mine 0 (kvDevs s (sessOf s p.entry)).length
      (setSessPark { p with cmds := p.cmds.filter fun c => ! mine.contains c } s)

/-- The tier that a wake without a hint restores to (Table 3-5). -/
def restoreTier (s : State) (h : Nat) : Tier := if bitAt (classRow s (sessOf s h).cls) 130 then .batten else .ridge

/-- A session HINT HOT or WARM (R109); HOT may name a compute die (Table 7-5). -/
def wakeHint (id : Nat) (c : Cmd) (tier : Tier) (s : State) : State :=
  let h := c.handle
  let r := sessOf s h
  let devs := kvDevs s r ++ logDevs s r
  let cd := if c.bits 149 147 == 1 && bitAt c.desc 152 then some (c.bits 151 150) else none
  let s1 := markStarted id s
  if r.state == 7 then completeCmd id 0x41 0 0 s1
  else if r.state ≤ 1 then
    completeCmd id 0 devs.length 0 (devs.foldl (fun u d => actHint d (c.bits 149 147) 128 tier cd [] u) s1)
  else if r.state == 6 then completeCmd id 0 0 0 s1
  else if r.state == 4 && ! (bitAt (classRow s r.cls) 133 && rebuildable s r) then completeCmd id 0x40 0 0 s1
  else completeCmd id 0 devs.length 0 (startWake h tier cd (some (c.ring / 64)) [] s1)

/-- UNPARK by session (R116). One that names a session in rebuild joins the rebuild and completes with it, as a REBUILD does.
(DESIGN CHOICE, log entry 100.) -/
def unparkSession (id : Nat) (c : Cmd) (s : State) : State :=
  let h := c.handle
  let r := sessOf s h
  let s1 := markStarted id s
  if r.state == 7 then completeCmd id 0x41 0 0 s1
  else if r.state ≤ 1 then completeCmd id 0 0 0 s1
  else if r.state == 6 then
    match wakeOf s h with
    | some w => setWake { w with cmds := w.cmds ++ [id] } s1
    | none => completeCmd id 0 0 0 s1
  else startWake h (restoreTier s h) none (some (c.ring / 64)) [id] s1

/-! ### SESSION-BIND and SESSION-END (R102, R103, R123, R126, R129) -/

/-- The stack in which BIND takes a record: most free ones, the lower-numbered on a tie (R102). (DESIGN CHOICE, log entry 21.) -/
def bindStack (s : State) : Option Nat :=
  let used := fun (m : Nat) => ((s.sess.recs.map (·.1) ++ s.sess.lostRecs).filter (· % 8 == m)).length
  let ms := (List.range 8).filter fun m => stackInUse s m && used m < 32768
  ms.foldl (fun (a : Option Nat) m => match a with
    | none => some m
    | some b => if used m < used b then some m else a) none

/-- The lowest free record of a stack. -/
def bindRecord (s : State) (m : Nat) : Nat :=
  let taken := ((s.sess.recs.map (·.1)).foldl (fun a h => setInsert h a) s.sess.lostRecs).filter (· % 8 == m)
  8 * nthFree (taken.map (· / 8)) 0 + m

/-- The calendar at the fetch of a command, in ms: that of now less the time since, so that a step of the calendar counts for it too
(R103, R111). -/
def calAtFetch (c : Cmd) (s : State) : Nat := (s.time.calUs - (nowUs s - c.fetchUs)) / 1000

/-- BIND (R102, R103): what it names is looked at again when it runs, since its prefix may have ended or been lost (R124, R132).
(DESIGN CHOICE, log entry 21.) With DROPPED it drops the extents whether or not a claim or an exposure holds
them. (DESIGN CHOICE, log entry 105.) -/
def bindSession (id : Nat) (c : Cmd) (s : State) : State :=
  let d := c.desc
  let st := bindCheck s c.part d
  let bound := s.sess.recs.any fun q => q.2.part == c.part && q.2.sessionId == c.bits 255 192
  if st != 0 then completeCmd id st 0 0 s
  else if bound then completeCmd id 0x14 0 0 s
  else match bindStack s with
  | none => completeCmd id 0x42 0 0 s
  | some m =>
    let h := bindRecord s m
    let pfx := if bitAt d 149 then some (c.bits 178 167) else none
    let r0 : Session :=
      { sessionId := c.bits 255 192, part := c.part, cls := c.bits 158 155, binding := c.bits 166 159, keyValid := bitAt d 150
        jobKey := c.bits 190 179, pfx := pfx, kvBase := c.bits 286 256, layerStride := c.bits 303 288, logBase := c.bits 350 320
        logExtents := c.bits 319 304, kvTokens := c.bits 383 352, logTokens := c.bits 415 384, lastTouch := calAtFetch c s
        stateSince := calMs s, userTag := c.bits 511 448 }
    let parked := (kvDevs s r0).any fun e => kindOf s e == 2
    let r := if bitAt d 148 then { r0 with state := 4, parkLevel := 3, kvTokens := 0 }
      else if parked then { r0 with state := 3, parkLevel := 2 } else r0
    let cut := ! s.link.failed.isEmpty && ! (diesUp s [12 + c.ring / 1024, h % 8] && engineUp s h (kvDevs s r0)
      && (! bitAt d 148 || (kvAll s r0).all (extUp s)))
    let s1 := if bitAt d 148 then (kvAll s r0).foldl (fun u e => dropNow e u) s else s
    let s2 := match pfx with
      | none => s1
      | some n =>
        let s2 := modPfx n (fun e => { e with refCount := e.refCount + 1 }) s1
        if awakeState r.state then moveAwake n true s2 else s2
    if cut then waitCmd id s else completeCmd id 0 h 0 (count 0x3030 1 (setSessRec h r (markStarted id s2)))

/-- UPDATE (R102); a record that an exposure holds is not changed (R130, R310). -/
def updateSession (id : Nat) (c : Cmd) (s : State) : State :=
  if (sessOf s c.handle).expoHeld then completeCmd id 0x14 0 0 s
  else completeCmd id 0 c.handle 0 (setSessRec c.handle (updateRecord c.desc (sessOf s c.handle)) (markStarted id s))

/-- QUERY (R102): the record is written through the ring's LD; while that LD cannot master, the command waits. -/
def querySession (id : Nat) (c : Cmd) (s : State) : State :=
  let i := c.ring / 64
  if ! canMaster s i then waitCmd id s
  else completeCmd id 0 c.handle 0 (busWrite i (c.bits 511 448) (sessBytes (sessOf s c.handle)) (fun _ => false) (markStarted id s))

/-- PREFIX (R123): which entry it takes is a free value. -/
def prefixSession (id : Nat) (c : Cmd) (s : State) : State :=
  let taken := ((s.sess.prefixes.map (·.1)).foldl (fun a n => setInsert n a) s.sess.lostPfx).foldl (fun a n => setInsert n a)
    ((List.range 4096).filter fun n => ! stackInUse s (n % 8))
  let e : PrefixEntry :=
    { cls := c.bits 158 155, part := c.part, binding := c.bits 166 159, kvBase := c.bits 286 256, layerStride := c.bits 303 288
      tokens := c.bits 383 352, idleSince := calMs s }
  if 4096 ≤ taken.length then completeCmd id 0x42 0 0 s
  else match lockExts (pfxDevs s e) s with
    | none => completeCmd id 0x42 0 0 s
    | some s1 =>
      let n := nthFree taken (freeValue s % (4096 - taken.length))
      completeCmd id 0 n 0 (setPfx n { e with locked := pfxDevs s e } (used (markStarted id s1)))

/-- SESSION-END of a session (R129): the runs that serve it end first, with the commands that wait for its rebuild, and it completes once
they have. -/
def endSessionCmd (id : Nat) (c : Cmd) (s : State) : State :=
  let runs := s.cmp.runs.filter fun r => r.session == some c.handle
  pumpEnds (runs.foldl (fun u r => abortRun r.id 0x25 u) (beginEnd c.handle 0x25 (some id) (markStarted id s)))

/-- SESSION-END of a prefix (R126). -/
def endPrefixCmd (id : Nat) (c : Cmd) (s : State) : State :=
  let n := c.bits 139 128
  let e := pfxOf s n
  completeCmd id 0 0 0 (if e.refCount == 0 then freePfx n (markStarted id s) else setPfx n { e with ending := true } (markStarted id s))

/-! ### RUN, ATTEND and REBUILD (R257 to R260) -/

/-- RUN (R257): it runs with the argument block that its fetch read. -/
def runStart (id : Nat) (c : Cmd) (s0 : State) : State :=
  let s := readBlockOf id s0
  if runsFull s c.part then waitCmd id s
  else match ((cmdOf s id).bind (·.block), s) with
  | (none, t) => waitCmd id t
  | (some l, t) =>
    if l.any (·.2) then completeCmd id 0x20 0 0 t
    else
      let bytes := l.flatMap (·.1)
      let i := c.ring / 64
      queueRun (some id) c.part (i / 16) (i % 16) (c.bits 139 128) 0 none
        ((List.range 16).map fun k => ofBytes ((bytes.drop (8 * k)).take 8)) none c.expiry none t

/-- A service run of an ATTEND is queued, where R258 lets it. (DESIGN CHOICE, log entry 35.) (DEDUCED, log entry 38.) -/
def attendRun (id : Nat) (c : Cmd) (s : State) : State :=
  let h := c.handle
  let r := sessOf s h
  let ok := serviceOk s h false
  if ok == 2 then completeCmd id 0x11 0 0 s
  else if ok == 1 || scratchWaits s r.part then waitCmd id s
  else
    let i := c.ring / 64
    let sc := freeScratch s r.part
    queueRun (some id) c.part (i / 16) (i % 16) (bAttend (bindRow s r.part r.binding)) 1 (some h)
      (serviceArgs s h false (c.bits 175 160) (c.bits 159 152) (c.bits 319 256) (c.bits 383 320) (c.bits 447 384) sc) sc c.expiry
      (some (c.bits 159 152, c.bits 175 160, bitAt c.desc 146, c.bits 447 384)) s

/-- ATTEND (R116 to R122, R258). -/
def attendStart (id : Nat) (c : Cmd) (s : State) : State :=
  let h := c.handle
  let r := sessOf s h
  let wait := fun (u : State) => u.setSess { u.sess with attendWaits := u.sess.attendWaits ++ [(h, id)] }
  if r.state == 7 then completeCmd id 0x41 r.kvTokens 0 s
  else if r.state == 6 then wait s
  else if r.state ≤ 1 || r.state == 5 then attendRun id c s
  else if serviceOk s h false == 2 then completeCmd id 0x11 0 0 s
  else if r.state == 4 && ! (bitAt (classRow s r.cls) 133 && rebuildable s r) then completeCmd id 0x40 0 0 s
  else
    let s1 := startWake h (restoreTier s h) none (some (c.ring / 64)) [] s
    let st := (sessOf s1 h).state
    if st == 6 then
      match wakeOf s1 h with
      | some w => wait (setWake { w with cause := some id } s1)
      | none => wait s1
    else if st == 4 then completeCmd id 0x40 0 0 s1
    else if st == 7 then completeCmd id 0x41 0 0 s1
    else attendRun id c s1

/-- The log of a session can be read: none of its extents is lost (Table 3-6). -/
def logReadable (s : State) (r : Session) : Bool :=
  (logDevs s r).all fun d => ! extGone s d && ! imageLost s d
    && (! (kindOf s d == 1) || (tilesOf d).all fun k => (tdeOf s k).state != .poisoned)

/-- REBUILD (R117, R120, R121). A session that is awake has nothing to rebuild (Table 3-6; DESIGN CHOICE, log entry 54).
(DEDUCED, log entry 24.) (DESIGN CHOICE, log entry 100.) -/
def rebuildStart (id : Nat) (c : Cmd) (s : State) : State :=
  let h := c.handle
  let r := sessOf s h
  if r.state ≤ 1 then completeCmd id 0 r.kvTokens 0 s
  else if r.state == 6 then
    match wakeOf s h with
    | some w => setWake { w with cmds := w.cmds ++ [id] } s
    | none => waitCmd id s
  else if r.state == 7 && ! logReadable s r then completeCmd id 0x41 0 0 s
  else if serviceOk s h true == 2 then completeCmd id 0x11 0 0 s
  else if serviceOk s h true == 1 || scratchWaits s r.part then waitCmd id s
  else
    let old := ((wakeOf s h).map (·.cmds)).getD []
    let s1 := if r.state == 2 || r.state == 3 || r.state == 4 then countFor 0x3031 r.part s else s
    startRebuild h (restoreTier s h) none (some (c.ring / 64)) (id :: old) (dropWake h (forget (.session h) (stopPark h s1)))

/-! ### Deadlines (R286, R287) -/

/-- A REBUILD whose deadline passes before its program is granted its frames: the program never runs, and the rebuild that the
command began has failed (R121, R240). A rebuild that another command began goes on without it. -/
def missRebuild (id : Nat) (s : State) : State :=
  match s.sess.wakes.find? fun w => w.rebuild && w.cause.isNone && w.cmds.head? == some id && (cmdOf s id).any (fun c => c.op == 0x13) with
  | none => s.setCmp { s.cmp with
      runs := s.cmp.runs.map fun r => if r.kind == 2 && r.cmd == some id then { r with cmd := none, expiry := none } else r }
  | some w =>
    rebuildFails w.entry 0x24 0 w.cmds
      (s.setCmp { s.cmp with runs := s.cmp.runs.filter fun r => ! (r.kind == 2 && r.session == some w.entry) })

/-- The expiry instant of a command is reached: one that has not started completes with DEADLINE_MISSED and changes nothing. -/
def deadline (id : Nat) (s : State) : State :=
  match cmdOf s id with
  | none => s
  | some c =>
    if c.started || ! c.expiry.any (fun e => decide (e ≤ nowUs s)) then s
    else
      let w : Waiter := .cmd id
      let s1 := forget w (withdraw w s)
      let runs := s1.cmp.runs.filter fun r => r.cmd == some id
      if runs.any (·.granted) then s
      else
        let s1a := missRebuild id s1
        let s2 := s1a.setCmp { s1a.cmp with runs := s1a.cmp.runs.filter fun r => r.cmd != some id }
        let mine := s2.share.expos.filter fun q => q.2.cmd == some id && q.2.publish && q.2.stage < 3
        let s3 := mine.foldl (fun u q => abortExpo q.1 0x24 0 u) s2
        let s4 := s3.setShare { s3.share with
          expos := s3.share.expos.map fun q => (q.1, if q.2.cmd == some id then { q.2 with cmd := none } else q.2) }
        let s5 := s4.setSess { s4.sess with
          parks := s4.sess.parks.map fun p => { p with cmds := p.cmds.erase id }
          wakes := s4.sess.wakes.map fun p => { p with cmds := p.cmds.erase id }
          attendWaits := s4.sess.attendWaits.filter fun q => q.2 != id }
        completeCmd id 0x24 0 0 s5

/-- The expiry instants that time has passed: no command starts after its own (R286). -/
def expireAll (s : State) : State :=
  s.queue.cmds.foldl (fun u q => if ! q.2.started && q.2.expiry.any (fun e => decide (e < nowUs u)) then deadline q.1 u else u) s

end Sys2Proof.Machine
end

