-- ==== Sys2Proof/Machine/NearOps.lean ====
section
/-! DEFINITION. The near-memory commands FILL, COPY, COMPARE and REDUCE of chapter 7 (R288 to R292): a range is
taken in ascending order, one piece of a block after another, up to the first tile that must be waited for. -/

namespace Sys2Proof.Machine

/-- The name of a command's reads of the block at a DPA, by which what has been decoded for it is found (R169). -/
def nearWho (id dpa : Nat) : List Nat := [1, id, dpa / 4096]

/-- A block that a command reads has come. -/
def nearReady (id part dpa : Nat) (s : State) : Bool × State :=
  match dpaKey s part dpa with
  | none => (true, s)
  | some key => blockCome (nearWho id dpa) [] part key (dpa / 4096 % 16) s

/-- Reads n sectors of one block that has come. -/
def nearBlock (id part dpa n : Nat) (s : State) : List ReadSector × State :=
  match dpaKey s part dpa with
  | none => (List.replicate n poisonSector, s)
  | some key => blockRead (nearWho id dpa) part key (dpa / 4096 % 16) (dpa / 64 % 64) n s

/-- The pieces of a range of n sectors that lie in one block each: the DPA and the sectors of each. Fuel counts blocks. -/
def blocksOf : Nat → Nat → Nat → List (Nat × Nat)
  | 0, _, _ => []
  | f + 1, dpa, n =>
    if n == 0 then []
    else
      let k := min n (64 - dpa / 64 % 64)
      (dpa, k) :: blocksOf f (dpa + 64 * k) (n - k)

/-- The blocks of a range of n sectors, three at most. -/
def nearBlocks (dpa n : Nat) : List (Nat × Nat) := blocksOf 3 dpa n

/-- All blocks of a range have come. -/
def rangeReady (id part dpa n : Nat) (s : State) : Bool × State :=
  (nearBlocks dpa n).foldl (fun a p =>
    let r := nearReady id part p.1 a.2
    (a.1 && r.1, r.2)) (true, s)

/-- Ranges are asked for one after another: each only once those before it have come. The number of those that have come. -/
def rangesReady (id part : Nat) : List (Nat × Nat) → State → Nat × State
  | [], s => (0, s)
  | p :: l, s => match rangeReady id part p.1 p.2 s with
    | (false, t) => (0, t)
    | (true, t) =>
      let r := rangesReady id part l t
      (r.1 + 1, r.2)

/-- Reads n sectors from a DPA, block by block, all of which have come. -/
def nearRead (id part dpa n : Nat) (s : State) : List ReadSector × State :=
  (nearBlocks dpa n).foldl (fun a p =>
    let r := nearBlock id part p.1 p.2 a.2
    (a.1 ++ r.1, r.2)) ([], s)

/-- The dies that the tiles of source DPAs are read from: a write of their data goes out from there (R18). -/
def sourceDies (s : State) (part : Nat) (dpas : List Nat) : List Nat :=
  dpas.flatMap fun a => match dpaKey s part a with
    | some key => tileDies s key
    | none => []

/-- Writes sectors of one block for a command (R43, R64, R67, R289). -/
def nearWrite (id part dpa : Nat) (via : List Nat) (secs : List (List Byte × Bool)) (s : State) : WriteEnd × State :=
  match dpaKey s part dpa with
  | none => (.done, s)
  | some key => writeSectors (nearWho id dpa) via part key (dpa / 4096 % 16) (secs.zipIdx.map fun p => (dpa / 64 % 64 + p.2, p.1.1, p.1.2)) s

/-- The statuses that sources call for (R290): DECODE_DAMAGED and POISONED_SOURCE. -/
def sourceStatus (l : List ReadSector) : List Nat :=
  (if l.any (·.damaged) then [0x21] else []) ++ (if l.any fun x => x.poison && ! x.damaged then [0x20] else [])

/-! ### REDUCE (R291) -/

/-- Element i of bytes packed by R192. -/
def elemIn (bytes : Nat) (w i : Nat) : Nat := bytes / 2 ^ (w * i) % 2 ^ w

/-- Elements packed into bytes. -/
def packSector (w : Nat) (es : List Nat) : List Byte := packElems w es

/-- The sum, maximum or minimum of two integers, saturated to a width. -/
def intReduce (op w a b : Nat) : Nat :=
  let x := toInt w a
  let y := toInt w b
  let r := if op == 0x01 then x + y else if op == 0x05 then max x y else min x y
  let top : Int := (2 ^ (w - 1) : Nat)
  ofInt w (if r < - top then - top else if top - 1 < r then top - 1 else r)

/-- The FP32 pattern of an element with its scale byte; a NaN's pattern is free. -/
def elem32 (cp : CodePoints) (el : Elem) (bits sc free : Nat) : Nat :=
  if el == .float fp32 then bits
  else if sc == 255 then nanPattern fp32 free
  else toF32 free ((elemVal cp el bits).scale ((sc : Int) - 127))

/-- A sector of a REDUCE whose format has no scales: bytes of A and of B, and the number of its first element. -/
def reduceSector (s : State) (op fmt first : Nat) (a b : List Byte) : List Byte :=
  if op == 0x30 then List.zipWith (· &&& ·) a b
  else if op == 0x31 then List.zipWith (· ||| ·) a b
  else if op == 0x32 then List.zipWith (· ^^^ ·) a b
  else
    let el := elemD fmt
    let w := el.bits
    let x := ofBytes a
    let y := ofBytes b
    let cp := codePoints s
    packSector w ((List.range (512 / w)).map fun i =>
      let p := elemIn x w i
      let q := elemIn y w i
      let free := Config.freeAt s.fresh (first + i)
      match el with
      | .int _ _ => intReduce op w p q
      | _ =>
        let r := vecLane op (elem32 cp el p 127 free) (elem32 cp el q 127 free) 0 0 0 free
        if el == .float fp32 then flush32 r else packElem cp el (fmtNear s fmt) (fmtSat s fmt) free (ofF32 r))

/-- A sector of a block-scaled REDUCE: the elements of A and of B with a scale byte for each 32. It gives the sector
and the new scale bytes. (DESIGN CHOICE, log entry 41.) -/
def reduceScaled (s : State) (op fmt first : Nat) (a b sa sb : List Byte) : List Byte × List Nat :=
  let el := elemD fmt
  let w := el.bits
  let x := ofBytes a
  let y := ofBytes b
  let cp := codePoints s
  let bs := (List.range (512 / w / 32)).map fun j =>
    packBlock cp el (fmtNear s fmt) (Config.freeAt s.fresh (first + 32 * j)) ((List.range 32).map fun i =>
      let e := 32 * j + i
      let free := Config.freeAt s.fresh (first + e)
      ofF32 (vecLane op (elem32 cp el (elemIn x w e) (sa.getD j 0).toNat free)
        (elem32 cp el (elemIn y w e) (sb.getD j 0).toNat free) 0 0 0 free))
  (packSector w (bs.flatMap (·.2)), bs.map (·.1))

/-! ### The work of a command -/

/-- What one piece of a command gave: it waits, once it has issued a read or before, or went on to the next offset with statuses met,
the scale bytes it leaves to be written, and the poisoned sectors it carried or met. -/
inductive NearStep where
  | waits (reading : Bool) (t : State)
  | went (next : Nat) (met : List Nat) (scales : List Nat) (result : Option Nat) (poisoned : Nat) (t : State)

/-- The first difference of a COMPARE in sectors from an offset, the statuses it calls for and the poisoned sectors met (R290). -/
def compareSectors (o : Nat) : List ReadSector → List ReadSector → Option (Nat × List Nat × Nat)
  | a :: as, b :: bs =>
    if a.bad || b.bad then some (o, sourceStatus [a, b], ([a, b].filter (·.bad)).length)
    else match (List.range 64).find? fun i => a.bytes[i]? != b.bytes[i]? with
      | some i => some (o + i, [], 0)
      | none => compareSectors (o + 64) as bs
  | _, _ => none

/-- The bytes from an offset to the first end of a block of any of the ranges that begin at some bases. -/
def pieceOf (bases : List Nat) (o len : Nat) : Nat := bases.foldl (fun n b => min n (4096 - (b + o) % 4096)) (len - o)

/-- A destination block that a range [lo, hi) covers whole and that is coded or DAMAGED is written whole, without a decode (R43, R67). -/
def wholeBlock (s : State) (part dpa lo hi : Nat) : Bool :=
  dpa % 4096 == 0 && decide (lo ≤ dpa) && decide (dpa + 4096 ≤ hi) && match dpaKey s part dpa with
    | none => false
    | some key => blockLen (tdeOf s key) (dpa / 4096 % 16) != 0 || isDamaged (tdeOf s key) (dpa / 4096 % 16)

/-- The bytes of the next piece of a command that writes: each sector goes as soon as its sources have come (R288), but for a
block that is to be written whole. -/
def writtenPiece (c : Cmd) (sources : List Nat) (o len total : Nat) (s : State) : Nat :=
  let dst := c.bits 179 128
  if wholeBlock s c.part (dst + o) dst (dst + total) then min 4096 (len - o) else pieceOf (dst :: sources) o len

/-- The destination of a piece is written. -/
def nearPut (id : Nat) (c : Cmd) (o n : Nat) (sources : List Nat) (secs : List (List Byte × Bool)) (met scales : List Nat) (s : State) :
    NearStep :=
  match nearWrite id c.part (c.bits 179 128 + o) (sourceDies s c.part sources) secs s with
  | (.late, u) => .waits true u
  | (.done, u) => .went (o + n) met scales none (secs.filter (·.2)).length (used u)
  | (.lost st, u) => .went (o + n) (met ++ [st]) scales none (secs.filter (·.2)).length (used u)

/-- One piece of a FILL, COPY or COMPARE, or of a REDUCE of a format without scales. -/
def plainPiece (id : Nat) (c : Cmd) (o : Nat) (s : State) : NearStep :=
  let len := c.bits 359 320
  let srcA := c.bits 243 192
  let srcB := c.bits 307 256
  let sources := if c.op == 0x20 then [] else if c.op == 0x21 then [srcA] else [srcA, srcB]
  let n := if c.op == 0x22 then pieceOf sources o len else writtenPiece c sources o len len s
  let g := rangesReady id c.part (sources.map fun b => (b + o, n / 64)) s
  if g.1 < sources.length then .waits (g.1 != 0) g.2
  else if c.op == 0x20 then
    nearPut id c o n [] (List.replicate (n / 64) ((List.replicate 8 (toBytes 8 (c.bits 447 384))).flatten, false)) [] [] s
  else
    let a := nearRead id c.part (srcA + o) (n / 64) g.2
    if c.op == 0x21 then nearPut id c o n [srcA + o] (a.1.map fun x => (x.bytes, x.bad)) (sourceStatus a.1) [] a.2
    else
      let b := nearRead id c.part (srcB + o) (n / 64) a.2
      if c.op == 0x22 then
        match compareSectors o a.1 b.1 with
        | some (r, met, bad) => .went len met [] (some r) bad b.2
        | none => .went (o + n) [] [] none 0 b.2
      else
        let w := if c.bits 367 360 == 0 then 8 else (elemD (c.bits 367 360)).bits
        nearPut id c o n [srcA + o, srcB + o] ((List.zip a.1 b.1).zipIdx.map fun p =>
          if p.1.1.bad || p.1.2.bad then (zeros 64, true)
          else (reduceSector b.2 (c.bits 375 368) (c.bits 367 360) ((o / 64 + p.2) * (512 / w)) p.1.1.bytes p.1.2.bytes, false))
          (sourceStatus (a.1 ++ b.1)) [] b.2

/-- One piece of a block-scaled REDUCE: elements first, their new scales kept, then the scale sectors (R198, R291). A
scale of 256 stands for a poisoned one. -/
def scaledPiece (id : Nat) (c : Cmd) (o : Nat) (kept : List Nat) (s : State) : NearStep :=
  let len := c.bits 359 320
  let fmt := c.bits 367 360
  let w := (elemD fmt).bits
  let per := 512 / w / 32
  let total := nearLen c.desc
  if len ≤ o then
    let n := writtenPiece c [] o total total s
    let secs := (List.range (n / 64)).map fun i =>
      let l := slice kept (o - len + 64 * i) 64 0
      if l.contains 256 then (zeros 64, true) else (l.map (BitVec.ofNat 8), false)
    nearPut id c o n [] secs [] [] s
  else
    let srcA := c.bits 243 192
    let srcB := c.bits 307 256
    let n := writtenPiece c [srcA, srcB] o len total s
    let first := o / 64 * per
    let lo := first / 64
    let hi := (first + n / 64 * per + 63) / 64
    let g := rangesReady id c.part
      [(srcA + o, n / 64), (srcB + o, n / 64), (srcA + len + 64 * lo, hi - lo), (srcB + len + 64 * lo, hi - lo)] s
    if g.1 < 4 then .waits (g.1 != 0) g.2
    else
      let a := nearRead id c.part (srcA + o) (n / 64) g.2
      let b := nearRead id c.part (srcB + o) (n / 64) a.2
      let sa := nearRead id c.part (srcA + len + 64 * lo) (hi - lo) b.2
      let sb := nearRead id c.part (srcB + len + 64 * lo) (hi - lo) sa.2
      let scale := fun (l : List ReadSector) (j : Nat) => ((l.getD (j / 64 - lo) poisonSector).bytes.getD (j % 64) 0)
      let lost := fun (l : List ReadSector) (j : Nat) => (l.getD (j / 64 - lo) poisonSector).bad
      let out := (List.zip a.1 b.1).zipIdx.map fun p =>
        let js := span (first + p.2 * per) per
        if p.1.1.bad || p.1.2.bad || js.any (lost sa.1) || js.any (lost sb.1) then ((zeros 64, true), List.replicate per 256)
        else
          let r := reduceScaled sb.2 (c.bits 375 368) fmt ((o / 64 + p.2) * (512 / w)) p.1.1.bytes p.1.2.bytes
            (js.map (scale sa.1)) (js.map (scale sb.1))
          ((r.1, false), r.2)
      nearPut id c o n [srcA + o, srcB + o] (out.map (·.1)) (sourceStatus (a.1 ++ b.1 ++ sa.1 ++ sb.1)) (out.flatMap (·.2)) sb.2

/-- The bytes a command goes through. -/
def nearTotal (c : Cmd) : Nat := nearLen c.desc

/-- RESULT0 of a FILL, COPY or REDUCE that has reached an offset (Table 7-4): bytes, or elements. -/
def nearResult (c : Cmd) (o : Nat) : Nat :=
  if c.op == 0x23 then min o (c.bits 359 320) * 8 / (if c.bits 367 360 == 0 then 8 else (elemD (c.bits 367 360)).bits) else o

/-- A command that has gone on to an offset needs no block decoded for it but those in which it goes on. -/
def keepDecoded (id : Nat) (c : Cmd) (o : Nat) (s : State) : State :=
  let len := c.bits 359 320
  let per := 512 / (elemD (c.bits 367 360)).bits / 32
  let at_ := [c.bits 243 192, c.bits 307 256].flatMap fun b => [(b + o) / 4096, (b + len + 64 * (o / 64 * per / 64)) / 4096]
  forgetReads (fun w => w.take 2 == [1, id] && ! at_.contains (w.getD 2 0)) s

/-- Goes on with a command from where it stands, unless its admission point holds it, but for one piece that has been let go (R437); `todo`
holds the offset reached and then the scales kept. Fuel counts pieces. -/
def nearGo (id : Nat) : Nat → Bool → State → State
  | 0, _, s => s
  | f + 1, go, s =>
    match cmdOf s id with
    | none => s
    | some c =>
      let o := c.todo.headD 0
      if nearTotal c ≤ o || (! go && heldMaster s c.part) then s
      else
        let scaled := c.op == 0x23 && isMx (c.bits 367 360)
        match (if scaled then scaledPiece id c o c.todo.tail s else plainPiece id c o s) with
        | .waits reading t => if c.op == 0x22 && reading then markStarted id t else t
        | .went next met scales result poisoned t =>
          nearGo id f false (keepDecoded id c next (modCmd id (fun q =>
            { q with
              started := true
              todo := (if result.isSome then nearTotal c else next) :: (c.todo.tail ++ scales)
              met := dedup (q.met ++ met)
              result0 := result.getD (if c.op == 0x22 then q.result0 else nearResult c next)
              result1 := q.result1 + poisoned }) t))

/-- The pieces that a command has at most. -/
def nearFuel (c : Cmd) : Nat := nearTotal c / 4096 * 5 + 8

/-- A near-memory command's work so far as its tiles allow, the piece that its admission point has let go first. (DESIGN CHOICE, log entry
41.) -/
def nearRun (id : Nat) (go : Bool) (s : State) : State :=
  match cmdOf s id with
  | none => s
  | some c => nearGo id (nearFuel c) go s

/-- A near-memory command begins (R288); a COMPARE that finds no difference returns 2^64 - 1. -/
def nearBegin (id : Nat) (c : Cmd) (s : State) : State :=
  nearRun id false (if c.op == 0x22 then modCmd id (fun q => { q with result0 := two64 - 1 }) s else s)

/-- A near-memory command is at work. -/
def nearActive (c : Cmd) : Bool := c.begun && ! c.discard && decide (0x20 ≤ c.op) && decide (c.op ≤ 0x23)

/-- NEAR_MEMORY_DONE: the rest of the range is gone through, and the command completes once nothing is left (R288). -/
def nearDone (id : Nat) (s : State) : State :=
  match cmdOf s id with
  | none => s
  | some c =>
    if ! nearActive c then s
    else
      let t := nearRun id false s
      match cmdOf t id with
      | none => t
      | some d => if nearTotal d ≤ d.todo.headD 0 then finishCmd id t else t

end Sys2Proof.Machine
end

