-- ==== Sys2Proof/Machine/Drive.lean ====
section
/-! DEFINITION. What the device does of itself as soon as it can: waiters are told how their work ended, and
whatever waited for that goes on. `settle` runs after each command that may free something. The ends of a command
say which parts of State it may change. -/

namespace Sys2Proof.Machine

/-! ### Notices to commands (R277, R278, R285) -/

/-- What the end of one subject adds to a MOVE, PARK, UNPARK or DROP: RESULT0, RESULT1 and the statuses met. -/
def subjectEnds (op : Nat) (e : Ending) : Nat × Nat × List Nat :=
  match op, e with
  | _, .done => (1, 0, [])
  | 1, .aborted => (0, 1, [0x25])
  | 1, .refused => (0, 1, [])
  | 1, .noUnderlay => (0, 1, [0x22])
  | 1, .held => (0, 1, [0x14])
  | 1, .poisoned => (0, 1, [0x20])
  | 1, .restored => (0, 1, [0x20])
  | 1, .failed => (0, 1, [0x22])
  | 3, .aborted => (0, 1, [0x25])
  | 3, .refused => (0, 1, [0x25])
  | 3, .noUnderlay => (0, 1, [0x22])
  | 3, .held => (0, 1, [0x14])
  | 3, .poisoned => (0, 0, [0x20])
  | 3, .failed => (0, 1, [0x22])
  | _, .held => (0, 0, [0x14])
  | _, .poisoned => (0, 0, [0x20])
  | _, .restored => (0, 0, [0x20])
  | _, .aborted => (0, 0, [0x25])
  | _, .refused => (0, 0, [0x25])
  | _, .noUnderlay => (0, 0, [0x22])
  | _, .failed => (0, 0, [0x22])

/-- A command that waits for nothing more completes. -/
def finishIdle (id : Nat) (s : State) : State :=
  match cmdOf s id with
  | none => s
  | some c => if c.todo.isEmpty then finishCmd id s else s

/-- A subject of a command has ended. An extent that landed for a MOVE lets its tiles be moved; the tiles of an extent whose unpark ends
without landing them are not moved, and those of a lost image count nowhere (R277, R278). -/
def cmdNotice (id : Nat) (n : Notice) (s : State) : State :=
  match cmdOf s id with
  | none => s
  | some c =>
    let whole := decide (2 ^ 40 ≤ n.subject)
    let keys := c.todo.filter fun k => extOf k == n.subject - 2 ^ 40
    if c.op == 1 && whole && n.ending == .done then
      keys.foldl (fun u k => moveTile id c k u) (markStarted id s)
    else if c.op == 1 && whole then
      let r := subjectEnds 1 n.ending
      finishIdle id (modCmd id (fun q => { q with
        todo := q.todo.filter fun k => ! keys.contains k
        result1 := if n.ending == .poisoned then q.result1 else q.result1 + keys.length * r.2.1
        met := if keys.isEmpty then q.met else q.met ++ r.2.2 }) s)
    else if ! c.todo.contains n.subject then s
    else
      let r := subjectEnds c.op n.ending
      finishIdle id (modCmd id (fun q => { q with
        started := true
        todo := q.todo.filter (· != n.subject)
        result0 := q.result0 + r.1
        result1 := q.result1 + r.2.1
        met := q.met ++ r.2.2 }) s)

/-- Tells one waiter. A run-ahead move or an ageing pass waits for nothing (R251, R62). -/
def deliverOne (n : Notice) (s : State) : State :=
  match n.who with
  | .cmd id => cmdNotice id n s
  | .session h =>
    match sessParkOf s false h with
    | some p => parkNotice p n s
    | none => match wakeOf s h with
      | some w => wakeNotice w n s
      | none => s
  | .pfx k =>
    match sessParkOf s true k with
    | some p => parkNotice p n s
    | none => s
  | .expo id => expoNotice id n s
  | .runAhead _ _ => s
  | .ager => s

/-- Tells the waiters, oldest notice first; a notice that stands twice is told once. Fuel counts notices.
(DESIGN CHOICE, log entry 10.) -/
def deliver : Nat → State → State
  | 0, s => s
  | f + 1, s =>
    match s.tier.notices with
    | [] => s
    | n :: rest => deliver f (deliverOne n (s.setTier { s.tier with notices := rest.filter fun m => m != n }))

/-! ### What goes on by itself -/

/-- A command whose started point is its fetch starts once its FENCE no longer holds it back (Tables 7-3 and 7-4). -/
def liftFences (s : State) : State :=
  s.queue.cmds.foldl (fun u q => if ! q.2.started && fetchStarts q.2.desc && ! fenced u q.2 then markStarted q.1 u else u) s

/-- The extent commands and MOVEs whose work has begun to run have started (Table 7-4). -/
def markRunning (s : State) : State :=
  let ws := s.tier.moves.flatMap (·.waiters) ++ s.tier.parks.flatMap (·.waiters) ++ s.tier.unparks.flatMap (fun u => u.req.waiters)
  ws.foldl (fun u w => match w with
    | .cmd id => if (cmdOf u id).any (fun c => ! c.started) then markStarted id u else u
    | _ => u) s

/-- An EXPOSE ADD or COMMIT and a PUBLISH that no longer wait to begin have started (Table 7-4). -/
def markExpos (s : State) : State :=
  s.share.expos.foldl (fun u q => match q.2.cmd with
    | some id => if (cmdOf u id).any (fun c => c.begun && ! c.started && (c.op == 0x33 || 2 ≤ q.2.stage)) then markStarted id u else u
    | none => u) s

/-- Session parks and wakes go on (R108, R113, R118). -/
def pumpSessions (s : State) : State :=
  let s1 := s.sess.parks.foldl (fun u p => endDrops p u) s
  let devs := fun (u : State) (p : SessPark) => if p.isPrefix then pfxDevs u (pfxOf u p.entry) else parkDevs p u
  let s2 := s1.sess.parks.foldl (fun u p => if engineUp u p.entry (devs u p) then parkCheck p u else u) (pumpEnds s1)
  s2.sess.wakes.foldl (fun u w => pumpWake 600 w.entry u) s2

/-- Every sequencer of the running runs looks ahead: moves may have ended (R251). -/
def pumpAhead (s : State) : State :=
  (s.cmp.runs.filter fun r => r.granted && r.stopping.isNone).foldl (fun u r =>
    (List.range r.seqs.length).foldl (fun v f => runAhead r.id f v) u) s

/-! ### Admission of mover work (R437, R438) -/

/-- Puts an element before the first one of a list that does not rank below it. -/
def rankIn {α : Type} (rank : α → Nat) (x : α) : List α → List α
  | [] => [x]
  | y :: l => if rank y < rank x then y :: rankIn rank x l else x :: y :: l

/-- The requests of a list in the order in which their admission points let them go (R438): those of commands with a deadline by expiry,
then at each point the masters in turn, and each one's in arrival order. -/
def admitOrder {α : Type} (expiry : α → Option Nat) (point master : α → Nat) (l : List α) : List α :=
  let rank := fun (p : α × Nat) => match expiry p.1 with
    | some e => e
    | none => 2 ^ 64
      + ((l.take p.2).filter fun q => point q == point p.1 && master q == master p.1 && (expiry q).isNone).length
  (l.zipIdx.foldr (rankIn rank) []).map (·.1)

/-- The MD whose admission point a master's request on an extent meets (Table 12-1): the directory MD, or that of the session service's
engine. -/
def admitPoint (s : State) (master ext : Nat) : Nat := if master == 128 then 8 else dirMd s ext

/-- The earliest expiry of the commands that wait for a request. -/
def expiryOf (s : State) (ws : List Waiter) : Option Nat :=
  ws.foldl (fun a w => match w, a with
    | .cmd id, some e => some (((cmdOf s id).bind (·.expiry)).elim e (min e))
    | .cmd id, none => (cmdOf s id).bind (·.expiry)
    | _, _ => a) none

/-- The requests of a queue of moves after the admission point has let go those of the masters that may go. -/
def admitMoves (may : Nat → Bool) (s : State) (l : List MoveReq) : List MoveReq :=
  let new := l.filter fun r => ! r.admitted && may r.master
  if new.isEmpty then l
  else (l.filter (·.admitted)) ++ (admitOrder (fun r => expiryOf s r.waiters) (fun r => admitPoint s r.master (extOf r.key)) (·.master) new).map
      (fun r => { r with admitted := true })
    ++ l.filter fun r => ! r.admitted && ! may r.master

/-- The same of a queue of parks or unparks. -/
def admitExts (may : Nat → Bool) (s : State) (l : List ExtReq) : List ExtReq :=
  let new := l.filter fun r => ! r.admitted && may r.master
  if new.isEmpty then l
  else (l.filter (·.admitted)) ++ (admitOrder (fun r => expiryOf s r.waiters) (fun r => admitPoint s r.master r.ext) (·.master) new).map
      (fun r => { r with admitted := true })
    ++ l.filter fun r => ! r.admitted && ! may r.master

/-- The MDs let go the requests of the masters that may go. -/
def admitWork (may : Nat → Bool) (s : State) : State :=
  s.setTier { s.tier with
    moveQueue := admitMoves may s s.tier.moveQueue, parkQueue := admitExts may s s.tier.parkQueue
    unparkQueue := admitExts may s s.tier.unparkQueue }

/-- The MDs let go what no budget holds (R437). -/
def pumpAdmit (s : State) : State := admitWork (fun m => ! heldMaster s m) s

/-- The steps that the frames' admission points hold for a master may issue from its rollover on (R437). -/
def letSteps (m : Nat) (s : State) : State :=
  (s.cmp.runs.filter fun r => 64 + r.part == m).foldl (fun u r =>
    r.seqs.zipIdx.foldl (fun v q => match stepAt v r q.2 q.1 with
      | some w => if q.1.stalledSince.isSome && regulated v r q.1 w then modSeq r.id q.2 (fun x => { x with admitted := true }) v else v
      | none => v) u) s

/-- The near-memory commands of a partition that its admission points held go on, those with a deadline first (R437, R438). -/
def letNear (part : Nat) (s : State) : State :=
  let mine := s.queue.cmds.filter fun q => nearActive q.2 && q.2.part == part
  (admitOrder (fun (q : Nat × Cmd) => q.2.expiry) (fun _ => 0) (fun _ => part) mine).foldl (fun u q => nearRun q.1 true u) s

/-- The other work that the admission points held for a master goes (R437): strips and near-memory commands of a partition, the digest and
the appends of its programs, passes, or what the device does in the background. -/
def letWork (m : Nat) (s : State) : State :=
  if m < 64 then letNear m (letStrips m s)
  else if m < 128 then
    (s.cmp.runs.filter fun r => r.appending && 64 + r.part == m).foldl (fun u r => applyAppend r.id true u)
      (modRegJob (m - 64) (fun j => { j with admitted := true }) s)
  else if m == 129 then letScrubs s
  else if m == backgroundMaster then
    pumpRelocs true (s.setDram { s.dram with reserveGo := s.dram.reserveGo || s.dram.reserveScrub == 1 })
  else s

/-- What the admission points held for a master goes: its mover work, its host requests in arrival order, and the rest (R437). While
calibration runs, the background's yields to it. -/
def letGo (m : Nat) (s : State) : State :=
  if m == backgroundMaster && calibrating s then s
  else
    let mine := s.regul.held.filter fun q => q.1 == m
    letWork m (mine.foldl (fun u q => runHeld q.2 u)
      (admitWork (· == m) (s.setRegul { s.regul with held := s.regul.held.filter fun q => q.1 != m })))

/-- A master's window rolls over, and what was held goes, whatever the new window's budget (R434, R437). (DEDUCED, log entry 14.) -/
def windowEnds (m : Nat) (s : State) : State := letGo m (rollover m (letSteps m s))

/-- Everything in the tiers and the services that waits is looked at, and congestion is judged anew (R436). -/
def pumpAll (s : State) : State :=
  let s1 := retryHeld (retryDeferred (pumpUnderlay (judge s)))
  let s2 := releaseAdmitted s1.regul.held.length s1
  let s3 := pumpClaims (pumpExpos (pumpSessions (markRunning (liftFences s2))))
  let s4 := nextAppend (pumpAhead (scrubFrames (scrubRegs (pumpLost (pumpScrubs (pumpShares s3))))))
  pumpAdmit (s4.tier.dirMds.foldl (fun u m => reserveCheck m u) (markExpos s4))

/-- Waiters are told and what waited goes on, until nobody is left to tell. (DESIGN CHOICE, log entry 10.) -/
def rounds : Nat → State → State
  | 0, s => s
  | n + 1, s =>
    let t := pumpAll (deliver 4096 (tellLosses s))
    if t.tier.notices.isEmpty && t.tier.lost.isEmpty then t else rounds n t

/-- The device comes to rest after a command: tiers and services, tags, latency reports, the CDAT, the clocks and
the signer (R343, R337, R347, R496, R461). None of it burns a fuse (R447). (DESIGN CHOICE, log entry 7.)
(DESIGN CHOICE, log entry 10.) -/
def settle (s : State) : State :=
  let s1 := judge (rounds 8 s)
  let s2 := (List.range 4).foldl (fun u p => if (portOf u p).tagWaits.isEmpty then u else pumpTags p (portOf u p).tagWaits.length u) s1
  (signAll (pumpClock (pumpCdat (pumpLtr s2)))).setFuses s.fuses

/-! ### Ends of commands: which parts of State they may change -/

/-- The queue of commands is the sender's, and fuses are burned by a burn alone (R447): a command leaves both. -/
def leaving (s t : State) : State := { t with pending := s.pending, fuses := s.fuses }

/-- A command that may burn a fuse is over. -/
def overOd (s t : State) : Host.Outcome State Fault Refusal := .next ((settle t).setPending s.pending)

/-- A command that may free work elsewhere is over. -/
def atRest (s t : State) : Host.Outcome State Fault Refusal := .next (leaving s (settle t))

/-- A command on which nothing else waits is over. -/
def quick (s t : State) : Host.Outcome State Fault Refusal := .next (leaving s t)

/-- A security message is over: it changes the security engine, the flash's records and what goes out, with events
and counts, and nothing else. -/
def overSec (s t : State) : Host.Outcome State Fault Refusal :=
  .next { s with sec := t.sec, flash := t.flash, out := t.out, fresh := t.fresh, logs := t.logs, ctr := t.ctr, link := t.link }

/-- A request that only reads is over: an answer goes out, and errors of the request are logged at its function. -/
def overRead (s t : State) : Host.Outcome State Fault Refusal :=
  .next { s with out := t.out, link := t.link, fresh := t.fresh }

/-- A step of a frame's units is over: no tile's bytes, no map entry and no flash have changed. -/
def overStep (s t : State) : Host.Outcome State Fault Refusal :=
  .next { leaving s t with
    und := s.und, flash := s.flash, start := s.start, dram := s.dram, pkg := s.pkg, od := s.od
    tier := { t.tier with mem := s.tier.mem, poison := s.tier.poison, exts := s.tier.exts } }

end Sys2Proof.Machine
end

