-- ==== Sys2Proof/Machine/TierCmds.lean ====
section
/-! DEFINITION. Meanings of the rows of chapters 1 and 2: purlin frames, CXL.mem accesses, moves, parks, unparks and
the commands by extent. -/

namespace Sys2Proof.Machine

open Sys2Proof

/-! ### Purlin frames (R18) -/

/-- The data lanes of the bridges carry frames: in S1, S2 and Safelight the sideband is the only path in use (R20). -/
def lanesUsed (s : State) : Bool := s.start.stage == .train || isLit s

/-- A bridge's link is declared failed: every port is contained with cause 5 (R18, R353). (DEDUCED, log entry 9.) -/
def purlinFails (bridge : Nat) (s : State) : State :=
  if s.link.failed.contains bridge || ! lanesUsed s then s
  else
    let s1 := raise 0x1001 none bridge (s.setLink { s.link with failed := setInsert bridge s.link.failed })
    (List.range 4).foldl (fun u p => contain p 5 (logPort p .uncorrectableInternal u)) s1

/-- A frame's arrival over one direction of a bridge: acknowledged, or asked for again. The sixteenth replay in a row that
fails its CRC fails the link. (DEDUCED, log entry 9.) -/
def purlinArrives (bridge : Nat) (up : Bool) (bytes : List Byte) (crc : Nat) (s : State) : State :=
  if s.link.failed.contains bridge || ! lanesUsed s then s
  else
    let k := 2 * bridge + ofBool up
    let p := MapOps.getD k {} s.link.purlins
    let set := fun (q : Purlin) (u : State) => u.setLink { u.link with purlins := MapOps.put k {} q u.link.purlins }
    if crc32 bytes == crc then
      let s1 := emit .purlinAck [bridge, ofBool up] [] (set { replay := [], fails := 0, taken := p.taken + 1 } s)
      if p.replay.isEmpty then s1 else (List.range 4).foldl (fun u n => logPort n .correctedInternal u) s1
    else
      let q : Purlin := { p with replay := [bytes], fails := if p.replay.isEmpty then 0 else p.fails + 1 }
      if 16 ≤ q.fails then purlinFails bridge (set q s)
      else emit .purlinReplay [bridge, ofBool up] [] (set q s)

/-- PURLIN_FRAME (R18). (DEDUCED, log entry 9.) -/
def execPurlinFrame (bridge : Fin 16) (up : Bool) (bytes : List Byte) (crc : Nat) (s : State) : Host.Outcome State Fault Refusal :=
  atRest s (purlinArrives bridge.val up bytes crc s)

/-- PURLIN_LINK_FAILED (R18). -/
def execPurlinLinkFailed (bridge : Fin 16) (s : State) : Host.Outcome State Fault Refusal := atRest s (purlinFails bridge.val s)

/-! ### CXL.mem accesses (R23, R358) -/

/-- A port takes CXL.mem requests for its LDs: it is lit and up with them (R330, R331, R509). An FLR leaves them untouched (R350). -/
def memServed (s : State) (port : Nat) : Bool := isLit s && (portOf s port).up && (portOf s port).mld

/-- CXL_MEM_READ (R23). -/
def execCxlMemRead (port : Fin 4) (ld : Fin 16) (spid : Nat) (tag : Nat) (hpa : Nat) (s : State) : Host.Outcome State Fault Refusal :=
  atRest s (if memServed s port.val then
    admitReq (.cxlMemRead port ld spid tag hpa) port.val ld.val spid (hostRequest port.val ld.val spid tag hpa none) s else s)

/-- CXL_MEM_WRITE (R358). -/
def execCxlMemWrite (port : Fin 4) (ld : Fin 16) (spid : Nat) (tag : Nat) (hpa : Nat) (enables : BitVec 64) (bytes : List Byte)
    (poison : Bool) (s : State) : Host.Outcome State Fault Refusal :=
  atRest s (if memServed s port.val then
    admitReq (.cxlMemWrite port ld spid tag hpa enables bytes poison) port.val ld.val spid
      (hostRequest port.val ld.val spid tag hpa (some (enables, bytes, poison))) s else s)

/-! ### Moves (R44 to R46) -/

/-- The running move of a tile goes on; nothing happens where none runs. (DESIGN CHOICE, log entry 7.) -/
def onMove (key : Nat) (f : Move → State → State) (s : State) : State :=
  match moveOf s key with
  | some m => f m s
  | none => s

/-- MOVE_START (R44). -/
def execMoveStart (md : Fin 8) (s : State) : Host.Outcome State Fault Refusal := atRest s (moveStart md.val s)

/-- The dies of a running move can reach each other (R18). -/
def moveUp (s : State) (m : Move) : Bool := diesUp s [dirMd s (extOf m.key), (tdeOf s m.key).homeMd, m.md]

/-- COPY_PASS_END (R44): it ends once the blocks that the pass codes are coded. Over a failed link it waits (R18). -/
def execCopyPassEnd (ext : Nat) (tile : Fin 32) (s : State) : Host.Outcome State Fault Refusal :=
  atRest s (onMove (tileKey ext tile.val) (fun m u =>
    if m.window || m.ready || coding u m.key false || ! moveUp u m then u else passEnd m u) s)

/-- FLIP_WINDOW_CLEAR (R44). -/
def execFlipWindowClear (ext : Nat) (tile : Fin 32) (s : State) : Host.Outcome State Fault Refusal :=
  atRest s (onMove (tileKey ext tile.val) (fun m u => if m.window && moveUp u m then windowClear m u else u) s)

/-- A flip window reaches 2 µs (R45): that of the tile's move, or that of its extent's park (R72). The pass counts as one that left the
tile, or the extent, dirty. Over a failed link the work keeps its state (R18). -/
def windowTimeout (ext key : Nat) (s : State) : State :=
  match moveOf s key with
  | some m => if m.window && moveUp s m then windowDirty m (countMax 0x3020 6 2000 s) else s
  | none => match parkOf s ext with
    | some p => if p.window && ! p.committing && parkUp s ext then parkDirty p (countMax 0x3020 6 2000 s) else s
    | none => s

/-- FLIP_WINDOW_TIMEOUT (R45). (DESIGN CHOICE, log entry 8.) -/
def execFlipWindowTimeout (ext : Nat) (tile : Fin 32) (s : State) : Host.Outcome State Fault Refusal :=
  atRest s (windowTimeout ext (tileKey ext tile.val) s)

/-- A free-pending slot whose last forwarded read has returned is free (R46). (DESIGN CHOICE, log entry 19.) -/
def slotReturns (k : Nat) (s : State) : State :=
  match MapOps.get? k s.tier.slots with
  | some (.freePending 0) => freeSlot k s
  | _ => s

/-- FREE_PENDING_SLOT_RETURN (R46). -/
def execFreePendingSlotReturn (batten : Bool) (md : Fin 8) (slot : Nat) (s : State) : Host.Outcome State Fault Refusal :=
  atRest s (slotReturns (slotKey (if batten then .batten else .ridge) md.val slot) s)

/-! ### Time limits of held accesses (R43, R64, R79, R80) -/

/-- DAMAGED_HOLD_TIMEOUT (R43). (DESIGN CHOICE, log entry 8.) -/
def execDamagedHoldTimeout (ext : Nat) (tile : Fin 32) (block : Fin 16) (s : State) : Host.Outcome State Fault Refusal :=
  atRest s (dropDamHeld (fun h => h.key == tileKey ext tile.val && h.sector / 64 == block.val) s)

/-- Takes the first held access that a test picks. -/
def takeHeld (f : Held → Bool) (g : Held → State → State) (s : State) : State :=
  match s.tier.held.find? f with
  | some h => g h (s.setTier { s.tier with held := s.tier.held.erase h })
  | none => s

/-- A tile whose write found no home slot in time is POISONED, and NO_FREE_SLOT is raised for its partition (R64). -/
def slotLate (key : Nat) (s : State) : State :=
  raise 0x0208 (some (ownerOf s (extOf key))) 0 (if kindOf s (extOf key) == 0 then s else poisonTile key false s)

/-- The oldest wait of the device's own writes to a tile that has not ended. -/
def slotWaitOf (s : State) (key : Nat) : Option SlotWait := s.tier.slotWaits.find? fun w => w.key == key && ! w.late

/-- A wait ends: its write is discarded when it is tried again. -/
def endSlotWait (w : SlotWait) (s : State) : State :=
  s.setTier { s.tier with slotWaits := s.tier.slotWaits.map fun v => if v == w then { v with late := true } else v }

/-- A write that waited for a slot in vain (R64): a host's is answered, and one of the device itself is discarded when it is tried
again. -/
def noSlot (key : Nat) (s : State) : State :=
  if s.tier.held.any (fun h => h.key == key && h.onSlot) then
    takeHeld (fun h => h.key == key && h.onSlot) (fun h u => answerWrite h.req 1 (slotLate key u)) s
  else match slotWaitOf s key with
    | some w => slotLate key (endSlotWait w s)
    | none => s

/-- NO_SLOT_WAIT_TIMEOUT (R64). -/
def execNoSlotWaitTimeout (ext : Nat) (tile : Fin 32) (s : State) : Host.Outcome State Fault Refusal :=
  atRest s (noSlot (tileKey ext tile.val) s)

/-- A load that waited for a PARKED tile in vain (R79). -/
def loadLate (key tag : Nat) (s : State) : State :=
  takeHeld (fun h => h.key == key && h.onPark && h.store.isNone && h.req.tag == tag) (fun h u =>
    poisonAnswer h (raise 0x0201 (some h.req.part) 0 (countFor 0x3022 h.req.part u))) s

/-- UNPARK_LOAD_TIMEOUT (R79). (DESIGN CHOICE, log entry 8.) -/
def execUnparkLoadTimeout (ext : Nat) (tile : Fin 32) (tag : Nat) (s : State) : Host.Outcome State Fault Refusal :=
  atRest s (loadLate (tileKey ext tile.val) tag s)

/-- A store that waited for a PARKED tile in vain (R80). -/
def storeLate (key tag : Nat) (s : State) : State :=
  match s.tier.held.find? fun h => h.key == key && h.onPark && h.store.isSome && ! h.lost && h.req.tag == tag with
  | some h => loseHeld h s
  | none => s

/-- UNPARK_STORE_TIMEOUT (R80). -/
def execUnparkStoreTimeout (ext : Nat) (tile : Fin 32) (tag : Nat) (s : State) : Host.Outcome State Fault Refusal :=
  atRest s (storeLate (tileKey ext tile.val) tag s)

/-! ### Heat (R61, R62) -/

/-- HEAT_HALVING (R61). -/
def execHeatHalving (md : Fin 8) (s : State) : Host.Outcome State Fault Refusal := atRest s (heatHalving md.val s)

/-- HEAT_HALF_LIFE_WRITE (R61): the period itself is the sender's timer. -/
def execHeatHalfLifeWrite (road : Road) (value : Nat) (s : State) : Host.Outcome State Fault Refusal :=
  overOd s (odPut road false 0x2200 6 4 value s)

/-! ### Parks and unparks (R71 to R75) -/

/-- The running park of an extent goes on; nothing happens where none runs. (DESIGN CHOICE, log entry 7.) -/
def onPark (ext : Nat) (f : Park → State → State) (s : State) : State :=
  match parkOf s ext with
  | some p => f p s
  | none => s

/-- PARK_START (R71). -/
def execParkStart (md : Fin 8) (s : State) : Host.Outcome State Fault Refusal := atRest s (parkStart md.val s)

/-- PARK_PASS_END (R72): it ends once the blocks that the pass codes are coded. -/
def execParkPassEnd (ext : Nat) (s : State) : Host.Outcome State Fault Refusal :=
  atRest s (onPark ext (fun p u =>
    if p.window || p.committing || (tilesOf ext).any (fun k => coding u k true) || ! parkUp u ext then u else parkPassEnd p u) s)

/-- PARK_WINDOW_CLEAR (R72). -/
def execParkWindowClear (ext : Nat) (s : State) : Host.Outcome State Fault Refusal :=
  atRest s (onPark ext (fun p u => if p.window && ! p.committing && parkUp u ext then parkWindowClear p u else u) s)

/-- UNPARK_START (R74). -/
def execUnparkStart (md : Fin 8) (s : State) : Host.Outcome State Fault Refusal := atRest s (unparkStart md.val s)

/-- The flash translation reads a tile of an unpark now: for a wake, the reads of a lower layer come first, but for a tile that a touch
moved to the front (R78, R118). -/
def readNow (s : State) (u : Unpark) (key : Nat) : Bool :=
  u.urgent.contains key || ! s.sess.wakes.any fun w => w.issued.any fun p => p.2 == u.req.ext
    && w.issued.any fun q => q.1 < p.1 && s.tier.unparks.any fun v => v.req.ext == q.2

/-- A tile of a running unpark lands. (DESIGN CHOICE, log entry 19.) -/
def landTile (ext key : Nat) (lost : Bool) (s : State) : State :=
  match s.tier.unparks.find? fun u => u.req.ext == ext && u.remaining.contains key with
  | some u => if readNow s u key then tileLands u key lost s else s
  | none => s

/-- TILE_LANDED (R74). -/
def execTileLanded (ext : Nat) (tile : Fin 32) (lost : Bool) (s : State) : Host.Outcome State Fault Refusal :=
  atRest s (landTile ext (tileKey ext tile.val) lost s)

/-! ### Hints, MOVE, PARK, UNPARK and DROP (R55 to R59, R277, R278) -/

/-- A HINT by extent with a code. -/
def hintForm (code : Nat) (c : Cmd) : Bool := ! bitAt c.desc 146 && c.bits 149 147 == code

/-- A command by extent. -/
def extForm (c : Cmd) : Bool := ! bitAt c.desc 146

/-- A command by session. -/
def sessForm (c : Cmd) : Bool := bitAt c.desc 146

/-- HINT_HOT (R57). -/
def execHintHot (cmd : Nat) (s : State) : Host.Outcome State Fault Refusal :=
  atRest s (beginHint cmd (hintForm 1) (hintExts cmd) s)

/-- HINT_WARM (R55). -/
def execHintWarm (cmd : Nat) (s : State) : Host.Outcome State Fault Refusal :=
  atRest s (beginHint cmd (hintForm 2) (hintExts cmd) s)

/-- HINT_COLD (R55). -/
def execHintCold (cmd : Nat) (s : State) : Host.Outcome State Fault Refusal :=
  atRest s (beginHint cmd (hintForm 3) (hintExts cmd) s)

/-- HINT_PARK (R58). -/
def execHintPark (cmd : Nat) (s : State) : Host.Outcome State Fault Refusal :=
  atRest s (beginHint cmd (hintForm 4) (hintExts cmd) s)

/-- HINT_DROP (R59). -/
def execHintDrop (cmd : Nat) (s : State) : Host.Outcome State Fault Refusal :=
  atRest s (beginHint cmd (hintForm 5) (hintExts cmd) s)

/-- MOVE (R278). -/
def execMove (cmd : Nat) (s : State) : Host.Outcome State Fault Refusal :=
  atRest s (beginCmd cmd 1 (fun _ => true) (moveTiles cmd) s)

/-- PARK by extent (R277). -/
def execPark (cmd : Nat) (s : State) : Host.Outcome State Fault Refusal := atRest s (beginCmd cmd 3 extForm (parkExts cmd) s)

/-- UNPARK by extent (R75). -/
def execUnpark (cmd : Nat) (s : State) : Host.Outcome State Fault Refusal := atRest s (beginCmd cmd 4 extForm (unparkExts cmd) s)

/-- DROP by extent (R59). -/
def execDrop (cmd : Nat) (s : State) : Host.Outcome State Fault Refusal := atRest s (beginCmd cmd 5 extForm (dropExts cmd) s)

end Sys2Proof.Machine
end

