-- ==== Sys2Proof/Machine/SessCmds.lean ====
section
/-! DEFINITION. Meanings of the rows of chapter 3: hints and commands by session, SESSION-BIND, SESSION-END, the
engines' visits and the calendar. -/

namespace Sys2Proof.Machine

open Sys2Proof

/-- A HINT by session with a code. -/
def sessHint (code : Nat) (c : Cmd) : Bool := bitAt c.desc 146 && c.bits 149 147 == code

/-- SESSION_HINT_HOT (R109). -/
def execSessionHintHot (cmd : Nat) (s : State) : Host.Outcome State Fault Refusal :=
  atRest s (beginHint cmd (sessHint 1) (fun c u => wakeHint cmd c .ridge u) s)

/-- SESSION_HINT_WARM (R109). -/
def execSessionHintWarm (cmd : Nat) (s : State) : Host.Outcome State Fault Refusal :=
  atRest s (beginHint cmd (sessHint 2) (fun c u => wakeHint cmd c .batten u) s)

/-- SESSION_HINT_COLD (R109): it asks for KEEP. (DEDUCED, log entry 23.) -/
def execSessionHintCold (cmd : Nat) (s : State) : Host.Outcome State Fault Refusal :=
  atRest s (beginHint cmd (sessHint 3) (fun c u => parkRequest cmd c 1 false u) s)

/-- SESSION_HINT_PARK (R109): it asks for COLD. (DEDUCED, log entry 23.) -/
def execSessionHintPark (cmd : Nat) (s : State) : Host.Outcome State Fault Refusal :=
  atRest s (beginHint cmd (sessHint 4) (fun c u => parkRequest cmd c 2 false u) s)

/-- SESSION_HINT_DROP (R109): it asks for DROP. -/
def execSessionHintDrop (cmd : Nat) (s : State) : Host.Outcome State Fault Refusal :=
  atRest s (beginHint cmd (sessHint 5) (fun c u => parkRequest cmd c 3 false u) s)

/-- PARK_BY_SESSION (R109): it asks for its LEVEL. -/
def execParkBySession (cmd : Nat) (s : State) : Host.Outcome State Fault Refusal :=
  atRest s (beginCmd cmd 3 sessForm (fun c u => parkRequest cmd c (c.bits 154 153) true u) s)

/-- UNPARK_BY_SESSION (R116). -/
def execUnparkBySession (cmd : Nat) (s : State) : Host.Outcome State Fault Refusal :=
  atRest s (beginCmd cmd 4 sessForm (unparkSession cmd) s)

/-- DROP_BY_SESSION (R109): it asks for DROP. -/
def execDropBySession (cmd : Nat) (s : State) : Host.Outcome State Fault Refusal :=
  atRest s (beginCmd cmd 5 sessForm (fun c u => parkRequest cmd c 3 true u) s)

/-- A SESSION-BIND of a FORM (R279): 0 BIND, 1 UPDATE, 2 QUERY, 3 PREFIX. -/
def bindForm (form : Nat) (c : Cmd) : Bool := c.bits 147 146 == form

/-- BIND (R102). -/
def execBind (cmd : Nat) (s : State) : Host.Outcome State Fault Refusal :=
  atRest s (beginCmd cmd 0x10 (bindForm 0) (bindSession cmd) s)

/-- UPDATE (R102). -/
def execUpdate (cmd : Nat) (s : State) : Host.Outcome State Fault Refusal :=
  atRest s (beginCmd cmd 0x10 (bindForm 1) (updateSession cmd) s)

/-- QUERY (R102). -/
def execQuery (cmd : Nat) (s : State) : Host.Outcome State Fault Refusal :=
  atRest s (beginCmd cmd 0x10 (bindForm 2) (querySession cmd) s)

/-- PREFIX (R123). -/
def execPrefixForm (cmd : Nat) (s : State) : Host.Outcome State Fault Refusal :=
  atRest s (beginCmd cmd 0x10 (bindForm 3) (prefixSession cmd) s)

/-- SESSION_END of a session (R129). -/
def execSessionEnd (cmd : Nat) (s : State) : Host.Outcome State Fault Refusal :=
  atRest s (beginCmd cmd 0x11 (fun c => ! bitAt c.desc 147) (endSessionCmd cmd) s)

/-- SESSION_END_PREFIX (R126). -/
def execSessionEndPrefix (cmd : Nat) (s : State) : Host.Outcome State Fault Refusal :=
  atRest s (beginCmd cmd 0x11 (fun c => bitAt c.desc 147) (endPrefixCmd cmd) s)

/-- SESSION_SCAN_VISIT (R105). -/
def execSessionScanVisit (isPrefix : Bool) (entry : Nat) (s : State) : Host.Outcome State Fault Refusal :=
  atRest s (if ! isLit s then s
    else if isPrefix then (if (MapOps.get? entry s.sess.prefixes).isSome then visitPfx entry s else s)
    else if (MapOps.get? entry s.sess.recs).isSome then visitSession entry s else s)

/-- CALENDAR_SECONDS_WRITE (R111). -/
def execCalendarSecondsWrite (road : Road) (value : Nat) (s : State) : Host.Outcome State Fault Refusal :=
  overOd s (odPut road false 0x1200 1 8 value s)

end Sys2Proof.Machine
end

