-- ==== Sys2Proof/Machine/CodecCmds.lean ====
section
/-! DEFINITION. Meanings of the rows of chapter 4: test strips, and the ends of encodes and decodes. -/

namespace Sys2Proof.Machine

open Sys2Proof

/-- TESTSTRIP (R151). -/
def execTeststrip (cmd : Nat) (s : State) : Host.Outcome State Fault Refusal :=
  atRest s (beginCmd cmd 0x25 (fun _ => true) (stripStart cmd) s)

/-- TESTSTRIP_SAMPLE_START (R158). -/
def execTeststripSampleStart (md : Fin 8) (s : State) : Host.Outcome State Fault Refusal := atRest s (stripSample md.val s)

/-- TESTSTRIP_SKETCH_DONE (R153). -/
def execTeststripSketchDone (slot : Fin 64) (s : State) : Host.Outcome State Fault Refusal := atRest s (sketchDone slot.val s)

/-- TESTSTRIP_TRIAL_DONE (R156). -/
def execTeststripTrialDone (slot : Fin 64) (s : State) : Host.Outcome State Fault Refusal := atRest s (trialDone slot.val s)

/-- The dies that the codec's work on a block involves can reach each other (R18). -/
def codecUp (s : State) (md key : Nat) : Bool :=
  diesUp s (md :: dirMd s (extOf key) :: if isHome (tdeOf s key).tier then [(tdeOf s key).homeMd] else [])

/-- The end of a decode: of a host read, the verify decode of an encode, or the decode of a block that a move stores afresh. -/
def decodeEnd (j : DecodeJob) (error : List Byte) (s : State) : State :=
  match j.use with
  | .verify isPark encoder raw => verifyEnd j isPark encoder raw error s
  | .recode => recodeEnd j error s
  | .reader who => readerEnd j who error s
  | .host read => match s.tier.reads.find? (·.id == read) with
    | some r => hostDecodeEnd j r error s
    | none =>
      let u := count 0x3040 5 (decodeOver j s)
      match j.result error s with | .ok _ => u | .error e => recodeFails j e u

/-- A decode ends that a developer group runs; over a failed link it waits (R18, R169). (DESIGN CHOICE, log entry 7.) -/
def decodeEnds (job : Nat) (error : List Byte) (s : State) : State :=
  match s.codec.decodes.find? (·.id == job) with
  | none => s
  | some j => if j.stage == 2 && codecUp s j.md j.key then decodeEnd j error s else s

/-- DECODE_DONE (R171). -/
def execDecodeDone (job : Nat) (error : List Byte) (s : State) : Host.Outcome State Fault Refusal := atRest s (decodeEnds job error s)

/-- The end of an encode; over a failed link it waits (R18). -/
def encodeEnds (job : Nat) (error : List Byte) (s : State) : State :=
  match s.codec.encodes.find? (·.id == job) with
  | none => s
  | some j => if codecUp s j.md j.key then encodeEnd j error s else s

/-- ENCODE_DONE (R165). -/
def execEncodeDone (job : Nat) (error : List Byte) (s : State) : Host.Outcome State Fault Refusal := atRest s (encodeEnds job error s)

end Sys2Proof.Machine
end

