-- ==== Sys2Proof/Machine/RunCmds.lean ====
section
/-! DEFINITION. Meanings of the rows of chapters 5 and 6: runs and their steps, frames, and registration. -/

namespace Sys2Proof.Machine

open Sys2Proof

/-! ### Runs (R239, R240, R257 to R260) -/

/-- RUN (R257). -/
def execRun (cmd : Nat) (s : State) : Host.Outcome State Fault Refusal :=
  atRest s (beginCmd cmd 0x14 (fun _ => true) (runStart cmd) s)

/-- ATTEND (R258). -/
def execAttend (cmd : Nat) (s : State) : Host.Outcome State Fault Refusal :=
  atRest s (beginCmd cmd 0x12 (fun _ => true) (attendStart cmd) s)

/-- REBUILD (R120). -/
def execRebuild (cmd : Nat) (s : State) : Host.Outcome State Fault Refusal :=
  atRest s (beginCmd cmd 0x13 (fun _ => true) (rebuildStart cmd) s)

/-- A set of frames for a partition takes pooled ones. -/
def takesPool (s : State) (p : Nat) (fs : List Nat) : Bool := fs.any fun f => grantRank s p f == 2

/-- The partition's turn has come: no other partition that waits for pooled frames comes before it, counting from the
one served last (R239). -/
def turnOf (s : State) (p : Nat) : Bool :=
  let place := fun (q : Nat) => (q + 128 - (s.cmp.lastServed + 1)) % 64
  (List.range 64).all fun q => decide (place p ≤ place q) || match waitingHead s q with
    | none => true
    | some r => match grantFor s r with
      | none => true
      | some fs => ! takesPool s q fs

/-- The arguments a run starts with: those of a service run are loaded as its session stands when the run starts (R241, Table 6-16). -/
def startArgs (s : State) (r : Run) : List Nat :=
  match r.kind, r.session, r.attend with
  | 1, some h, some (first, append, _, addr) => serviceArgs s h false append first (argOf r 7) (argOf r 8) addr r.scratch
  | 2, some h, _ => serviceArgs s h true 0 0 0 0 0 r.scratch
  | _, _, _ => r.args

/-- A run is granted its frames: its arguments are loaded, tokens and loop indices are 0, and its sequencers look ahead (R241, R251). -/
def grantRun (r : Run) (fs : List Nat) (s : State) : State :=
  let pool := takesPool s r.part fs
  let s1 := fs.foldl (fun u f => giveFrame r f u) s
  let s2 := setRun { r with granted := true, grantUs := nowUs s, args := startArgs s r, tokens := [], seqs := fs.map fun f => { frame := f } } s1
  let s3 := countFor 0x3061 r.part (count 0x3060 1 (if r.kind == 2 then count 0x3030 6 s2 else s2))
  let s4 := if pool then s3.setCmp { s3.cmp with lastServed := r.part } else s3
  let s5 := match r.cmd with
    | some c => markStarted c s4
    | none => s4
  (List.range fs.length).foldl (fun u f => runAhead r.id f u) s5

/-- The head of a partition's queue is granted its frames if it can have them all; a run whose expiry instant has passed
never runs (R239, R240). Frames lost to R223 are replaced first. -/
def grantHead (p : Nat) (s0 : State) : State :=
  let s := (s0.cmp.runs.filter fun r => r.part == p && r.granted && r.stopping.isNone).foldl (fun u r => refillFrames r u) s0
  match waitingHead s p with
  | none => s
  | some r =>
    if r.expiry.any fun e => decide (e < nowUs s) then
      match r.cmd with
      | some c => deadline c s
      | none => s
    else match grantFor s r with
      | none => s
      | some fs => if takesPool s p fs && ! turnOf s p then s else grantRun r fs s

/-- RUN_GRANT (R239). -/
def execRunGrant (part : Fin 64) (s : State) : Host.Outcome State Fault Refusal := atRest s (grantHead part.val s)

/-- A frame switch ends: the frame has its new owner, or is out of use (R222, R223). -/
def switchEnds (f : Nat) (clear : Bool) (s : State) : State :=
  let fr := frameOf s f
  match fr.switching with
  | none => s
  | some dst =>
    if clear then
      let s1 := modFrame f (fun x => { x with owner := dst, sinceUs := nowUs s, switching := none }) s
      match dst with
      | some p => countFor 0x3053 p s1
      | none => s1
    else
      let s1 := modFrame f (fun x => { x with owner := none, outOfUse := true, switching := none, run := none }) s
      let s2 := raise 0x0502 none 0 (count 0x3050 2 s1)
      match fr.run.bind (runOf s2) with
      | none => s2
      | some r =>
        let r1 := { r with seqs := r.seqs.map fun q => if q.frame == f then { q with frame := noFrame } else q }
        refillFrames r1 (setRun r1 s2)

/-- FRAME_SWITCH_DONE (R222). -/
def execFrameSwitchDone (frame : Fin 36) (clear : Bool) (s : State) : Host.Outcome State Fault Refusal :=
  atRest s (switchEnds frame.val clear s)

/-! ### Steps (R234 to R249) -/

/-- A step of an opcode. -/
def opIs (op w : Nat) : Bool := opOf w == op

/-- NOP (R234). -/
def execNop (run : Nat) (frame : Fin 36) (s : State) : Host.Outcome State Fault Refusal :=
  overStep s (stepRow run frame.val (opIs 0) (fun _ q _ t => .done (passed q) t) s)

/-- LOAD_TILE (R247). -/
def execLoadTile (run : Nat) (frame : Fin 36) (s : State) : Host.Outcome State Fault Refusal :=
  atRest s (stepRow run frame.val (opIs 1) loadStep s)

/-- STORE_TILE (R248). -/
def execStoreTile (run : Nat) (frame : Fin 36) (s : State) : Host.Outcome State Fault Refusal :=
  atRest s (stepRow run frame.val (opIs 2) storeStep s)

/-- A MOVE-HINT issues: it applies its hint on behalf of the run's partition (R248). A refusal under R57 or R58 is counted
alone, and an extent held for R317 is passed over. -/
def hintStep (r : Run) (q : Sequencer) (w : Nat) (s : State) : StepEnd :=
  let first := stepAddr r q w / 32
  let n := field w 223 208 + 1
  let code := field w 114 112
  if ! allMapped s r.part first n then .fault 0x11 s
  else if hintRights s r.part first n code != 0 then .fault (hintRights s r.part first n code) s
  else
    let go := (devExts s r.part first n).filter fun d => (! parkHeld s code d || parkVoid s code d) && ! extGone s d
    .done (afterStep 5 q.pc (addIssue q (newIssue q w))) (go.foldl (fun u d => hintExtent
      { ext := d, act := 3, master := 64 + r.part, tier := if code == 1 then .ridge else .batten, md := none, cd := none
        hint := code, touched := 0, waiters := [] } u) s)

/-- MOVE_HINT (R248). -/
def execMoveHint (run : Nat) (frame : Fin 36) (s : State) : Host.Outcome State Fault Refusal :=
  atRest s (stepRow run frame.val (opIs 3) hintStep s)

/-- A RUN step of a mode. -/
def teIs (mode w : Nat) : Bool := opOf w == 0x10 && field w 33 32 == mode

/-- RUN_MULTIPLY (R199). -/
def execRunMultiply (run : Nat) (frame : Fin 36) (s : State) : Host.Outcome State Fault Refusal :=
  overStep s (stepRow run frame.val (teIs 0) (unitStep teWork) s)

/-- RUN_ACCUMULATE (R199). -/
def execRunAccumulate (run : Nat) (frame : Fin 36) (s : State) : Host.Outcome State Fault Refusal :=
  overStep s (stepRow run frame.val (teIs 1) (unitStep teWork) s)

/-- RUN_DRAIN (R202). -/
def execRunDrain (run : Nat) (frame : Fin 36) (s : State) : Host.Outcome State Fault Refusal :=
  overStep s (stepRow run frame.val (teIs 2) (unitStep teWork) s)

/-- A VEC step of a kind (R237). (DEDUCED, log entry 30.) -/
def vecIs (kind w : Nat) : Bool := opOf w == 0x20 && field w 33 32 == kind

/-- VEC_LOAD (R211). -/
def execVecLoad (run : Nat) (frame : Fin 36) (s : State) : Host.Outcome State Fault Refusal :=
  overStep s (stepRow run frame.val (vecIs 0) (fun r q w t => unitStep (fun u x fr => vecLoad u x (vecTray q w) fr) r q w t) s)

/-- VEC_STORE (R211). -/
def execVecStore (run : Nat) (frame : Fin 36) (s : State) : Host.Outcome State Fault Refusal :=
  overStep s (stepRow run frame.val (vecIs 2) (fun r q w t => unitStep (fun u x fr => vecStore u x (vecTray q w) fr) r q w t) s)

/-- A VEC operation, or a reserved operation code, which ends the run (Table 5-7). -/
def vecOpIs (op w : Nat) : Bool := vecIs 1 w && (field w 55 48 == op || ! vecOps.contains (field w 55 48))

/-- A VEC operation of a code is taken. -/
def vecRow (op run frame : Nat) (s : State) : Host.Outcome State Fault Refusal :=
  overStep s (stepRow run frame (vecOpIs op) (unitStep vecOp) s)

/-- VEC_ADD (R211). -/
def execVecAdd (run : Nat) (frame : Fin 36) (s : State) : Host.Outcome State Fault Refusal := vecRow 0x01 run frame.val s

/-- VEC_SUB (R211). -/
def execVecSub (run : Nat) (frame : Fin 36) (s : State) : Host.Outcome State Fault Refusal := vecRow 0x02 run frame.val s

/-- VEC_MUL (R211). -/
def execVecMul (run : Nat) (frame : Fin 36) (s : State) : Host.Outcome State Fault Refusal := vecRow 0x03 run frame.val s

/-- VEC_FMA (R211). -/
def execVecFma (run : Nat) (frame : Fin 36) (s : State) : Host.Outcome State Fault Refusal := vecRow 0x04 run frame.val s

/-- VEC_MAX (R211). -/
def execVecMax (run : Nat) (frame : Fin 36) (s : State) : Host.Outcome State Fault Refusal := vecRow 0x05 run frame.val s

/-- VEC_MIN (R211). -/
def execVecMin (run : Nat) (frame : Fin 36) (s : State) : Host.Outcome State Fault Refusal := vecRow 0x06 run frame.val s

/-- VEC_ABS (R211). -/
def execVecAbs (run : Nat) (frame : Fin 36) (s : State) : Host.Outcome State Fault Refusal := vecRow 0x07 run frame.val s

/-- VEC_NEG (R211). -/
def execVecNeg (run : Nat) (frame : Fin 36) (s : State) : Host.Outcome State Fault Refusal := vecRow 0x08 run frame.val s

/-- VEC_CMPLT (R211). -/
def execVecCmplt (run : Nat) (frame : Fin 36) (s : State) : Host.Outcome State Fault Refusal := vecRow 0x09 run frame.val s

/-- VEC_SELECT (R211). -/
def execVecSelect (run : Nat) (frame : Fin 36) (s : State) : Host.Outcome State Fault Refusal := vecRow 0x0A run frame.val s

/-- VEC_IOTA (R211). -/
def execVecIota (run : Nat) (frame : Fin 36) (s : State) : Host.Outcome State Fault Refusal := vecRow 0x0B run frame.val s

/-- VEC_RCP (R211). -/
def execVecRcp (run : Nat) (frame : Fin 36) (s : State) : Host.Outcome State Fault Refusal := vecRow 0x10 run frame.val s

/-- VEC_RSQRT (R211). -/
def execVecRsqrt (run : Nat) (frame : Fin 36) (s : State) : Host.Outcome State Fault Refusal := vecRow 0x11 run frame.val s

/-- VEC_SQRT (R211). -/
def execVecSqrt (run : Nat) (frame : Fin 36) (s : State) : Host.Outcome State Fault Refusal := vecRow 0x12 run frame.val s

/-- VEC_EXP2 (R211). -/
def execVecExp2 (run : Nat) (frame : Fin 36) (s : State) : Host.Outcome State Fault Refusal := vecRow 0x13 run frame.val s

/-- VEC_EXP (R211). -/
def execVecExp (run : Nat) (frame : Fin 36) (s : State) : Host.Outcome State Fault Refusal := vecRow 0x14 run frame.val s

/-- VEC_LOG2 (R211). -/
def execVecLog2 (run : Nat) (frame : Fin 36) (s : State) : Host.Outcome State Fault Refusal := vecRow 0x15 run frame.val s

/-- VEC_TANH (R211). -/
def execVecTanh (run : Nat) (frame : Fin 36) (s : State) : Host.Outcome State Fault Refusal := vecRow 0x16 run frame.val s

/-- VEC_SIGMOID (R211). -/
def execVecSigmoid (run : Nat) (frame : Fin 36) (s : State) : Host.Outcome State Fault Refusal := vecRow 0x17 run frame.val s

/-- VEC_SIN (R212). -/
def execVecSin (run : Nat) (frame : Fin 36) (s : State) : Host.Outcome State Fault Refusal := vecRow 0x18 run frame.val s

/-- VEC_COS (R212). -/
def execVecCos (run : Nat) (frame : Fin 36) (s : State) : Host.Outcome State Fault Refusal := vecRow 0x19 run frame.val s

/-- VEC_RSUM (R211). -/
def execVecRsum (run : Nat) (frame : Fin 36) (s : State) : Host.Outcome State Fault Refusal := vecRow 0x20 run frame.val s

/-- VEC_RMAX (R211). -/
def execVecRmax (run : Nat) (frame : Fin 36) (s : State) : Host.Outcome State Fault Refusal := vecRow 0x21 run frame.val s

/-- VEC_RMIN (R211). -/
def execVecRmin (run : Nat) (frame : Fin 36) (s : State) : Host.Outcome State Fault Refusal := vecRow 0x22 run frame.val s

/-- VEC_AND (R211). -/
def execVecAnd (run : Nat) (frame : Fin 36) (s : State) : Host.Outcome State Fault Refusal := vecRow 0x30 run frame.val s

/-- VEC_OR (R211). -/
def execVecOr (run : Nat) (frame : Fin 36) (s : State) : Host.Outcome State Fault Refusal := vecRow 0x31 run frame.val s

/-- VEC_XOR (R211). -/
def execVecXor (run : Nat) (frame : Fin 36) (s : State) : Host.Outcome State Fault Refusal := vecRow 0x32 run frame.val s

/-- A WAIT of a mode (R243, R244). -/
def waitIs (mode w : Nat) : Bool := opOf w == 0x30 && field w 33 32 == mode

/-- WAIT_TOKEN (R243). -/
def execWaitToken (run : Nat) (frame : Fin 36) (s : State) : Host.Outcome State Fault Refusal :=
  overStep s (stepRow run frame.val (waitIs 0) (fun r q w t =>
    if reached (tokenOf r (field w 39 34)) (waitValue q w) then .done (passed q) t else .wait) s)

/-- A sequencer that stands at a WAIT on a word is stalled. -/
def stallWord (run f : Nat) (s : State) : State :=
  modSeq run f (fun q => if q.wordWait.isSome then { q with stalledSince := some (q.stalledSince.getD (nowUs s)) } else q) s

/-- WAIT_DEVICE_WORD (R244). -/
def execWaitDeviceWord (run : Nat) (frame : Fin 36) (s : State) : Host.Outcome State Fault Refusal :=
  atRest s (stallWord run frame.val (stepRow run frame.val (waitIs 1) deviceWait s))

/-- WAIT_REMOTE_WORD (R244). -/
def execWaitRemoteWord (run : Nat) (frame : Fin 36) (s : State) : Host.Outcome State Fault Refusal :=
  atRest s (stallWord run frame.val (stepRow run frame.val (waitIs 2) (fun r q w t => remoteWait r frame.val q w t) s))

/-- WAIT_POLL (R243). -/
def execWaitPoll (run : Nat) (frame : Fin 36) (s : State) : Host.Outcome State Fault Refusal := atRest s (pollAgain run frame.val s)

/-- A SIGNAL that adds to its token or sets it. -/
def signalIs (set : Bool) (w : Nat) : Bool := opOf w == 0x31 && bitAt w 32 == set

/-- A SIGNAL issues after every earlier step of its frame has completed (R243). -/
def signalStep (value : Run → Nat → Nat) (r : Run) (q : Sequencer) (w : Nat) (s : State) : StepEnd :=
  if q.issued.isEmpty then .done (passed q) (setToken r.id (field w 38 33) (value r w) s) else .wait

/-- SIGNAL_ADD (R243). -/
def execSignalAdd (run : Nat) (frame : Fin 36) (s : State) : Host.Outcome State Fault Refusal :=
  overStep s (stepRow run frame.val (signalIs false) (signalStep fun r w => tokenOf r (field w 38 33) + field w 95 64) s)

/-- SIGNAL_SET (R243). -/
def execSignalSet (run : Nat) (frame : Fin 36) (s : State) : Host.Outcome State Fault Refusal :=
  overStep s (stepRow run frame.val (signalIs true) (signalStep fun _ w => field w 95 64) s)

/-- REMOTE_WRITE (R249). -/
def execRemoteWrite (run : Nat) (frame : Fin 36) (s : State) : Host.Outcome State Fault Refusal :=
  atRest s (stepRow run frame.val (opIs 0x40) remoteWriteStep s)

/-- REMOTE_READ (R249). -/
def execRemoteRead (run : Nat) (frame : Fin 36) (s : State) : Host.Outcome State Fault Refusal :=
  atRest s (stepRow run frame.val (opIs 0x41) (fun r q w t => remoteReadStep r frame.val q w t) s)

/-- A LOOP issues (R246). -/
def loopStep (r : Run) (q : Sequencer) (w : Nat) (s : State) : StepEnd :=
  if bitAt w 34 && 16777215 < loopCount r w then .fault 0x45 s else .done (openLoop (loopCount r w) w q) s

/-- LOOP (R246). -/
def execLoop (run : Nat) (frame : Fin 36) (s : State) : Host.Outcome State Fault Refusal :=
  overStep s (stepRow run frame.val (opIs 0x50) loopStep s)

/-- END (R245). -/
def execEndStep (run : Nat) (frame : Fin 36) (s : State) : Host.Outcome State Fault Refusal :=
  atRest s (stepRow run frame.val (opIs 0x5F) (fun _ q _ t => .done { q with ended := true } t) s)

/-- STEP_COMPLETED (R241). -/
def execStepCompleted (run : Nat) (frame : Fin 36) (step : Nat) (s : State) : Host.Outcome State Fault Refusal :=
  atRest s (stepDone run frame.val step s)

/-- LOAD_TILE_POISON_RETRY (R247). -/
def execLoadTilePoisonRetry (run : Nat) (frame : Fin 36) (step : Nat) (s : State) : Host.Outcome State Fault Refusal :=
  atRest s (retryIssues true run frame.val step s)

/-! ### How runs stop (R254 to R256, R259) -/

/-- STALL_LIMIT_EXPIRED (R254). -/
def execStallLimitExpired (run : Nat) (frame : Fin 36) (s : State) : Host.Outcome State Fault Refusal :=
  atRest s (stallExpires run frame.val s)

/-- The blocks that issued STORE-TILEs of a run still have to write are written where they can be, each whole (R256 step 4). -/
def lastStores (run : Nat) (s : State) : State :=
  match runOf s run with
  | none => s
  | some r => r.seqs.zipIdx.foldl (fun u q =>
      (q.1.issued.filter fun i => opOf i.word == 0x02 && ! i.waiting.isEmpty).foldl (fun v i => retryStep run q.2 i v) u) s

/-- A run that was stopped has come to rest, within 200 µs: it ends with the status decided (R256). (DEDUCED, log entry 36.) -/
def runStops (run : Nat) (s : State) : State :=
  match (runOf s run).bind (·.stopping) with
  | some st => endRun run st (lastStores run s)
  | none => s

/-- RUN_STOPPED (R256). -/
def execRunStopped (run : Nat) (s : State) : Host.Outcome State Fault Refusal := atRest s (runStops run s)

/-- ATTEND_APPEND_DONE (R259). -/
def execAttendAppendDone (run : Nat) (s : State) : Host.Outcome State Fault Refusal := atRest s (applyAppend run false s)

/-! ### Registration (R229, R232) -/

/-- A write of RegCommand. -/
def regCommand (road : Road) (context value : Nat) (s : State) : Host.Outcome State Fault Refusal :=
  overOd s (odServe road (.write false 0 0x2A10 7 context [BitVec.ofNat 8 value]) s)

/-- REGISTER (R229). -/
def execRegister (road : Road) (context : Nat) (s : State) : Host.Outcome State Fault Refusal := regCommand road context 1 s

/-- REGISTRATION_DIGEST_DONE (R229). -/
def execRegistrationDigestDone (part : Fin 64) (s : State) : Host.Outcome State Fault Refusal := atRest s (regDigest part.val s)

/-- UNREGISTER (R232). -/
def execUnregister (road : Road) (context : Nat) (s : State) : Host.Outcome State Fault Refusal := regCommand road context 2 s

/-- RELOAD (R232). -/
def execReload (road : Road) (context : Nat) (s : State) : Host.Outcome State Fault Refusal := regCommand road context 3 s

end Sys2Proof.Machine
end

