-- ==== Sys2Proof/Machine/QueueCmds.lean ====
section
/-! DEFINITION. Meanings of the rows of chapter 7: ring registers, descriptor fetch, deadlines and near-memory
commands; and SQUEEGEE of chapter 10, which a ring carries. -/

namespace Sys2Proof.Machine

open Sys2Proof

/-! ### Ring registers (R264 to R267, R284) -/

/-- An LD's number: port × 16 + LD. -/
def ldNo (port : Fin 4) (ld : Fin 16) : Nat := 16 * port.val + ld.val

/-- RING_ENABLE (R266). -/
def execRingEnable (port : Fin 4) (ld : Fin 16) (spid : Nat) (ring : Fin 64) (s : State) : Host.Outcome State Fault Refusal :=
  atRest s (barGate (.ld port ld) spid true (ringEnable (ldNo port ld) ring.val) s)

/-- RING_DISABLE (R270). -/
def execRingDisable (port : Fin 4) (ld : Fin 16) (spid : Nat) (ring : Fin 64) (s : State) : Host.Outcome State Fault Refusal :=
  atRest s (barGate (.ld port ld) spid true (ringDisable (ldNo port ld) ring.val) s)

/-- SQ_TAIL_DOORBELL (R267). -/
def execSqTailDoorbell (port : Fin 4) (ld : Fin 16) (spid : Nat) (ring : Fin 64) (stores : List (BitVec 16)) (s : State) :
    Host.Outcome State Fault Refusal :=
  atRest s (barGate (.ld port ld) spid true (sqTail (ldNo port ld) ring.val stores) s)

/-- CQ_HEAD_WRITE (R267). -/
def execCqHeadWrite (port : Fin 4) (ld : Fin 16) (spid : Nat) (ring : Fin 64) (stores : List (BitVec 16)) (s : State) :
    Host.Outcome State Fault Refusal :=
  atRest s (barGate (.ld port ld) spid true (cqHead (ldNo port ld) ring.val stores) s)

/-- DESCRIPTOR_FETCH (R274). -/
def execDescriptorFetch (port : Fin 4) (ld : Fin 16) (ring : Fin 64) (s : State) : Host.Outcome State Fault Refusal :=
  atRest s (fetchOne (ldNo port ld) ring.val s)

/-- COMMAND_DEADLINE_EXPIRED (R286). -/
def execCommandDeadlineExpired (cmd : Nat) (s : State) : Host.Outcome State Fault Refusal := atRest s (deadline cmd s)

/-- A gathering time ends: one message goes out, unless the LD masters nothing now (R284, R345). -/
def gatherEnds (id : Nat) (s : State) : State :=
  if ! (ringOf s id).gathering || ldFrozen s (id / 64) then s
  else sendMsix (id / 64) (ringOf s id).vector (modRing id (fun r => { r with gathering := false }) s)

/-- IRQ_GATHERING_END (R284). -/
def execIrqGatheringEnd (port : Fin 4) (ld : Fin 16) (ring : Fin 64) (s : State) : Host.Outcome State Fault Refusal :=
  atRest s (gatherEnds (ringId port.val ld.val ring.val) s)

/-! ### Near-memory commands (R288 to R292) -/

/-- FILL (R292). -/
def execFill (cmd : Nat) (s : State) : Host.Outcome State Fault Refusal :=
  atRest s (beginCmd cmd 0x20 (fun _ => true) (nearBegin cmd) s)

/-- COPY (R289). -/
def execCopy (cmd : Nat) (s : State) : Host.Outcome State Fault Refusal :=
  atRest s (beginCmd cmd 0x21 (fun _ => true) (nearBegin cmd) s)

/-- COMPARE (R290). -/
def execCompare (cmd : Nat) (s : State) : Host.Outcome State Fault Refusal :=
  atRest s (beginCmd cmd 0x22 (fun _ => true) (nearBegin cmd) s)

/-- A REDUCE of an operation (Table 7-9). -/
def reduceIs (op : Nat) (c : Cmd) : Bool := c.bits 375 368 == op

/-- REDUCE_SUM (R291). -/
def execReduceSum (cmd : Nat) (s : State) : Host.Outcome State Fault Refusal :=
  atRest s (beginCmd cmd 0x23 (reduceIs 0x01) (nearBegin cmd) s)

/-- REDUCE_MAX (R291). -/
def execReduceMax (cmd : Nat) (s : State) : Host.Outcome State Fault Refusal :=
  atRest s (beginCmd cmd 0x23 (reduceIs 0x05) (nearBegin cmd) s)

/-- REDUCE_MIN (R291). -/
def execReduceMin (cmd : Nat) (s : State) : Host.Outcome State Fault Refusal :=
  atRest s (beginCmd cmd 0x23 (reduceIs 0x06) (nearBegin cmd) s)

/-- REDUCE_AND (R291). -/
def execReduceAnd (cmd : Nat) (s : State) : Host.Outcome State Fault Refusal :=
  atRest s (beginCmd cmd 0x23 (reduceIs 0x30) (nearBegin cmd) s)

/-- REDUCE_OR (R291). -/
def execReduceOr (cmd : Nat) (s : State) : Host.Outcome State Fault Refusal :=
  atRest s (beginCmd cmd 0x23 (reduceIs 0x31) (nearBegin cmd) s)

/-- REDUCE_XOR (R291). -/
def execReduceXor (cmd : Nat) (s : State) : Host.Outcome State Fault Refusal :=
  atRest s (beginCmd cmd 0x23 (reduceIs 0x32) (nearBegin cmd) s)

/-- NEAR_MEMORY_DONE (R288). -/
def execNearMemoryDone (cmd : Nat) (s : State) : Host.Outcome State Fault Refusal := atRest s (nearDone cmd s)

/-! ### SQUEEGEE (R389, R391) -/

/-- SQUEEGEE (R389). -/
def execSqueegee (cmd : Nat) (s : State) : Host.Outcome State Fault Refusal :=
  atRest s (beginCmd cmd 0x24 (fun _ => true) (scrubBegin cmd) s)

/-- SQUEEGEE_PASS_DONE (R391). -/
def execSqueegeePassDone (cmd : Nat) (s : State) : Host.Outcome State Fault Refusal := atRest s (scrubDone cmd s)

end Sys2Proof.Machine
end

