-- ==== Sys2Proof/Machine/ShareCmds.lean ====
section
/-! DEFINITION. Meanings of the rows of chapter 8: claims, publishing, exposures, partitions and revokes. -/

namespace Sys2Proof.Machine

open Sys2Proof

/-- CLAIM (R315). -/
def execClaim (cmd : Nat) (s : State) : Host.Outcome State Fault Refusal :=
  atRest s (beginCmd cmd 0x30 (fun _ => true) (claimStart cmd) s)

/-- RELEASE (R316). -/
def execRelease (cmd : Nat) (s : State) : Host.Outcome State Fault Refusal :=
  atRest s (beginCmd cmd 0x31 (fun _ => true) (releaseStart cmd) s)

/-- PUBLISH (R318). -/
def execPublish (cmd : Nat) (s : State) : Host.Outcome State Fault Refusal :=
  atRest s (beginCmd cmd 0x32 (fun _ => true) (publishStart cmd) s)

/-- An EXPOSE of an operation (Table 7-10). -/
def exposeIs (op : Nat) (c : Cmd) : Bool := c.bits 129 128 == op

/-- EXPOSE_OPEN (R307). -/
def execExposeOpen (cmd : Nat) (s : State) : Host.Outcome State Fault Refusal :=
  atRest s (beginCmd cmd 0x33 (exposeIs 0) (exposeOpen cmd) s)

/-- EXPOSE_ADD (R308). -/
def execExposeAdd (cmd : Nat) (s : State) : Host.Outcome State Fault Refusal :=
  atRest s (beginCmd cmd 0x33 (exposeIs 1) (exposeAdd cmd) s)

/-- EXPOSE_COMMIT (R311). -/
def execExposeCommit (cmd : Nat) (s : State) : Host.Outcome State Fault Refusal :=
  atRest s (beginCmd cmd 0x33 (exposeIs 2) (exposeCommit cmd) s)

/-- EXPOSE_ABORT (R313). -/
def execExposeAbort (cmd : Nat) (s : State) : Host.Outcome State Fault Refusal :=
  atRest s (beginCmd cmd 0x33 (exposeIs 3) (exposeAbort cmd) s)

/-- A participant takes PREPARE and answers (R311 step 3). -/
def takePrepare (id : Nat) (w : Participant) (s : State) : State :=
  match expoOf s id with
  | none => s
  | some e =>
    let a := prepareAnswer s e w
    if a == 2 && e.stage == 2 && e.refused.isNone then answer id w a (setExpo id { e with refused := refusedRow s e w } s)
    else answer id w a s

/-- PREPARE (R311). -/
def execPrepare (expo : Fin 256) (who : Participant) (s : State) : Host.Outcome State Fault Refusal :=
  atRest s (takePrepare expo.val who s)

/-- PARTICIPANT_QUIET_TIMEOUT (R311): a participant whose objects did not come to rest is BUSY. -/
def execParticipantQuietTimeout (expo : Fin 256) (who : Participant) (s : State) : Host.Outcome State Fault Refusal :=
  atRest s (answer expo.val who 3 s)

/-- PREPARE_ANSWERS_IN (R311). -/
def execPrepareAnswersIn (expo : Fin 256) (s : State) : Host.Outcome State Fault Refusal := atRest s (answersIn expo.val s)

/-- A commit that was told BUSY sends PREPARE again (R311 step 5). -/
def prepareAgain (id : Nat) (s : State) : State :=
  match expoOf s id with
  | none => s
  | some e => if e.stage == 4 then sendPrepare id s else s

/-- COMMIT_RETRY_TIMER (R311). -/
def execCommitRetryTimer (expo : Fin 256) (s : State) : Host.Outcome State Fault Refusal := atRest s (prepareAgain expo.val s)

/-- APPLY (R311). -/
def execApply (expo : Fin 256) (who : Participant) (s : State) : Host.Outcome State Fault Refusal :=
  atRest s (applyAt expo.val who s)

/-- An exposure that has had no command for too long aborts (R313). -/
def idleExpo (id : Nat) (s : State) : State :=
  match expoOf s id with
  | none => s
  | some e => if e.publish || 1 < e.stage then s else abortExpo id 0x25 id (raise 0x0801 (some e.part) 0 s)

/-- EXPOSURE_IDLE_EXPIRED (R313). -/
def execExposureIdleExpired (expo : Fin 256) (s : State) : Host.Outcome State Fault Refusal := atRest s (idleExpo expo.val s)

/-- A write of a partition's entry. -/
def partPut (road : Road) (part value : Nat) (s : State) : Host.Outcome State Fault Refusal :=
  overOd s (odPut road false 0x2101 (part + 1) 16 value s)

/-- PARTITION_ASSIGN (R297). -/
def execPartitionAssign (road : Road) (part : Fin 64) (value : Nat) (s : State) : Host.Outcome State Fault Refusal :=
  partPut road part.val value s

/-- PARTITION_LD_ADD (R297). -/
def execPartitionLdAdd (road : Road) (part : Fin 64) (value : Nat) (s : State) : Host.Outcome State Fault Refusal :=
  partPut road part.val value s

/-- PARTITION_REASSIGN (R324). -/
def execPartitionReassign (road : Road) (part : Fin 64) (value : Nat) (s : State) : Host.Outcome State Fault Refusal :=
  partPut road part.val value s

/-- PARTITION_SCRUB_DONE (R324). -/
def execPartitionScrubDone (part : Fin 64) (s : State) : Host.Outcome State Fault Refusal := atRest s (scrubEnds part.val s)

/-- DECLARE_FAILED (R321). -/
def execDeclareFailed (road : Road) (value : Nat) (s : State) : Host.Outcome State Fault Refusal :=
  overOd s (odPut road false 0x2100 5 1 value s)

/-- CLAIM_TILE_POISONED (R322). -/
def execClaimTilePoisoned (claim : Nat) (s : State) : Host.Outcome State Fault Refusal := atRest s (claimPoisonNext claim s)

/-- DRAIN_LIMIT_EXPIRED (R323). -/
def execDrainLimitExpired (revoke : Nat) (s : State) : Host.Outcome State Fault Refusal := atRest s (drainEnds revoke s)

end Sys2Proof.Machine
end

