-- ==== Sys2Proof/Machine/LinkCmds.lean ====
section
/-! DEFINITION. Meanings of the rows of chapter 9: links, containment, resets of functions, configuration space,
BAR registers, mastered requests, mailboxes and DOE. -/

namespace Sys2Proof.Machine

open Sys2Proof

/-! ### Links and containment (R330, R353, R355, R568) -/

/-- S1 has ended and the device is neither held nor failed, so that its ports may train (R509). -/
def portsRun (s : State) : Bool :=
  s.start.stage == .image || s.start.stage == .train || s.start.stage == .lit || s.start.stage == .safelight

/-- A port reaches L0. One that was in use has retrained, and its partner's capabilities stand (R337, R340). (DEDUCED, log entry 63.) -/
def linkUp (port rate width : Nat) (mld flits tags14 : Bool) (s : State) : State :=
  let p := portOf s port
  if ! portsRun s || p.perst then s
  else if p.up then
    let s0 := leaveL0 port s
    if (portOf s0 port).up then reachL0 port rate width p.mld flits p.tags14 s0 else s0
  else
    let s1 := reachL0 port rate width mld flits tags14 s
    if s.start.stage == .safelight && (portOf s1 port).up then setInt port 4 s1 else s1

/-- LINK_L0_REACHED (R330). -/
def execLinkL0Reached (port : Fin 4) (rate : Nat) (width : Nat) (mld : Bool) (flits256 : Bool) (tags14 : Bool) (s : State) :
    Host.Outcome State Fault Refusal :=
  atRest s (linkUp port.val rate width mld flits256 tags14 s)

/-- LINK_RETRY_TIMER (R330). -/
def execLinkRetryTimer (port : Fin 4) (s : State) : Host.Outcome State Fault Refusal :=
  atRest s (if portsRun s && ! (portOf s port.val).perst && ! (portOf s port.val).up then emit .train [port.val] [] s else s)

/-- The link leaves L0 of itself: the port is contained, and its hosts are dead (R321, R353). -/
def surprise (port : Nat) (s : State) : State :=
  if ! (portOf s port).up || (portOf s port).mark then s
  else
    let s1 := contain port 1 (logPort port .surpriseDown (linkGone port s))
    (ldsAt port).foldl (fun u i => killLd i u) s1

/-- SURPRISE_DOWN (R353). -/
def execSurpriseDown (port : Fin 4) (s : State) : Host.Outcome State Fault Refusal := atRest s (surprise port.val s)

/-- The containment cause of an error, 0 for none (Table 9-13). A link that goes down has its own row. -/
def causeOf : ErrKind → Nat
  | .malformedTlp | .dllProtocolError | .flowControlError | .receiverOverflow | .ideCheckFailure => 2
  | .cxlRasUncorrectable => 3
  | .uncorrectableInternal => 4
  | .receiverError | .badTlp | .badDllp | .replayTimerTimeout | .replayNumRollover | .correctedInternal
  | .unexpectedCompletion | .completionTimeout | .poisonedCompletion | .poisonedRequest | .unsupportedRequest
  | .surpriseDown => 0

/-- An error that contains its port is logged in PF0, in its RAS capability where it is CXL.mem's (Table 9-15). -/
def containBy (port : Nat) (error : ErrKind) (s : State) : State :=
  if causeOf error == 0 then s
  else contain port (causeOf error) (if error == .cxlRasUncorrectable then modPort port (fun p => { p with ras := p.ras ||| 1 }) s
    else logPort port error s)

/-- CONTAINMENT_CAUSE (R353). -/
def execContainmentCause (port : Fin 4) (error : ErrKind) (s : State) : Host.Outcome State Fault Refusal :=
  atRest s (containBy port.val error s)

/-- CONTAINMENT_RELEASE (R355). -/
def execContainmentRelease (port : Fin 4) (s : State) : Host.Outcome State Fault Refusal :=
  atRest s (if served s then releasePort port.val s else s)

/-- PORT_QUIESCE (R568). -/
def execPortQuiesce (road : Road) (value : Nat) (s : State) : Host.Outcome State Fault Refusal :=
  overOd s (odPut road false 0x2900 0x0A 1 value s)

/-- PORT_QUIESCE_CANCEL (R568). -/
def execPortQuiesceCancel (road : Road) (value : Nat) (s : State) : Host.Outcome State Fault Refusal :=
  overOd s (odPut road false 0x2900 0x0A 1 value s)

/-- The marked link leaves L0: the mark ends, and the freeze stays until the next L0. -/
def orderlyDown (port : Nat) (s : State) : State :=
  if (portOf s port).up && (portOf s port).mark then modPort port (fun p => { p with mark := false }) (linkGone port s) else s

/-- ORDERLY_LINK_DOWN (R568). -/
def execOrderlyLinkDown (port : Fin 4) (s : State) : Host.Outcome State Fault Refusal := atRest s (orderlyDown port.val s)

/-- CORRECTABLE_LINK_ERROR (R360): the five errors that the link layer recovers from, which the FLIT error log counts (Table 9-1;
PRESUMED, log entry 109). -/
def execCorrectableLinkError (port : Fin 4) (error : ErrKind) (s : State) : Host.Outcome State Fault Refusal :=
  atRest s (if errIndex error < 5 then
    logPort port.val error (modPort port.val (fun p => { p with flitErrors := p.flitErrors + 1 }) s) else s)

/-! ### Resets of functions (R350 to R352) -/

/-- PERST_ASSERT (R352). -/
def execPerstAssert (port : Fin 4) (s : State) : Host.Outcome State Fault Refusal :=
  atRest s (if (portOf s port.val).perst then s else perstFalls port.val s)

/-- PERST# rises: the port trains once S1 has ended. -/
def perstRises (port : Nat) (s : State) : State :=
  if ! (portOf s port).perst then s
  else
    let s1 := modPort port (fun p => { p with perst := false }) s
    if portsRun s then emit .train [port] [] s1 else s1

/-- PERST_DEASSERT (R509). -/
def execPerstDeassert (port : Fin 4) (s : State) : Host.Outcome State Fault Refusal := atRest s (perstRises port.val s)

/-- FLR_INITIATE (R350). -/
def execFlrInitiate (port : Fin 4) (ld : Fin 16) (s : State) : Host.Outcome State Fault Refusal :=
  atRest s (if ldServed s (ldNo port ld) && ! (ldOf s (ldNo port ld)).flr then flrBegin (ldNo port ld) s else s)

/-- FLR_COMPLETE (R350). -/
def execFlrComplete (port : Fin 4) (ld : Fin 16) (s : State) : Host.Outcome State Fault Refusal := atRest s (flrEnds (ldNo port ld) s)

/-- PF0_FLR (R352). -/
def execPf0Flr (port : Fin 4) (s : State) : Host.Outcome State Fault Refusal :=
  atRest s (if served s && (portOf s port.val).up then pf0Reset port.val s else s)

/-! ### Bus mastering (R349) -/

/-- A configuration write reaches an LD: it is presented and in no FLR. -/
def ldConfigured (s : State) (i : Nat) : Bool := ldServed s i && ! (ldOf s i).flr

/-- An LD enters D3hot or leaves it (R342, R349). -/
def setD3 (i : Nat) (d3 : Bool) (s : State) : State :=
  let t := modLd i (fun l => { l with d3 := d3 }) s
  if d3 then stopMastering i 0x30 t else liftFreeze i t

/-- Bus Master Enable of an LD is set or cleared (R349). -/
def setBme (i : Nat) (bme : Bool) (s : State) : State :=
  let t := modLd i (fun l => { l with bme := bme }) s
  if bme then liftFreeze i t else stopMastering i 0x30 t

/-- BUS_MASTER_DISABLE (R349). -/
def execBusMasterDisable (port : Fin 4) (ld : Fin 16) (d3hot : Bool) (s : State) : Host.Outcome State Fault Refusal :=
  atRest s (if ldConfigured s (ldNo port ld) then
    (if d3hot then setD3 (ldNo port ld) true s else setBme (ldNo port ld) false s) else s)

/-- BUS_MASTER_ENABLE (R349). -/
def execBusMasterEnable (port : Fin 4) (ld : Fin 16) (d0 : Bool) (s : State) : Host.Outcome State Fault Refusal :=
  atRest s (if ldConfigured s (ldNo port ld) then
    (if d0 then setD3 (ldNo port ld) false s else setBme (ldNo port ld) true s) else s)

/-! ### Configuration space and BAR registers (R333, R335, R338, R509) -/

/-- HDM_DECODER_COMMIT (R333). -/
def execHdmDecoderCommit (port : Fin 4) (ld : Fin 16) (spid : Nat) (decoder : Fin 4) (base : Nat) (size : Nat) (skip : Nat)
    (control : DecoderControl) (s : State) : Host.Outcome State Fault Refusal :=
  atRest s (barGate (.ld port ld) spid true (commitDecoder (ldNo port ld) decoder.val control base size skip) s)

/-- The identity words of Table 9-2: vendor, device, revision, class and subsystem vendor. -/
def identityWords (s : State) (f : Fn) : Nat :=
  let device := match f with | .pf0 _ => 0x9040 | .ld _ _ => 0x9041
  put Config.vendorId 16 0 + put device 16 16 + put (siliconRev s) 8 32 + put 0x050210 24 40 + put Config.vendorId 16 64

/-- A payload size code of Device Control from a size in bytes. -/
def sizeCode (bytes : Nat) : Nat := Nat.log2 (bytes / 128)

/-- The capabilities of Table 9-2 that a function has, in the model's own numbering: 0 PCI Express, 1 Power Management, 2 MSI, 3
MSI-X, 4 AER, 5 Device Serial Number, 6 DOE, 7 LTR, 8 Secondary PCIe, 9 to 11 Physical Layer 16, 32 and 64 GT/s, 12 Lane
Margining, 13 Data Link Feature, 14 FLIT logging, 15 IDE, 16 Function Level Reset, 17 to 20 the DVSECs with IDs 0, 7, 9 and 8. -/
def capabilityList : Fn → List Nat
  | .pf0 _ => [0, 1, 2, 4, 5, 6, 7, 8, 9, 10, 11, 12, 13, 14, 15, 16, 17, 18, 19, 20]
  | .ld _ _ => [0, 1, 3, 4, 5, 6, 16, 17, 20]

/-- What the fields that Tables 9-1 and 9-2 fix read as; the places of their bits are those of PCIe and CXL. (PRESUMED, log entry 109.) -/
def fixedField (s : State) (f : Fn) (field : CfgField) : Nat :=
  let p := portOf s (fnPort f)
  let onPf0 := match f with | .pf0 _ => true | .ld _ _ => false
  match field with
  | .identity => identityWords s f
  | .serialNumber => Config.serialNumber % two64
  | .capabilities => (capabilityList f).foldl (fun a k => a + 2 ^ k) 0
  | .deviceCapabilities => 2 + put 1 1 28 + put 0xF 4 32
  | .l1ExitLatency => 4
  | .cxlDvsec => if onPf0 then 2 else 2 + 4 + 16
  | .flexBus => if onPf0 then 7 + put (ofBool p.mld) 1 16 + put (ofBool p.flits) 1 17 else 0
  | .mldDvsec => if onPf0 then 9 + put 16 16 16 else 0
  | .registerLocator => if onPf0 then 0x1000 + put 0x10000 32 32 else put 0x1000 32 32
  | .laneMargining => if onPf0 then ofBool p.up else 0
  | .dataLinkFeature => if onPf0 then 1 + put (ofBool p.up) 1 31 else 0
  | .flitLog => if onPf0 then p.flitErrors else 0
  | _ => 0

/-- The power state field: D0 or D3hot, and No_Soft_Reset (R342). -/
def powerField (d3 : Bool) : Nat := (if d3 then 3 else 0) + 8

/-- What a configuration read of a field gives. -/
def cfgRead (s : State) (f : Fn) (field : CfgField) : Nat :=
  match f with
  | .pf0 n =>
    let p := portOf s n.val
    match field with
    | .msiEnable => ofBool p.msiEnable
    | .msiMask => ofBool p.msiMask
    | .msiAddress => p.msiAddr
    | .msiData => p.msiData
    | .interruptDisable => ofBool p.intDisable
    | .ltrEnable => ofBool p.ltrEnable
    | .l1Enable => ofBool p.l1Enable
    | .maxPayload => sizeCode p.maxPayload
    | .maxReadRequest => sizeCode p.maxRead
    | .completionTimeout => p.cplTimeout
    | .aerMask => p.aerMask
    | .aerSeverity => p.aerSeverity
    | .aerStatus => p.aer
    | .bar0 => p.bar0 + 4
    | .powerState => powerField p.d3
    | _ => fixedField s f field
  | .ld n k =>
    let l := ldOf s (16 * n.val + k.val)
    match field with
    | .memEnable => ofBool l.memEnable
    | .msixFunctionMask => ofBool l.functionMask
    | .msixEnable => ofBool l.msixEnable
    | .maxPayload => sizeCode l.maxPayload
    | .maxReadRequest => sizeCode l.maxRead
    | .completionTimeout => l.cplTimeout
    | .aerMask => l.aerMask
    | .aerSeverity => l.aerSeverity
    | .aerStatus => l.aer
    | .bar0 => l.bar0 + 4
    | .powerState => powerField l.d3
    | _ => fixedField s f field

/-- A configuration write of a field of PF0. -/
def cfgPort (port : Nat) (field : CfgField) (v : Nat) (s : State) : State :=
  match field with
  | .msiEnable => flushMsi port (withInt port (fun p => { p with msiEnable := bitAt v 0 }) s)
  | .msiMask => flushMsi port (withInt port (fun p => { p with msiMask := bitAt v 0 }) s)
  | .msiAddress => modPort port (fun p => { p with msiAddr := v % two64 }) s
  | .msiData => modPort port (fun p => { p with msiData := v % 2 ^ 32 }) s
  | .interruptDisable => withInt port (fun p => { p with intDisable := bitAt v 0 }) s
  | .ltrEnable => modPort port (fun p => { p with ltrEnable := bitAt v 0 }) s
  | .l1Enable => modPort port (fun p => { p with l1Enable := bitAt v 0 }) s
  | .maxPayload => if v ≤ 2 then modPort port (fun p => { p with maxPayload := 128 * 2 ^ v }) s else s
  | .maxReadRequest => if v ≤ 5 then modPort port (fun p => { p with maxRead := 128 * 2 ^ v }) s else s
  | .completionTimeout => modPort port (fun p => { p with cplTimeout := v % 16 }) s
  | .aerMask => modPort port (fun p => { p with aerMask := v % 2 ^ 32 }) s
  | .aerSeverity => modPort port (fun p => { p with aerSeverity := v % 2 ^ 32 }) s
  | .aerStatus => modPort port (fun p => { p with aer := p.aer - (p.aer &&& v) }) s
  | .bar0 => modPort port (fun p => { p with bar0 := v % two64 / 2 ^ 20 * 2 ^ 20 }) s
  | .powerState => if v % 4 == 0 || v % 4 == 3 then modPort port (fun p => { p with d3 := v % 4 == 3 }) s else s
  | .flitLog => modPort port (fun p => { p with flitErrors := 0 }) s
  | _ => s

/-- A configuration write of a field of an LD. -/
def cfgLd (i : Nat) (field : CfgField) (v : Nat) (s : State) : State :=
  match field with
  | .memEnable => modLd i (fun l => { l with memEnable := bitAt v 0 }) s
  | .msixFunctionMask => flushPba i (modLd i (fun l => { l with functionMask := bitAt v 0 }) s)
  | .msixEnable => flushPba i (modLd i (fun l => { l with msixEnable := bitAt v 0 }) s)
  | .maxPayload => if v ≤ 2 then modLd i (fun l => { l with maxPayload := 128 * 2 ^ v }) s else s
  | .maxReadRequest => if v ≤ 5 then modLd i (fun l => { l with maxRead := 128 * 2 ^ v }) s else s
  | .completionTimeout => modLd i (fun l => { l with cplTimeout := v % 16 }) s
  | .aerMask => modLd i (fun l => { l with aerMask := v % 2 ^ 32 }) s
  | .aerSeverity => modLd i (fun l => { l with aerSeverity := v % 2 ^ 32 }) s
  | .aerStatus => modLd i (fun l => { l with aer := l.aer - (l.aer &&& v) }) s
  | .bar0 => modLd i (fun l => { l with bar0 := v % two64 / 2 ^ 17 * 2 ^ 17 }) s
  | .powerState => if v % 4 == 3 then setD3 i true s else if v % 4 == 0 then setD3 i false s else s
  | _ => s

/-- A configuration request is served, or told to retry before S4 and during an FLR (R350, R509). (DEDUCED, log entry 64.) -/
def configure (f : Fn) (isWrite : Bool) (field : CfgField) (value : Nat) (s : State) : State :=
  let busy := match f with
    | .pf0 _ => false
    | .ld p n => (ldOf s (16 * p.val + n.val)).flr
  if ! portsRun s || ! presented s f then s
  else if ! served s || busy then emit .cfgCompletion [fnCode f, 1, 0] [] s
  else if isWrite then
    emit .cfgCompletion [fnCode f, 0, 0] [] (match f with
      | .pf0 p => cfgPort p.val field value s
      | .ld p n => cfgLd (16 * p.val + n.val) field value s)
  else emit .cfgCompletion [fnCode f, 0, cfgRead s f field] [] s

/-- CONFIG_REQUEST (R509). -/
def execConfigRequest (fn : Fn) (isWrite : Bool) (field : CfgField) (value : Nat) (s : State) : Host.Outcome State Fault Refusal :=
  atRest s (configure fn isWrite field value s)

/-- A 4 B write to the registers of PF0's control block (Table 9-6). -/
def writeControl (port offset v : Nat) (s : State) : State :=
  if offset == 0x04 then (if bitAt v 0 then releasePort port s else s)
  else if offset == 0x08 then withInt port (fun p => { p with intStatus := p.intStatus &&& ~~~ (BitVec.ofNat 5 v) }) s
  else if offset == 0x0C then withInt port (fun p => { p with intEnable := BitVec.ofNat 5 v }) s
  else s

/-- A 4 B write to the window's registers (Table 15-5): while a request is in progress it is ignored, and OVERRUN tells. -/
def writeWindow (port : Fin 4) (offset v : Nat) (s : State) : State :=
  if offset == 0x80010 then
    (if bitAt v 1 then modPort port.val (fun p => { p with winOverrun := false }) s else s)
  else if (portOf s port.val).winBusy then modPort port.val (fun p => { p with winOverrun := true }) s
  else if offset == 0x80000 then modPort port.val (fun p => { p with winOp := v }) s
  else if offset == 0x80004 then modPort port.val (fun p => { p with winCtx := v % 2 ^ 27 }) s
  else if offset == 0x80008 then modPort port.val (fun p => { p with winOffset := v }) s
  else if offset == 0x8000C then (if bitAt v 0 then windowGo port s else s)
  else if 0x81000 ≤ offset && offset < 0x81400 then
    modPort port.val (fun p => { p with
      winData := (toBytes 4 v).zipIdx.foldl (fun m q => MapOps.put (offset - 0x81000 + q.2) 0 q.1.toNat m) p.winData }) s
  else s

/-- A 4 B write to a ring block (Table 7-1). Its configuration is kept while the ring is not DISABLED. (DEDUCED, log entry 37.) -/
def writeRing (i ring word v : Nat) (s : State) : State :=
  let id := i * 64 + ring
  let r := ringOf s id
  let set := fun (f : Ring → Ring) (u : State) => if r.state == 0 then modRing id f u else u
  if word == 0 then set (fun q => { q with sqBase := setField q.sqBase 31 0 v }) s
  else if word == 1 then
    let s1 := set (fun q => { q with sqBase := setField q.sqBase 51 32 (field v 19 0), sqLog2 := field v 24 20 }) s
    if bitAt v 25 then ringEnable i ring s1 else ringDisable i ring s1
  else if word == 2 then set (fun q => { q with cqBase := setField q.cqBase 31 0 v }) s
  else if word == 3 then set (fun q => { q with cqBase := setField q.cqBase 63 32 v }) s
  else if word == 4 then
    set (fun q => { q with cqLog2 := field v 4 0, irqMode := field v 6 5, vector := field v 17 7, irqDelay := field v 25 18 }) s
  else if word == 6 then sqTail i ring [BitVec.ofNat 16 v] s
  else if word == 7 then cqHead i ring [BitVec.ofNat 16 v] s
  else s

/-- A 4 B write to the MSI-X table: address, data and the Mask bit of an entry (R341). -/
def writeMsix (i vector word v : Nat) (s : State) : State :=
  flushPba i (modLd i (fun l =>
    let e := MapOps.getD vector (0, 0, true) l.msixTable
    let e1 := if word == 0 then (setField e.1 31 0 v, e.2) else if word == 1 then (setField e.1 63 32 v, e.2)
      else if word == 2 then (e.1, v, e.2.2) else (e.1, e.2.1, bitAt v 0)
    { l with msixTable := MapOps.put vector (0, 0, true) e1 l.msixTable }) s)

/-- Bytes laid over others at a place. -/
def layBytes (old : List Byte) (place : Nat) (bytes : List Byte) : List Byte :=
  slice old 0 place 0 ++ bytes ++ old.drop (place + bytes.length)

/-- A 4 B write to a function's CXL device registers: those of its mailbox, whose doorbell runs the command at once.
(PRESUMED, log entry 109.) -/
def writeDevice (f : Fn) (offset v : Nat) (s : State) : State :=
  let m := MapOps.getD (fnCode f) {} s.link.mailboxes
  let set := fun (x : Mailbox) => s.setLink { s.link with mailboxes := MapOps.insert (fnCode f) x s.link.mailboxes }
  if offset == 0x7E4 then (if bitAt v 0 then mailboxRun f m.op s else s)
  else if offset == 0x7E8 then set { m with op := v % 65536 }
  else if 0x800 ≤ offset && offset < 0x1000 then set { m with payload := layBytes m.payload (offset - 0x800) (toBytes 4 v) }
  else s

/-- A 4 B write to a BAR0 of a function (Table 9-5). HDM decoders are written by rows of their own, and offsets outside every block drop
it. -/
def writeWord (f : Fn) (offset v : Nat) (s : State) : State :=
  match f with
  | .pf0 p =>
    if offset < 0x100 then writeControl p.val offset v s
    else if offset == 0x1100 then modPort p.val (fun q => { q with ras := q.ras - (q.ras &&& v) }) s
    else if 0x10000 ≤ offset && offset < 0x11000 then writeDevice f (offset - 0x10000) v s
    else writeWindow p offset v s
  | .ld p n =>
    let i := 16 * p.val + n.val
    if 0x8000 ≤ offset && offset < 0x9000 then writeRing i ((offset - 0x8000) / 64) (offset % 64 / 4) v s
    else if 0x10000 ≤ offset && offset < 0x18000 then writeMsix i ((offset - 0x10000) / 16) (offset % 16 / 4) v s
    else if 0x1000 ≤ offset && offset < 0x2000 then writeDevice f (offset - 0x1000) v s
    else s

/-- A write of 4 or 8 B on its natural boundary; any other is dropped (R338). (DEDUCED, log entry 60.) -/
def writeReg (f : Fn) (offset size v : Nat) (s : State) : State :=
  if size == 4 && offset % 4 == 0 then writeWord f offset (v % 2 ^ 32) s
  else if size == 8 && offset % 8 == 0 then writeWord f (offset + 4) (v / 2 ^ 32 % 2 ^ 32) (writeWord f offset (v % 2 ^ 32) s)
  else logFn true f .unsupportedRequest s

/-- A read of 4 or 8 B on its natural boundary completes with the value; any other gets UR (R338). -/
def readReg (f : Fn) (offset size : Nat) (s : State) : State :=
  if size == 4 && offset % 4 == 0 then emit .ioCompletion [fnCode f, 0, readWord s f offset] [] s
  else if size == 8 && offset % 8 == 0 then
    emit .ioCompletion [fnCode f, 0, readWord s f offset + put (readWord s f (offset + 4)) 32 32] [] s
  else logFn false f .unsupportedRequest (emit .ioCompletion [fnCode f, 1, 0] [] s)

/-- An access to a register of a function's BAR0. A write that comes poisoned is logged and dropped (R360). -/
def registerAccess (f : Fn) (spid offset size : Nat) (access : RegAccess) (s : State) : State :=
  barGate f spid (access != .read) (fun u =>
    match access with
    | .read => readReg f offset size u
    | .write _ true => logFn true f .poisonedRequest u
    | .write v false => writeReg f offset size v u) s

/-- REGISTER_WRITE (R338): the table's one row of accesses to registers, so that it stands for their reads too. (DESIGN CHOICE, log entry
111.) -/
def execRegisterWrite (fn : Fn) (spid : Nat) (offset : Nat) (size : Nat) (access : RegAccess) (s : State) :
    Host.Outcome State Fault Refusal :=
  overOd s (registerAccess fn spid offset size access s)

/-! ### Mastered requests (R346 to R348) -/

/-- COMPLETION_RECEIVED (R346). (DESIGN CHOICE, log entry 77.) -/
def execCompletionReceived (port : Fin 4) (tag : Nat) (status : CplStatus) (poisoned : Bool) (bytes : List Byte) (s : State) :
    Host.Outcome State Fault Refusal :=
  atRest s (if (portOf s port.val).up then completion port.val tag status poisoned bytes s else s)

/-- COMPLETION_TIMEOUT (R348). -/
def execCompletionTimeout (port : Fin 4) (tag : Nat) (s : State) : Host.Outcome State Fault Refusal := atRest s (tagTimeout port.val tag s)

/-- A tag's quarantine ends: it is free. -/
def freeTag (port tag : Nat) (s : State) : State :=
  match MapOps.get? tag (portOf s port).tags with
  | some g => if g.quarantined then modPort port (fun p => { p with tags := MapOps.erase tag p.tags }) s else s
  | none => s

/-- TAG_QUARANTINE_END (R348). -/
def execTagQuarantineEnd (port : Fin 4) (tag : Nat) (s : State) : Host.Outcome State Fault Refusal := atRest s (freeTag port.val tag s)

/-! ### Interrupts and power management (R341, R343, R344) -/

/-- MSIX_UNMASK (R341): the vector's Mask bit is cleared; its pending message goes out where nothing else masks it.
(DEDUCED, log entry 39.) -/
def execMsixUnmask (port : Fin 4) (ld : BarReq (Fin 16)) (vector : Fin 2048) (s : State) : Host.Outcome State Fault Refusal :=
  atRest s (barGate (.ld port ld.dest) ld.spid true (writeMsix (ldNo port ld.dest) vector.val 3 0) s)

/-- LTR_INTERVAL_END (R343): a change that fell due goes out. -/
def execLtrIntervalEnd (port : Fin 4) (s : State) : Host.Outcome State Fault Refusal :=
  atRest s (ltrUpdate port.val (modPort port.val (fun p => { p with ltrWait := false }) s))

/-- A port requests L1 if its conditions hold. -/
def askL1 (port : Nat) (agreed : Bool) (s : State) : State :=
  let p := portOf s port
  if p.l1Enable && p.up && ! inL1 s port && 2 ≤ ltrState s port && agreed then
    emit .l1Request [port] [] (modPort port (fun q => { q with l1 := true, l1At := s.out.length }) s)
  else s

/-- L1_ENTRY_IDLE_EXPIRED (R344). -/
def execL1EntryIdleExpired (port : Fin 4) (agreed : Bool) (s : State) : Host.Outcome State Fault Refusal :=
  atRest s (askL1 port.val agreed s)

/-! ### Mailboxes, the FM API and DOE (R305, R336, R337, R339) -/

/-- IDENTIFY (R339). -/
def execIdentify (req : BarReq Fn) (s : State) : Host.Outcome State Fault Refusal := overRead s (mailbox req.dest req.spid 0x0001 s)

/-- GET_SUPPORTED_LOGS (R339). -/
def execGetSupportedLogs (req : BarReq Fn) (s : State) : Host.Outcome State Fault Refusal := overRead s (mailbox req.dest req.spid 0x0400 s)

/-- GET_LOG (R339). -/
def execGetLog (req : BarReq Fn) (s : State) : Host.Outcome State Fault Refusal := overRead s (mailbox req.dest req.spid 0x0401 s)

/-- IDENTIFY_MEMORY_DEVICE (R339): total and volatile capacity, and no persistent one. -/
def execIdentifyMemoryDevice (req : BarReq Fn) (s : State) : Host.Outcome State Fault Refusal := overRead s (mailbox req.dest req.spid 0x4000 s)

/-- GET_PARTITION_INFO (R339): all capacity is active and volatile. -/
def execGetPartitionInfo (req : BarReq Fn) (s : State) : Host.Outcome State Fault Refusal := overRead s (mailbox req.dest req.spid 0x4100 s)

/-- GET_HEALTH_INFO (R339): 0 is Normal. -/
def execGetHealthInfo (req : BarReq Fn) (s : State) : Host.Outcome State Fault Refusal := overRead s (mailbox req.dest req.spid 0x4200 s)

/-- The ports whose LDs an FM API command on a road reports: MCTP roads that act for the fabric manager (R305). -/
def fmPorts : Road → List Nat
  | .i3c => List.range 4
  | .pf0 p => [p.val]
  | .ld _ _ => []
  | .window _ => []

/-- An FM API command is answered. (PRESUMED, log entry 61.) -/
def fmAnswer (road : Road) (op : Nat) (s : State) : State :=
  if ! roadOpen s road || (fmPorts road).isEmpty then s
  else emit .fmApi [roadCode road, op] (ldCapacities s (fmPorts road)) s

/-- GET_LD_INFO (R305). (PRESUMED, log entry 61.) -/
def execGetLdInfo (road : Road) (s : State) : Host.Outcome State Fault Refusal := overRead s (fmAnswer road 0x5400 s)

/-- GET_LD_ALLOCATIONS (R305). -/
def execGetLdAllocations (road : Road) (s : State) : Host.Outcome State Fault Refusal := overRead s (fmAnswer road 0x5401 s)

/-- A DOE mailbox takes objects: SPDM's place is open at it, and no object is in progress (R336). (DESIGN CHOICE, log entry 62.) -/
def doeOpen (s : State) (f : Fn) : Bool := spdmOpen s (.doe f)

/-- The protocols of Table 9-3, as vendor and type: PCI-SIG's Discovery, CMA/SPDM and Secured CMA/SPDM, and CXL's Table Access. -/
def doeProtocols : List (Nat × Nat) := [(0x0001, 0x00), (0x0001, 0x01), (0x0001, 0x02), (0x1E98, 0x02)]

/-- The answer of DOE Discovery to an index: vendor, type and the next index, 0 after the last. -/
def doeEntry (index : Nat) : Nat :=
  match doeProtocols[index]? with
  | some (v, t) => v + put t 8 16 + put (if index + 1 < doeProtocols.length then index + 1 else 0) 8 24
  | none => 0xFFFF

/-- DOE_DISCOVERY (R336). -/
def execDoeDiscovery (fn : Fn) (index : Nat) (s : State) : Host.Outcome State Fault Refusal :=
  overRead s (if doeOpen s fn then emit .doe [fnCode fn, 0] (toBytes 4 (doeEntry index)) s else s)

/-- The CDAT of a function: its sequence number, and for an LD the numbers of Table 9-4 for the link as trained: handle, flags (0
volatile), DPA base and DPA length of DSMAS; latencies and bandwidths of DSLBIS; handle, memory type (1 Specific Purpose), offset
and length of DSEMTS. -/
def cdatOf (s : State) (f : Fn) : List Nat :=
  match f with
  | .pf0 p => [(portOf s p.val).cdatSeq]
  | .ld p n =>
    let i := 16 * p.val + n.val
    [(ldOf s i).cdatSeq, 0, 0, 0, dsmas s i, 550, 550, cdatRate s p.val, cdatRate s p.val, 0, 1, 0, dsmas s i]

/-- DOE_TABLE_ACCESS (R337). -/
def execDoeTableAccess (fn : Fn) (s : State) : Host.Outcome State Fault Refusal :=
  overRead s (if doeOpen s fn then emit .doe ([fnCode fn, 2] ++ cdatOf s fn) [] s else s)

/-- The object in progress of a mailbox ends: the request that waits for its signature there is dropped.
(DESIGN CHOICE, log entry 62.) -/
def doeAborts (f : Fn) (s : State) : State :=
  s.setSec { s.sec with waits := s.sec.waits.filter fun w => w.at_ != .doe f }

/-- DOE_ABORT (R336). (DESIGN CHOICE, log entry 62.) -/
def execDoeAbort (fn : Fn) (s : State) : Host.Outcome State Fault Refusal :=
  overSec s (if spdmServed s (.doe fn) then doeAborts fn s else s)

end Sys2Proof.Machine
end

