-- ==== Sys2Proof/Machine/SecCmds.lean ====
section
/-! DEFINITION. Meanings of the rows of chapter 13: SPDM, link keys, signatures, fuses, debug and KEYLOAD. -/

namespace Sys2Proof.Machine

open Sys2Proof

/-! ### SPDM (R461 to R468) -/

/-- GET_VERSION (R463). -/
def execGetVersion (at_ : SpdmAt) (s : State) : Host.Outcome State Fault Refusal := overSec s (spdmVersion at_ s)

/-- GET_CAPABILITIES (R463). -/
def execGetCapabilities (at_ : SpdmAt) (s : State) : Host.Outcome State Fault Refusal := overSec s (spdmCapabilities at_ s)

/-- NEGOTIATE_ALGORITHMS (R464). -/
def execNegotiateAlgorithms (at_ : SpdmAt) (hss : Bool) (mlkem : Bool) (s : State) : Host.Outcome State Fault Refusal :=
  overSec s (spdmAlgorithms at_ hss mlkem s)

/-- GET_DIGESTS (R466). -/
def execGetDigests (at_ : SpdmAt) (s : State) : Host.Outcome State Fault Refusal := overSec s (spdmDigests at_ s)

/-- GET_CERTIFICATE (R466). -/
def execGetCertificate (at_ : SpdmAt) (slot : Nat) (offset : Nat) (length : Nat) (s : State) : Host.Outcome State Fault Refusal :=
  overSec s (spdmCertificate at_ slot offset length s)

/-- CHALLENGE (R461). -/
def execChallenge (at_ : SpdmAt) (slot : Nat) (nonce : List Byte) (s : State) : Host.Outcome State Fault Refusal :=
  overSec s (spdmChallenge at_ slot nonce s)

/-- GET_MEASUREMENTS (R468). -/
def execGetMeasurements (at_ : SpdmAt) (operation : Nat) (sign : Bool) (nonce : List Byte) (s : State) :
    Host.Outcome State Fault Refusal :=
  overSec s (spdmMeasurements at_ operation sign nonce s)

/-- KEY_EXCHANGE (R465). -/
def execKeyExchange (at_ : SpdmAt) (reqSessionId : Nat) (key : List Byte) (s : State) : Host.Outcome State Fault Refusal :=
  overSec s (spdmExchange at_ reqSessionId key s)

/-- FINISH (R463). -/
def execFinish (session : Nat) (verify : List Byte) (s : State) : Host.Outcome State Fault Refusal :=
  overSec s (spdmFinish session verify s)

/-- HEARTBEAT (R463). -/
def execHeartbeat (session : Nat) (s : State) : Host.Outcome State Fault Refusal := overSec s (spdmHeartbeat session s)

/-- KEY_UPDATE (R463). -/
def execKeyUpdate (session : Nat) (s : State) : Host.Outcome State Fault Refusal := overSec s (spdmKeyUpdate session s)

/-- END_SESSION (R467). -/
def execEndSession (session : Nat) (s : State) : Host.Outcome State Fault Refusal := overSec s (spdmEnd session s)

/-! ### Link keys (R470) -/

/-- IDE_KM_QUERY (R470). -/
def execIdeKmQuery (session : Nat) (port : Fin 4) (mem : Bool) (s : State) : Host.Outcome State Fault Refusal :=
  overSec s (ideQuery session port.val mem s)

/-- KEY_PROG (R470). -/
def execKeyProg (session : Nat) (port : Fin 4) (mem : Bool) (rx : Bool) (set : Fin 2) (key : List Byte) (s : State) :
    Host.Outcome State Fault Refusal :=
  overSec s (ideProg session port.val mem rx set.val key s)

/-- K_SET_GO (R470). -/
def execKSetGo (session : Nat) (port : Fin 4) (mem : Bool) (rx : Bool) (set : Fin 2) (s : State) : Host.Outcome State Fault Refusal :=
  overSec s (ideGo session port.val mem rx set.val s)

/-- K_SET_STOP (R470). -/
def execKSetStop (session : Nat) (port : Fin 4) (mem : Bool) (rx : Bool) (set : Fin 2) (s : State) :
    Host.Outcome State Fault Refusal :=
  overSec s (ideStop session port.val mem rx set.val s)

/-- GETKEY (R470). -/
def execGetkey (session : Nat) (port : Fin 4) (s : State) : Host.Outcome State Fault Refusal := overSec s (ideGet session port.val s)

/-! ### Signatures (R459 to R461) -/

/-- COUNTER_RECORD_DURABLE (R459). -/
def execCounterRecordDurable (s : State) : Host.Outcome State Fault Refusal := overSec s (counterDurable s)

/-- TREE_OPEN_DONE (R460): it burns one bit of TREE_FUSES. -/
def execTreeOpenDone (burned : Bool) (s : State) : Host.Outcome State Fault Refusal :=
  .next ((treeDone burned s).setPending s.pending)

/-- SIGN_RATE_REFILL (R461). -/
def execSignRateRefill (s : State) : Host.Outcome State Fault Refusal := overSec s (signRefill s)

/-! ### The security version floor and debug (R454, R486 to R488) -/

/-- SVN_COMMIT (R454). -/
def execSvnCommit (road : Road) (secured : Bool) (value : Nat) (burned : Bool) (s : State) : Host.Outcome State Fault Refusal :=
  overOd s (odServe road (.svn secured value burned) s)

/-- DEBUG_CHALLENGE (R486). -/
def execDebugChallenge (s : State) : Host.Outcome State Fault Refusal := overSec s (newChallenge s)

/-- DEBUG_TOKEN (R486). (DESIGN CHOICE, log entry 53.) -/
def execDebugToken (road : Road) (scope : Nat) (signature : List Byte) (s : State) : Host.Outcome State Fault Refusal :=
  overOd s (odServe road (.token scope signature) s)

/-- DEBUG_CLOSE (R488). -/
def execDebugClose (road : Road) (secured : Bool) (value : Nat) (s : State) : Host.Outcome State Fault Refusal :=
  overOd s (odPut road secured 0x2800 0x0F 4 value s)

/-- KEYLOAD (R474). -/
def execKeyload (cmd : Nat) (s : State) : Host.Outcome State Fault Refusal :=
  atRest s (beginCmd cmd 0x40 (fun _ => true) (keyload cmd) s)

end Sys2Proof.Machine
end

