-- ==== Sys2Proof/Machine/DramCmds.lean ====
section
/-! DEFINITION. Meanings of the rows of chapters 10 to 12: the DRAM controllers, Underlay and bandwidth regulation. -/

namespace Sys2Proof.Machine

open Sys2Proof

/-! ### DRAM controllers (R371 to R392) -/

/-- CALIBRATION_DUE (R371). -/
def execCalibrationDue (item : CalItem) (at_ : CtlPlace) (s : State) : Host.Outcome State Fault Refusal :=
  quick s (calibration item (ctlNo at_.ctl) at_.place s)

/-- REFRESH_DUE (R372). -/
def execRefreshDue (at_ : CtlPlace) (bank : Nat) (doubled : Bool) (postpone : Bool) (s : State) : Host.Outcome State Fault Refusal :=
  quick s (refresh (ctlNo at_.ctl) at_.place bank doubled postpone s)

/-- DRAM_REQUEST (R373, R374, R379). Congestion is judged anew (R436). -/
def execDramRequest (ctl : Ctl) (port : DramPort) (isWrite : Bool) (block : Nat) (sector : Fin 64) (s : State) :
    Host.Outcome State Fault Refusal :=
  quick s (judge (dramRequest (ctlNo ctl) port isWrite (64 * block + sector.val) s))

/-- SECTOR_READ_RETURN (R381). -/
def execSectorReadReturn (ref : ReadRef) (severe : Bool) (error : List Byte) (s : State) : Host.Outcome State Fault Refusal :=
  atRest s (sectorReturn ref severe error s)

/-- STARVE_LIMIT_EXPIRED (R373). -/
def execStarveLimitExpired (ctl : Ctl) (request : Nat) (s : State) : Host.Outcome State Fault Refusal :=
  quick s (starve (ctlNo ctl) request s)

/-- PARITY_ALERT (R376). -/
def execParityAlert (ctl : Ctl) (s : State) : Host.Outcome State Fault Refusal := quick s (parityAlert (ctlNo ctl) s)

/-- ALERT_WAIT_EXPIRED (R377): a failed replay of the episode. -/
def execAlertWaitExpired (ctl : Ctl) (s : State) : Host.Outcome State Fault Refusal := atRest s (replayed (ctlNo ctl) false s)

/-- REPLAY_DONE (R376). -/
def execReplayDone (ctl : Ctl) (s : State) : Host.Outcome State Fault Refusal := atRest s (replayed (ctlNo ctl) true s)

/-- REPLAY_EPISODE_END (R377). -/
def execReplayEpisodeEnd (ctl : Ctl) (s : State) : Host.Outcome State Fault Refusal := quick s (episodeEnds (ctlNo ctl) s)

/-- SELF_REFRESH_IDLE_EXPIRED (R378). -/
def execSelfRefreshIdleExpired (channel : Fin 16) (s : State) : Host.Outcome State Fault Refusal :=
  quick s (enterSelfRefresh channel.val s)

/-- SELF_REFRESH_EXIT_DONE (R379). -/
def execSelfRefreshExitDone (channel : Fin 16) (s : State) : Host.Outcome State Fault Refusal :=
  quick s (exitSelfRefresh channel.val s)

/-- HBM_POWER_DOWN_IDLE (R379). -/
def execHbmPowerDownIdle (stack : Fin 8) (pseudo : Fin 32) (s : State) : Host.Outcome State Fault Refusal :=
  quick s (powerDown stack.val pseudo.val s)

/-- SCRUB_RESERVE (R392). -/
def execScrubReserve (road : Road) (value : Nat) (s : State) : Host.Outcome State Fault Refusal :=
  overOd s (odPut road false 0x2600 0x0D 1 value s)

/-- RESERVE_SCRUB_DONE (R392). -/
def execReserveScrubDone (s : State) : Host.Outcome State Fault Refusal := quick s (Sys2Proof.Machine.reserveScrubDone s)

/-! ### Underlay (R402 to R427) -/

/-- NAND_OPERATION_DONE (R412, R421). -/
def execNandOperationDone (channel : Fin 16) (op : NandOp) (superblock : Nat) (row : Nat) (chunk : Nat) (result : NandResult)
    (s : State) : Host.Outcome State Fault Refusal :=
  atRest s (nandDone channel.val op superblock row chunk result s)

/-- NAND_OPERATION_TIMEOUT (R423). -/
def execNandOperationTimeout (channel : Fin 16) (s : State) : Host.Outcome State Fault Refusal :=
  atRest s (channelOffline channel.val s)

/-- ROW_CLOSE_TIMEOUT (R402). -/
def execRowCloseTimeout (superblock : Nat) (s : State) : Host.Outcome State Fault Refusal := quick s (closeRow superblock s)

/-- RECORD_BATCH_EXPIRED (R408). -/
def execRecordBatchExpired (s : State) : Host.Outcome State Fault Refusal := quick s (batchOut s)

/-- FCR_DURABLE (R408). -/
def execFcrDurable (s : State) : Host.Outcome State Fault Refusal := atRest s (pageDurable s)

/-- CHECKPOINT_DUE (R410). -/
def execCheckpointDue (s : State) : Host.Outcome State Fault Refusal := quick s (checkpointNow s)

/-- UNDERLAY_MOUNT_DONE (R410, R427). -/
def execUnderlayMountDone (records : Option Nat) (s : State) : Host.Outcome State Fault Refusal := quick s (mountDone records s)

/-- RETENTION_AGE_REACHED (R419). -/
def execRetentionAgeReached (superblock : Nat) (s : State) : Host.Outcome State Fault Refusal := atRest s (ageDue superblock s)

/-- READ_LIMIT_REACHED (R420). -/
def execReadLimitReached (superblock : Nat) (s : State) : Host.Outcome State Fault Refusal := atRest s (readsDue superblock s)

/-- UNDERLAY_FORMAT (R427). -/
def execUnderlayFormat (road : Road) (value : Nat) (s : State) : Host.Outcome State Fault Refusal :=
  overOd s (odPut road false 0x2700 0x0B 4 value s)

/-! ### Bandwidth (R434, R442) -/

/-- BUDGET_WINDOW_ROLLOVER (R434, R443). -/
def execBudgetWindowRollover (master : Fin 131) (s : State) : Host.Outcome State Fault Refusal := atRest s (windowEnds master.val s)

/-- GUARANTEE_RECOMPUTE (R440, R442): the figures exist once S3 has settled the tiers. -/
def execGuaranteeRecompute (s : State) : Host.Outcome State Fault Refusal := quick s (if isLit s then recompute s else s)

end Sys2Proof.Machine
end

