-- ==== Sys2Proof/Machine/StartCmds.lean ====
section
/-! DEFINITION. Meanings of the rows of chapters 14 and 16: resets, the start, clocks, rails, heat and JTAG. -/

namespace Sys2Proof.Machine

open Sys2Proof

/-! ### Resets and the start (R494, R506 to R516) -/

/-- POWER_ON (R506). -/
def execPowerOn (straps : BitVec 3) (s : State) : Host.Outcome State Fault Refusal := quick s (Sys2Proof.Machine.powerOn straps s)

/-- POWER_OFF (R556). -/
def execPowerOff (s : State) : Host.Outcome State Fault Refusal := quick s (Sys2Proof.Machine.powerOff s)

/-- GRST_ASSERT (R506). -/
def execGrstAssert (s : State) : Host.Outcome State Fault Refusal := quick s (grstLow s)

/-- GRST_DEASSERT (R495, R506). -/
def execGrstDeassert (straps : BitVec 3) (s : State) : Host.Outcome State Fault Refusal := quick s (grstHigh straps s)

/-- RESTART (R506). -/
def execRestart (road : Road) (value : Nat) (s : State) : Host.Outcome State Fault Refusal :=
  overOd s (odPut road false 0x1800 0x0B 4 value s)

/-- OSC_DELAY_EXPIRED (R494). -/
def execOscDelayExpired (s : State) : Host.Outcome State Fault Refusal := quick s (oscReady s)

/-- LOSC_JUDGEMENT_DONE (R494). -/
def execLoscJudgementDone (count1 : Nat) (count2 : Nat) (s : State) : Host.Outcome State Fault Refusal :=
  quick s (loscJudged count1 count2 s)

/-- FUSE_PHASE_DONE (R448, R508). (DESIGN CHOICE, log entry 77.) -/
def execFusePhaseDone (upsets : List FuseUpset) (s : State) : Host.Outcome State Fault Refusal := quick s (fusesRead upsets s)

/-- IMAGE_PHASE_DONE (R452, R453). -/
def execImagePhaseDone (s : State) : Host.Outcome State Fault Refusal := quick s (imageDone s)

/-- CHANNEL_TRAIN_TIMEOUT (R369). -/
def execChannelTrainTimeout (channel : Fin 16) (s : State) : Host.Outcome State Fault Refusal := quick s (channelUntrained channel.val s)

/-- TRAIN_PHASE_DONE (R511). (DESIGN CHOICE, log entry 77.) -/
def execTrainPhaseDone (found : Population) (s : State) : Host.Outcome State Fault Refusal := atRest s (trainDone found s)

/-- PHASE_BUDGET_EXPIRED (R508). -/
def execPhaseBudgetExpired (reason : Nat) (s : State) : Host.Outcome State Fault Refusal := quick s (budgetOver reason s)

/-- RETRY_DELAY_EXPIRED (R513). -/
def execRetryDelayExpired (s : State) : Host.Outcome State Fault Refusal := quick s (retryNow s)

/-- RESET_PULSE_IGNORED (R551): the AON island counts it. -/
def execResetPulseIgnored (s : State) : Host.Outcome State Fault Refusal :=
  quick s (if s.start.stage == .off then s else count 0x3100 4 s)

/-! ### Reference clocks (R496 to R498) -/

/-- REFERENCE_SELECT_RCLK (R496). -/
def execReferenceSelectRclk (road : Road) (value : Nat) (s : State) : Host.Outcome State Fault Refusal :=
  overOd s (odPut road false 0x2000 1 1 value s)

/-- REFERENCE_SELECT_LOSC (R497). -/
def execReferenceSelectLosc (road : Road) (value : Nat) (s : State) : Host.Outcome State Fault Refusal :=
  overOd s (odPut road false 0x2000 1 1 value s)

/-- RCLK_CHECK_DONE (R496). -/
def execRclkCheckDone (within : Bool) (ppm : Int) (s : State) : Host.Outcome State Fault Refusal :=
  atRest s (candidateChecked within ppm s)

/-- RCLK_LOST (R497). -/
def execRclkLost (s : State) : Host.Outcome State Fault Refusal := atRest s (fallback s)

/-- RCLK_HOLDOFF_EXPIRED (R497). -/
def execRclkHoldoffExpired (s : State) : Host.Outcome State Fault Refusal := atRest s (holdoffOver s)

/-- LOSC_LOST (R498). -/
def execLoscLost (s : State) : Host.Outcome State Fault Refusal := atRest s (loscFails s)

/-! ### Clock gates (R501 to R505) -/

/-- FRAME_CLOCK_ENABLE (R503). -/
def execFrameClockEnable (road : Road) (value : Nat) (s : State) : Host.Outcome State Fault Refusal :=
  overOd s (odPut road false 0x2010 1 8 value s)

/-- MEMORY_CLOCK_ENABLE (R502): kind 0 DDR, 1 ONFI, 2 HBM. -/
def execMemoryClockEnable (road : Road) (kind : Fin 3) (value : Nat) (s : State) : Host.Outcome State Fault Refusal :=
  overOd s (odPut road false 0x2011 (kind.val + 1) (if kind.val == 2 then 1 else 2) value s)

/-- GATE_CLOSE (R503, R504): kind 0 a frame, 1 DDR, 2 ONFI, 3 HBM. -/
def execGateClose (kind : Fin 4) (block : Nat) (busy : Nat) (s : State) : Host.Outcome State Fault Refusal :=
  quick s (closeGate kind.val block busy s)

/-! ### Rails and heat (R556 to R562) -/

/-- RAIL_FAULT (R556). -/
def execRailFault (rail : Fin 11) (s : State) : Host.Outcome State Fault Refusal := quick s (railFails rail.val s)

/-- RAIL_RESTORED (R556). -/
def execRailRestored (s : State) : Host.Outcome State Fault Refusal := quick s (railsGood s)

/-- THERMAL_SAMPLE (R558 to R562). -/
def execThermalSample (temps : List Int) (dimmMax : Int) (rails : List Nat) (s : State) : Host.Outcome State Fault Refusal :=
  quick s (Sys2Proof.Machine.thermalSample temps dimmMax rails s)

/-- SENSOR_TIMEOUT (R558). -/
def execSensorTimeout (die : Fin 24) (sensor : Nat) (s : State) : Host.Outcome State Fault Refusal :=
  quick s (sensorLost die.val sensor s)

/-- DERATE_END_TIMER (R561). -/
def execDerateEndTimer (s : State) : Host.Outcome State Fault Refusal := quick s (derateEnds s)

/-- CATASTROPHIC_TEMPERATURE_ALARM (R562): the die is the stack's, 16 + m. -/
def execCatastrophicTemperatureAlarm (stack : Fin 8) (s : State) : Host.Outcome State Fault Refusal :=
  quick s (tripNow (16 + stack.val) s)

/-- JTAG_INSTRUCTION (R563). -/
def execJtagInstruction (ir : JtagInstr) (s : State) : Host.Outcome State Fault Refusal := quick s (tapInstruction ir s)

end Sys2Proof.Machine
end

