-- ==== Sys2Proof/Machine/OdCmds.lean ====
section
/-! DEFINITION. Meanings of the rows of chapter 15: the messages of the object dictionary, the persisted store, event log and
light meter. -/

namespace Sys2Proof.Machine

open Sys2Proof

/-- READ (R525). -/
def execRead (road : Road) (tag : Nat) (index : Nat) (sub : Nat) (context : Nat) (offset : Nat) (length : Nat) (s : State) :
    Host.Outcome State Fault Refusal :=
  overOd s (odServe road (.read tag index sub context offset length) s)

/-- WRITE (R527). -/
def execWrite (road : Road) (secured : Bool) (tag : Nat) (index : Nat) (sub : Nat) (context : Nat) (bytes : List Byte)
    (s : State) : Host.Outcome State Fault Refusal :=
  overOd s (odServe road (.write secured tag index sub context bytes) s)

/-- DESCRIBE (R569). -/
def execDescribe (road : Road) (tag : Nat) (index : Nat) (sub : Nat) (s : State) : Host.Outcome State Fault Refusal :=
  overOd s (odServe road (.describe tag index sub) s)

/-- XFER_OPEN (R531). -/
def execXferOpen (road : Road) (tag : Nat) (index : Nat) (sub : Nat) (total : Nat) (s : State) :
    Host.Outcome State Fault Refusal :=
  overOd s (odServe road (.open_ tag index sub total) s)

/-- XFER_DATA (R532, R533). -/
def execXferData (road : Road) (tag : Nat) (xfer : Nat) (offset : Nat) (bytes : List Byte) (s : State) :
    Host.Outcome State Fault Refusal :=
  overOd s (odServe road (.data tag xfer offset bytes) s)

/-- XFER_COMMIT (R533). -/
def execXferCommit (road : Road) (tag : Nat) (xfer : Nat) (s : State) : Host.Outcome State Fault Refusal :=
  overOd s (odServe road (.commit tag xfer) s)

/-- XFER_ABORT (R531). -/
def execXferAbort (road : Road) (tag : Nat) (xfer : Nat) (s : State) : Host.Outcome State Fault Refusal :=
  overOd s (odServe road (.abort tag xfer) s)

/-- PERSIST_PROGRAM_DONE (R530). -/
def execPersistProgramDone (ok : Bool) (s : State) : Host.Outcome State Fault Refusal := overOd s (persistDone ok s)

/-- SNAPSHOT_LAPSE (R525). -/
def execSnapshotLapse (road : Road) (s : State) : Host.Outcome State Fault Refusal := quick s (dropSnapshot road s)

/-- TRANSFER_IDLE_TIMEOUT (R531). -/
def execTransferIdleTimeout (xfer : Nat) (s : State) : Host.Outcome State Fault Refusal := quick s (xferTimeout xfer s)

/-- IMAGE_SLOT_ERASE_DONE (R532). -/
def execImageSlotEraseDone (slot : Fin 2) (s : State) : Host.Outcome State Fault Refusal := overOd s (slotErased slot.val s)

/-- IMAGE_VERIFY_DONE (R455). -/
def execImageVerifyDone (slot : Fin 2) (s : State) : Host.Outcome State Fault Refusal := overOd s (imageVerified slot.val s)

/-- EVENT_SWAP (R545). -/
def execEventSwap (road : Road) (value : Nat) (s : State) : Host.Outcome State Fault Refusal :=
  overOd s (odPut road false 0x3900 2 1 value s)

/-- LM_ENABLE (R546). -/
def execLmEnable (road : Road) (value : Nat) (s : State) : Host.Outcome State Fault Refusal :=
  overOd s (odPut road false 0x3800 1 1 value s)

/-- LM_SAMPLE (R546). -/
def execLmSample (s : State) : Host.Outcome State Fault Refusal := quick s (sampleAll s)

/-- LM_SWAP (R546). -/
def execLmSwap (road : Road) (value : Nat) (s : State) : Host.Outcome State Fault Refusal :=
  overOd s (odPut road false 0x3800 5 1 value s)

/-- LIFETIME_HOURLY_WRITE (R542): an hour of power-on; the store can be written from S2 on. -/
def execLifetimeHourlyWrite (s : State) : Host.Outcome State Fault Refusal :=
  quick s (match s.start.stage with
    | .off => s
    | .image | .train | .lit | .safelight => writeLife (lifeBy 1 1 s)
    | _ => lifeBy 1 1 s)

/-- DYNAMIC_ADDRESS_ASSIGNMENT (R519): the I3C target answers from S1 on. -/
def execDynamicAddressAssignment (address : BitVec 7) (s : State) : Host.Outcome State Fault Refusal :=
  quick s (if roadOpen s .i3c then s.setOd { s.od with i3c := some address } else s)

end Sys2Proof.Machine
end

