-- ==== Sys2Proof/Machine/Dispatch.lean ====
section
/-! DEFINITION. One arm per command, each one call of its meaning. -/

namespace Sys2Proof.Machine

open Sys2Proof

def exec (i : Instr) (s : State) : Host.Outcome State Fault Refusal :=
  match i with
  | .purlinFrame bridge up bytes crc => Sys2Proof.Machine.execPurlinFrame bridge up bytes crc s
  | .purlinLinkFailed bridge => Sys2Proof.Machine.execPurlinLinkFailed bridge s
  | .cxlMemRead port ld spid tag hpa => Sys2Proof.Machine.execCxlMemRead port ld spid tag hpa s
  | .cxlMemWrite port ld spid tag hpa enables bytes poison => Sys2Proof.Machine.execCxlMemWrite port ld spid tag hpa enables bytes poison s
  | .moveStart md => Sys2Proof.Machine.execMoveStart md s
  | .copyPassEnd ext tile => Sys2Proof.Machine.execCopyPassEnd ext tile s
  | .flipWindowClear ext tile => Sys2Proof.Machine.execFlipWindowClear ext tile s
  | .flipWindowTimeout ext tile => Sys2Proof.Machine.execFlipWindowTimeout ext tile s
  | .freePendingSlotReturn batten md slot => Sys2Proof.Machine.execFreePendingSlotReturn batten md slot s
  | .damagedHoldTimeout ext tile block => Sys2Proof.Machine.execDamagedHoldTimeout ext tile block s
  | .noSlotWaitTimeout ext tile => Sys2Proof.Machine.execNoSlotWaitTimeout ext tile s
  | .heatHalving md => Sys2Proof.Machine.execHeatHalving md s
  | .heatHalfLifeWrite road value => Sys2Proof.Machine.execHeatHalfLifeWrite road value s
  | .parkStart md => Sys2Proof.Machine.execParkStart md s
  | .parkPassEnd ext => Sys2Proof.Machine.execParkPassEnd ext s
  | .parkWindowClear ext => Sys2Proof.Machine.execParkWindowClear ext s
  | .unparkStart md => Sys2Proof.Machine.execUnparkStart md s
  | .tileLanded ext tile lost => Sys2Proof.Machine.execTileLanded ext tile lost s
  | .unparkLoadTimeout ext tile tag => Sys2Proof.Machine.execUnparkLoadTimeout ext tile tag s
  | .unparkStoreTimeout ext tile tag => Sys2Proof.Machine.execUnparkStoreTimeout ext tile tag s
  | .hintHot cmd => Sys2Proof.Machine.execHintHot cmd s
  | .hintWarm cmd => Sys2Proof.Machine.execHintWarm cmd s
  | .hintCold cmd => Sys2Proof.Machine.execHintCold cmd s
  | .hintPark cmd => Sys2Proof.Machine.execHintPark cmd s
  | .hintDrop cmd => Sys2Proof.Machine.execHintDrop cmd s
  | .sessionHintHot cmd => Sys2Proof.Machine.execSessionHintHot cmd s
  | .sessionHintWarm cmd => Sys2Proof.Machine.execSessionHintWarm cmd s
  | .sessionHintCold cmd => Sys2Proof.Machine.execSessionHintCold cmd s
  | .sessionHintPark cmd => Sys2Proof.Machine.execSessionHintPark cmd s
  | .sessionHintDrop cmd => Sys2Proof.Machine.execSessionHintDrop cmd s
  | .move cmd => Sys2Proof.Machine.execMove cmd s
  | .park cmd => Sys2Proof.Machine.execPark cmd s
  | .parkBySession cmd => Sys2Proof.Machine.execParkBySession cmd s
  | .unpark cmd => Sys2Proof.Machine.execUnpark cmd s
  | .unparkBySession cmd => Sys2Proof.Machine.execUnparkBySession cmd s
  | .drop cmd => Sys2Proof.Machine.execDrop cmd s
  | .dropBySession cmd => Sys2Proof.Machine.execDropBySession cmd s
  | .bind cmd => Sys2Proof.Machine.execBind cmd s
  | .update cmd => Sys2Proof.Machine.execUpdate cmd s
  | .query cmd => Sys2Proof.Machine.execQuery cmd s
  | .prefixForm cmd => Sys2Proof.Machine.execPrefixForm cmd s
  | .sessionEnd cmd => Sys2Proof.Machine.execSessionEnd cmd s
  | .sessionEndPrefix cmd => Sys2Proof.Machine.execSessionEndPrefix cmd s
  | .sessionScanVisit isPrefix entry => Sys2Proof.Machine.execSessionScanVisit isPrefix entry s
  | .calendarSecondsWrite road value => Sys2Proof.Machine.execCalendarSecondsWrite road value s
  | .teststrip cmd => Sys2Proof.Machine.execTeststrip cmd s
  | .teststripSampleStart md => Sys2Proof.Machine.execTeststripSampleStart md s
  | .teststripSketchDone slot => Sys2Proof.Machine.execTeststripSketchDone slot s
  | .teststripTrialDone slot => Sys2Proof.Machine.execTeststripTrialDone slot s
  | .decodeDone job error => Sys2Proof.Machine.execDecodeDone job error s
  | .run cmd => Sys2Proof.Machine.execRun cmd s
  | .attend cmd => Sys2Proof.Machine.execAttend cmd s
  | .rebuild cmd => Sys2Proof.Machine.execRebuild cmd s
  | .runGrant part => Sys2Proof.Machine.execRunGrant part s
  | .frameSwitchDone frame clear => Sys2Proof.Machine.execFrameSwitchDone frame clear s
  | .nop run frame => Sys2Proof.Machine.execNop run frame s
  | .loadTile run frame => Sys2Proof.Machine.execLoadTile run frame s
  | .storeTile run frame => Sys2Proof.Machine.execStoreTile run frame s
  | .moveHint run frame => Sys2Proof.Machine.execMoveHint run frame s
  | .runMultiply run frame => Sys2Proof.Machine.execRunMultiply run frame s
  | .runAccumulate run frame => Sys2Proof.Machine.execRunAccumulate run frame s
  | .runDrain run frame => Sys2Proof.Machine.execRunDrain run frame s
  | .vecLoad run frame => Sys2Proof.Machine.execVecLoad run frame s
  | .vecStore run frame => Sys2Proof.Machine.execVecStore run frame s
  | .vecAdd run frame => Sys2Proof.Machine.execVecAdd run frame s
  | .vecSub run frame => Sys2Proof.Machine.execVecSub run frame s
  | .vecMul run frame => Sys2Proof.Machine.execVecMul run frame s
  | .vecFma run frame => Sys2Proof.Machine.execVecFma run frame s
  | .vecMax run frame => Sys2Proof.Machine.execVecMax run frame s
  | .vecMin run frame => Sys2Proof.Machine.execVecMin run frame s
  | .vecAbs run frame => Sys2Proof.Machine.execVecAbs run frame s
  | .vecNeg run frame => Sys2Proof.Machine.execVecNeg run frame s
  | .vecCmplt run frame => Sys2Proof.Machine.execVecCmplt run frame s
  | .vecSelect run frame => Sys2Proof.Machine.execVecSelect run frame s
  | .vecIota run frame => Sys2Proof.Machine.execVecIota run frame s
  | .vecRcp run frame => Sys2Proof.Machine.execVecRcp run frame s
  | .vecRsqrt run frame => Sys2Proof.Machine.execVecRsqrt run frame s
  | .vecSqrt run frame => Sys2Proof.Machine.execVecSqrt run frame s
  | .vecExp2 run frame => Sys2Proof.Machine.execVecExp2 run frame s
  | .vecExp run frame => Sys2Proof.Machine.execVecExp run frame s
  | .vecLog2 run frame => Sys2Proof.Machine.execVecLog2 run frame s
  | .vecTanh run frame => Sys2Proof.Machine.execVecTanh run frame s
  | .vecSigmoid run frame => Sys2Proof.Machine.execVecSigmoid run frame s
  | .vecSin run frame => Sys2Proof.Machine.execVecSin run frame s
  | .vecCos run frame => Sys2Proof.Machine.execVecCos run frame s
  | .vecRsum run frame => Sys2Proof.Machine.execVecRsum run frame s
  | .vecRmax run frame => Sys2Proof.Machine.execVecRmax run frame s
  | .vecRmin run frame => Sys2Proof.Machine.execVecRmin run frame s
  | .vecAnd run frame => Sys2Proof.Machine.execVecAnd run frame s
  | .vecOr run frame => Sys2Proof.Machine.execVecOr run frame s
  | .vecXor run frame => Sys2Proof.Machine.execVecXor run frame s
  | .waitToken run frame => Sys2Proof.Machine.execWaitToken run frame s
  | .waitDeviceWord run frame => Sys2Proof.Machine.execWaitDeviceWord run frame s
  | .waitRemoteWord run frame => Sys2Proof.Machine.execWaitRemoteWord run frame s
  | .waitPoll run frame => Sys2Proof.Machine.execWaitPoll run frame s
  | .signalAdd run frame => Sys2Proof.Machine.execSignalAdd run frame s
  | .signalSet run frame => Sys2Proof.Machine.execSignalSet run frame s
  | .remoteWrite run frame => Sys2Proof.Machine.execRemoteWrite run frame s
  | .remoteRead run frame => Sys2Proof.Machine.execRemoteRead run frame s
  | .loop run frame => Sys2Proof.Machine.execLoop run frame s
  | .endStep run frame => Sys2Proof.Machine.execEndStep run frame s
  | .stepCompleted run frame step => Sys2Proof.Machine.execStepCompleted run frame step s
  | .loadTilePoisonRetry run frame step => Sys2Proof.Machine.execLoadTilePoisonRetry run frame step s
  | .stallLimitExpired run frame => Sys2Proof.Machine.execStallLimitExpired run frame s
  | .runStopped run => Sys2Proof.Machine.execRunStopped run s
  | .attendAppendDone run => Sys2Proof.Machine.execAttendAppendDone run s
  | .register road context => Sys2Proof.Machine.execRegister road context s
  | .registrationDigestDone part => Sys2Proof.Machine.execRegistrationDigestDone part s
  | .unregister road context => Sys2Proof.Machine.execUnregister road context s
  | .reload road context => Sys2Proof.Machine.execReload road context s
  | .ringEnable port ld spid ring => Sys2Proof.Machine.execRingEnable port ld spid ring s
  | .ringDisable port ld spid ring => Sys2Proof.Machine.execRingDisable port ld spid ring s
  | .sqTailDoorbell port ld spid ring stores => Sys2Proof.Machine.execSqTailDoorbell port ld spid ring stores s
  | .cqHeadWrite port ld spid ring stores => Sys2Proof.Machine.execCqHeadWrite port ld spid ring stores s
  | .descriptorFetch port ld ring => Sys2Proof.Machine.execDescriptorFetch port ld ring s
  | .commandDeadlineExpired cmd => Sys2Proof.Machine.execCommandDeadlineExpired cmd s
  | .irqGatheringEnd port ld ring => Sys2Proof.Machine.execIrqGatheringEnd port ld ring s
  | .fill cmd => Sys2Proof.Machine.execFill cmd s
  | .copy cmd => Sys2Proof.Machine.execCopy cmd s
  | .compare cmd => Sys2Proof.Machine.execCompare cmd s
  | .reduceSum cmd => Sys2Proof.Machine.execReduceSum cmd s
  | .reduceMax cmd => Sys2Proof.Machine.execReduceMax cmd s
  | .reduceMin cmd => Sys2Proof.Machine.execReduceMin cmd s
  | .reduceAnd cmd => Sys2Proof.Machine.execReduceAnd cmd s
  | .reduceOr cmd => Sys2Proof.Machine.execReduceOr cmd s
  | .reduceXor cmd => Sys2Proof.Machine.execReduceXor cmd s
  | .nearMemoryDone cmd => Sys2Proof.Machine.execNearMemoryDone cmd s
  | .squeegee cmd => Sys2Proof.Machine.execSqueegee cmd s
  | .squeegeePassDone cmd => Sys2Proof.Machine.execSqueegeePassDone cmd s
  | .claim cmd => Sys2Proof.Machine.execClaim cmd s
  | .release cmd => Sys2Proof.Machine.execRelease cmd s
  | .publish cmd => Sys2Proof.Machine.execPublish cmd s
  | .exposeOpen cmd => Sys2Proof.Machine.execExposeOpen cmd s
  | .exposeAdd cmd => Sys2Proof.Machine.execExposeAdd cmd s
  | .exposeCommit cmd => Sys2Proof.Machine.execExposeCommit cmd s
  | .exposeAbort cmd => Sys2Proof.Machine.execExposeAbort cmd s
  | .prepare expo who => Sys2Proof.Machine.execPrepare expo who s
  | .participantQuietTimeout expo who => Sys2Proof.Machine.execParticipantQuietTimeout expo who s
  | .prepareAnswersIn expo => Sys2Proof.Machine.execPrepareAnswersIn expo s
  | .commitRetryTimer expo => Sys2Proof.Machine.execCommitRetryTimer expo s
  | .apply expo who => Sys2Proof.Machine.execApply expo who s
  | .exposureIdleExpired expo => Sys2Proof.Machine.execExposureIdleExpired expo s
  | .keyload cmd => Sys2Proof.Machine.execKeyload cmd s
  | .partitionAssign road part value => Sys2Proof.Machine.execPartitionAssign road part value s
  | .partitionLdAdd road part value => Sys2Proof.Machine.execPartitionLdAdd road part value s
  | .partitionReassign road part value => Sys2Proof.Machine.execPartitionReassign road part value s
  | .partitionScrubDone part => Sys2Proof.Machine.execPartitionScrubDone part s
  | .declareFailed road value => Sys2Proof.Machine.execDeclareFailed road value s
  | .claimTilePoisoned claim => Sys2Proof.Machine.execClaimTilePoisoned claim s
  | .drainLimitExpired revoke => Sys2Proof.Machine.execDrainLimitExpired revoke s
  | .linkL0Reached port rate width mld flits256 tags14 => Sys2Proof.Machine.execLinkL0Reached port rate width mld flits256 tags14 s
  | .linkRetryTimer port => Sys2Proof.Machine.execLinkRetryTimer port s
  | .surpriseDown port => Sys2Proof.Machine.execSurpriseDown port s
  | .containmentCause port error => Sys2Proof.Machine.execContainmentCause port error s
  | .containmentRelease port => Sys2Proof.Machine.execContainmentRelease port s
  | .portQuiesce road value => Sys2Proof.Machine.execPortQuiesce road value s
  | .portQuiesceCancel road value => Sys2Proof.Machine.execPortQuiesceCancel road value s
  | .perstAssert port => Sys2Proof.Machine.execPerstAssert port s
  | .perstDeassert port => Sys2Proof.Machine.execPerstDeassert port s
  | .flrInitiate port ld => Sys2Proof.Machine.execFlrInitiate port ld s
  | .flrComplete port ld => Sys2Proof.Machine.execFlrComplete port ld s
  | .pf0Flr port => Sys2Proof.Machine.execPf0Flr port s
  | .busMasterDisable port ld d3hot => Sys2Proof.Machine.execBusMasterDisable port ld d3hot s
  | .busMasterEnable port ld d0 => Sys2Proof.Machine.execBusMasterEnable port ld d0 s
  | .hdmDecoderCommit port ld spid decoder base size skip control => Sys2Proof.Machine.execHdmDecoderCommit port ld spid decoder base size skip control s
  | .configRequest fn isWrite field value => Sys2Proof.Machine.execConfigRequest fn isWrite field value s
  | .registerWrite fn spid offset size access => Sys2Proof.Machine.execRegisterWrite fn spid offset size access s
  | .completionReceived port tag status poisoned bytes => Sys2Proof.Machine.execCompletionReceived port tag status poisoned bytes s
  | .completionTimeout port tag => Sys2Proof.Machine.execCompletionTimeout port tag s
  | .tagQuarantineEnd port tag => Sys2Proof.Machine.execTagQuarantineEnd port tag s
  | .msixUnmask port ld vector => Sys2Proof.Machine.execMsixUnmask port ld vector s
  | .ltrIntervalEnd port => Sys2Proof.Machine.execLtrIntervalEnd port s
  | .l1EntryIdleExpired port agreed => Sys2Proof.Machine.execL1EntryIdleExpired port agreed s
  | .identify req => Sys2Proof.Machine.execIdentify req s
  | .getSupportedLogs req => Sys2Proof.Machine.execGetSupportedLogs req s
  | .getLog req => Sys2Proof.Machine.execGetLog req s
  | .identifyMemoryDevice req => Sys2Proof.Machine.execIdentifyMemoryDevice req s
  | .getPartitionInfo req => Sys2Proof.Machine.execGetPartitionInfo req s
  | .getHealthInfo req => Sys2Proof.Machine.execGetHealthInfo req s
  | .getLdInfo road => Sys2Proof.Machine.execGetLdInfo road s
  | .getLdAllocations road => Sys2Proof.Machine.execGetLdAllocations road s
  | .doeDiscovery fn index => Sys2Proof.Machine.execDoeDiscovery fn index s
  | .doeTableAccess fn => Sys2Proof.Machine.execDoeTableAccess fn s
  | .doeAbort fn => Sys2Proof.Machine.execDoeAbort fn s
  | .getVersion at_ => Sys2Proof.Machine.execGetVersion at_ s
  | .getCapabilities at_ => Sys2Proof.Machine.execGetCapabilities at_ s
  | .negotiateAlgorithms at_ hss mlkem => Sys2Proof.Machine.execNegotiateAlgorithms at_ hss mlkem s
  | .getDigests at_ => Sys2Proof.Machine.execGetDigests at_ s
  | .getCertificate at_ slot offset length => Sys2Proof.Machine.execGetCertificate at_ slot offset length s
  | .challenge at_ slot nonce => Sys2Proof.Machine.execChallenge at_ slot nonce s
  | .getMeasurements at_ operation sign nonce => Sys2Proof.Machine.execGetMeasurements at_ operation sign nonce s
  | .keyExchange at_ reqSessionId key => Sys2Proof.Machine.execKeyExchange at_ reqSessionId key s
  | .finish session verify => Sys2Proof.Machine.execFinish session verify s
  | .heartbeat session => Sys2Proof.Machine.execHeartbeat session s
  | .keyUpdate session => Sys2Proof.Machine.execKeyUpdate session s
  | .endSession session => Sys2Proof.Machine.execEndSession session s
  | .ideKmQuery session port mem => Sys2Proof.Machine.execIdeKmQuery session port mem s
  | .keyProg session port mem rx set key => Sys2Proof.Machine.execKeyProg session port mem rx set key s
  | .kSetGo session port mem rx set => Sys2Proof.Machine.execKSetGo session port mem rx set s
  | .kSetStop session port mem rx set => Sys2Proof.Machine.execKSetStop session port mem rx set s
  | .getkey session port => Sys2Proof.Machine.execGetkey session port s
  | .counterRecordDurable => Sys2Proof.Machine.execCounterRecordDurable s
  | .treeOpenDone burned => Sys2Proof.Machine.execTreeOpenDone burned s
  | .signRateRefill => Sys2Proof.Machine.execSignRateRefill s
  | .svnCommit road secured value burned => Sys2Proof.Machine.execSvnCommit road secured value burned s
  | .debugChallenge => Sys2Proof.Machine.execDebugChallenge s
  | .debugToken road scope signature => Sys2Proof.Machine.execDebugToken road scope signature s
  | .debugClose road secured value => Sys2Proof.Machine.execDebugClose road secured value s
  | .calibrationDue item at_ => Sys2Proof.Machine.execCalibrationDue item at_ s
  | .refreshDue at_ bank doubled postpone => Sys2Proof.Machine.execRefreshDue at_ bank doubled postpone s
  | .dramRequest ctl port isWrite block sector => Sys2Proof.Machine.execDramRequest ctl port isWrite block sector s
  | .sectorReadReturn ref severe error => Sys2Proof.Machine.execSectorReadReturn ref severe error s
  | .starveLimitExpired ctl request => Sys2Proof.Machine.execStarveLimitExpired ctl request s
  | .parityAlert ctl => Sys2Proof.Machine.execParityAlert ctl s
  | .alertWaitExpired ctl => Sys2Proof.Machine.execAlertWaitExpired ctl s
  | .replayDone ctl => Sys2Proof.Machine.execReplayDone ctl s
  | .replayEpisodeEnd ctl => Sys2Proof.Machine.execReplayEpisodeEnd ctl s
  | .selfRefreshIdleExpired channel => Sys2Proof.Machine.execSelfRefreshIdleExpired channel s
  | .selfRefreshExitDone channel => Sys2Proof.Machine.execSelfRefreshExitDone channel s
  | .hbmPowerDownIdle stack pseudo => Sys2Proof.Machine.execHbmPowerDownIdle stack pseudo s
  | .scrubReserve road value => Sys2Proof.Machine.execScrubReserve road value s
  | .reserveScrubDone => Sys2Proof.Machine.execReserveScrubDone s
  | .nandOperationDone channel op superblock row chunk result => Sys2Proof.Machine.execNandOperationDone channel op superblock row chunk result s
  | .nandOperationTimeout channel => Sys2Proof.Machine.execNandOperationTimeout channel s
  | .rowCloseTimeout superblock => Sys2Proof.Machine.execRowCloseTimeout superblock s
  | .recordBatchExpired => Sys2Proof.Machine.execRecordBatchExpired s
  | .fcrDurable => Sys2Proof.Machine.execFcrDurable s
  | .checkpointDue => Sys2Proof.Machine.execCheckpointDue s
  | .underlayMountDone records => Sys2Proof.Machine.execUnderlayMountDone records s
  | .retentionAgeReached superblock => Sys2Proof.Machine.execRetentionAgeReached superblock s
  | .readLimitReached superblock => Sys2Proof.Machine.execReadLimitReached superblock s
  | .underlayFormat road value => Sys2Proof.Machine.execUnderlayFormat road value s
  | .budgetWindowRollover master => Sys2Proof.Machine.execBudgetWindowRollover master s
  | .guaranteeRecompute => Sys2Proof.Machine.execGuaranteeRecompute s
  | .powerOn straps => Sys2Proof.Machine.execPowerOn straps s
  | .powerOff => Sys2Proof.Machine.execPowerOff s
  | .grstAssert => Sys2Proof.Machine.execGrstAssert s
  | .grstDeassert straps => Sys2Proof.Machine.execGrstDeassert straps s
  | .restart road value => Sys2Proof.Machine.execRestart road value s
  | .oscDelayExpired => Sys2Proof.Machine.execOscDelayExpired s
  | .loscJudgementDone count1 count2 => Sys2Proof.Machine.execLoscJudgementDone count1 count2 s
  | .fusePhaseDone upsets => Sys2Proof.Machine.execFusePhaseDone upsets s
  | .imagePhaseDone => Sys2Proof.Machine.execImagePhaseDone s
  | .channelTrainTimeout channel => Sys2Proof.Machine.execChannelTrainTimeout channel s
  | .trainPhaseDone found => Sys2Proof.Machine.execTrainPhaseDone found s
  | .phaseBudgetExpired reason => Sys2Proof.Machine.execPhaseBudgetExpired reason s
  | .retryDelayExpired => Sys2Proof.Machine.execRetryDelayExpired s
  | .referenceSelectRclk road value => Sys2Proof.Machine.execReferenceSelectRclk road value s
  | .referenceSelectLosc road value => Sys2Proof.Machine.execReferenceSelectLosc road value s
  | .rclkCheckDone within ppm => Sys2Proof.Machine.execRclkCheckDone within ppm s
  | .rclkLost => Sys2Proof.Machine.execRclkLost s
  | .rclkHoldoffExpired => Sys2Proof.Machine.execRclkHoldoffExpired s
  | .loscLost => Sys2Proof.Machine.execLoscLost s
  | .frameClockEnable road value => Sys2Proof.Machine.execFrameClockEnable road value s
  | .memoryClockEnable road kind value => Sys2Proof.Machine.execMemoryClockEnable road kind value s
  | .gateClose kind block busy => Sys2Proof.Machine.execGateClose kind block busy s
  | .railFault rail => Sys2Proof.Machine.execRailFault rail s
  | .railRestored => Sys2Proof.Machine.execRailRestored s
  | .thermalSample temps dimmMax rails => Sys2Proof.Machine.execThermalSample temps dimmMax rails s
  | .sensorTimeout die sensor => Sys2Proof.Machine.execSensorTimeout die sensor s
  | .derateEndTimer => Sys2Proof.Machine.execDerateEndTimer s
  | .jtagInstruction ir => Sys2Proof.Machine.execJtagInstruction ir s
  | .read road tag index sub context offset length => Sys2Proof.Machine.execRead road tag index sub context offset length s
  | .write road secured tag index sub context bytes => Sys2Proof.Machine.execWrite road secured tag index sub context bytes s
  | .describe road tag index sub => Sys2Proof.Machine.execDescribe road tag index sub s
  | .xferOpen road tag index sub total => Sys2Proof.Machine.execXferOpen road tag index sub total s
  | .xferData road tag xfer offset bytes => Sys2Proof.Machine.execXferData road tag xfer offset bytes s
  | .xferCommit road tag xfer => Sys2Proof.Machine.execXferCommit road tag xfer s
  | .xferAbort road tag xfer => Sys2Proof.Machine.execXferAbort road tag xfer s
  | .persistProgramDone ok => Sys2Proof.Machine.execPersistProgramDone ok s
  | .snapshotLapse road => Sys2Proof.Machine.execSnapshotLapse road s
  | .transferIdleTimeout xfer => Sys2Proof.Machine.execTransferIdleTimeout xfer s
  | .imageSlotEraseDone slot => Sys2Proof.Machine.execImageSlotEraseDone slot s
  | .imageVerifyDone slot => Sys2Proof.Machine.execImageVerifyDone slot s
  | .eventSwap road value => Sys2Proof.Machine.execEventSwap road value s
  | .lmEnable road value => Sys2Proof.Machine.execLmEnable road value s
  | .lmSample => Sys2Proof.Machine.execLmSample s
  | .lmSwap road value => Sys2Proof.Machine.execLmSwap road value s
  | .lifetimeHourlyWrite => Sys2Proof.Machine.execLifetimeHourlyWrite s
  | .orderlyLinkDown port => Sys2Proof.Machine.execOrderlyLinkDown port s
  | .resetPulseIgnored => Sys2Proof.Machine.execResetPulseIgnored s
  | .catastrophicTemperatureAlarm stack => Sys2Proof.Machine.execCatastrophicTemperatureAlarm stack s
  | .correctableLinkError port error => Sys2Proof.Machine.execCorrectableLinkError port error s
  | .encodeDone job error => Sys2Proof.Machine.execEncodeDone job error s
  | .dynamicAddressAssignment address => Sys2Proof.Machine.execDynamicAddressAssignment address s

end Sys2Proof.Machine
end

