-- ==== Sys2Proof/Machine/Tick.lean ====
section
/-! DEFINITION. What a microsecond without a command does (DESIGN CHOICE, log entry 2): time passes, the DRAM controllers
serve their queues, and the counters of time advance. Every timer that ends is a command of its own. -/

namespace Sys2Proof.Machine

open Sys2Proof

/-- Time passes (R110, R286). -/
def advance (s : State) : State := s.setTime { s.time with us := s.time.us + 1, calUs := s.time.calUs + 1 }

/-- Frame-ns of a stall of a run's frame, by its cause (R262): of the run, of the device and of the partition. -/
def stallFor (r : Run) (c n : Nat) (s : State) : State :=
  if c == 0 || n == 0 then s
  else
    let s1 := countBy (0x3061 + c) (r.part + 1) n (countBy 0x3060 (0x10 + c) n s)
    match runOf s1 r.id with
    | some u => setRun { u with stallNs := u.stallNs + n } s1
    | none => s1

/-- The tier that holds the first extent of a run's program, as a late step-cache fill counts (R253).
(DESIGN CHOICE, log entry 94.) -/
def fillCause (s : State) (r : Run) : Nat :=
  let e := MapOps.getD r.program {} s.cmp.registry
  match devOf s e.part e.first with
  | some d => if (tdeOf s (tileKey d 0)).tier == .ridge then 1 else 2
  | none => 2

/-- The stall of 1 µs of a logical frame by its causes (R225, R253). Derating withholds its share of the µs from TE and VU steps. A frame
that nothing else stalls may wait for its step cache: for how long is a free value (DESIGN CHOICE, log entry 94). -/
def countStall (r : Run) (s : State) (q : Sequencer × Nat) : State :=
  let w := (stepAt s r q.2 q.1).getD 0
  let c := if awaitsFrame s q.1 || q.1.stalledSince.isSome then stallCause s r q.2 q.1 else 0
  let n := if c == 7 || ! hasRoom q.1 w then 0 else withheld s w
  let s1 := stallFor r 8 n s
  if c != 0 then stallFor r c (1000 - n) s1
  else if q.1.ended then s1
  else stallFor r (fillCause s r) (freeValue s1 % (1001 - n)) (used s1)

/-- The cycles of a µs that a frame loses to derating, rounded down (R225): COMPUTE runs at 1.30 GHz (R188). -/
def lostCycles (s : State) : Nat := 13 * (1000 - s.pkg.fc) / 10

/-- The stalls and the lost cycles of one run's frames. -/
def countRun (s : State) (r : Run) : State :=
  if ! r.granted then s
  else countBy 0x3050 3 (lostCycles s * r.seqs.length) (r.seqs.zipIdx.foldl (countStall r) s)

/-- The µs counters of regulation (R445): congested tiers, BACKGROUND over budget, held host requests and movers. -/
def countHeld (s : State) : State :=
  let s1 := s.regul.congested.foldl (fun u t => count 0x30C0 (t + 1) u) s
  let s2 := if heldMaster s backgroundMaster then count 0x30C0 5 s1 else s1
  let s3 := s.regul.held.foldl (fun u q => countBy 0x30C2 (q.1 + 1) 1000 u) s2
  (heldWork s).foldl (fun u q => countBy 0x30C3 (q.2 + 1) 1000 u) s3

/-- The µs counters of derating (R564). -/
def countDerate (s : State) : State :=
  let s1 := if slowed s.pkg then count 0x3100 2 s else s
  if s.pkg.fp < 1000 then count 0x3100 3 s1 else s1

/-- The partitions that are being scrubbed show how far it is (R324). -/
def scrubShares (s : State) : State := (List.range 64).foldl scrubShare s

/-- One µs without a command. -/
def tick (s : State) : State :=
  if s.start.stage == .off then s
  else leaving s (settle (countDerate (countHeld (s.cmp.runs.foldl countRun (judge (serveAll (upsets (scrubShares (expireAll (advance s))))))))))

end Sys2Proof.Machine
end

