-- ==== Sys2Proof/Safety.lean ====
section
/-! DEFINITION. What counts as a safe run of the block, and the terms in which the statements say that a command completes:
with which effect, and what the end of the command then does with it. -/

namespace Sys2Proof.Safety

open Sys2Proof Sys2Proof.Machine

/-- True of an outcome that goes on. -/
def goesOn (o : Host.Outcome State Fault Refusal) : Prop := ∃ t, o = .next t

/-- A run of n steps from s stops at no fault and no refusal. -/
def safeFor (n : Nat) (s : State) : Prop := goesOn (Host.Core.run core n s)

/-- The command answers a next state: its own effect is u, and the device then comes to rest. -/
def Rests (c : Instr) (s u : State) : Prop := exec c s = .next (leaving s (settle u))

/-- The command answers a next state: its own effect is u, on which nothing else waits. -/
def Ends (c : Instr) (s u : State) : Prop := exec c s = .next (leaving s u)

/-- The command answers a next state: its own effect, which may burn fuses, is u, and the device then comes to rest. -/
def Serves (c : Instr) (s u : State) : Prop := exec c s = .next ((settle u).setPending s.pending)

/-- The command answers a next state that takes the security engine, the flash's records, what goes out, logs, counters
and links from u and everything else from s. -/
def Secures (c : Instr) (s u : State) : Prop :=
  exec c s = .next { s with
    sec := u.sec, flash := u.flash, out := u.out, fresh := u.fresh, logs := u.logs, ctr := u.ctr, link := u.link }

/-- The command answers a next state that takes what goes out and the links' error registers from u and everything else from s. -/
def Answers (c : Instr) (s u : State) : Prop := exec c s = .next { s with out := u.out, link := u.link, fresh := u.fresh }

/-- The command answers a next state whose own effect is u, but for tile bytes, map entries, Underlay, flash, start, DRAM,
package and dictionary, which stay as in s. -/
def Steps (c : Instr) (s u : State) : Prop :=
  exec c s = .next { leaving s u with
    und := s.und, flash := s.flash, start := s.start, dram := s.dram, pkg := s.pkg, od := s.od
    tier := { u.tier with mem := s.tier.mem, poison := s.tier.poison, exts := s.tier.exts } }

/-- The state in which command id has been taken up. -/
def taken (id : Nat) (s : State) : State := modCmd id (fun q => { q with begun := true }) s

/-- Command id is in flight with this opcode and form, has not begun, is not held by FENCE, has not missed its deadline, and the session
or prefix that it names is still its sender's and held by no commit. -/
structure Ready (s : State) (id op : Nat) (form : Cmd → Bool) (c : Cmd) : Prop where
  inFlight : cmdOf s id = some c
  opcode : c.op = op
  shape : form c = true
  waits : c.begun = false
  free : fenced s c = false
  inTime : c.started = true ∨ ∀ e, c.expiry = some e → nowUs s ≤ e
  own : namedNow (taken id s) c = 0
  unheld : heldNow (taken id s) c = false


/-- Logical frame f of run r stands at a step w of a kind, and may take it: the run is running, the step's unit queue has
room, nothing it reads is still to arrive, and no budget holds it. -/
structure StepReady (s : State) (run f : Nat) (pick : Nat → Bool) (r : Run) (q : Sequencer) (w : Nat) : Prop where
  isRun : runOf s run = some r
  isSeq : seqOf r f = some q
  stands : stepAt s r f q = some w
  runs : running s r q = true
  kind : pick w = true
  free : q.wordWait = none
  within : regulated s r q w = false
  issues : mayIssue q w = true

/-- The state after the step at which q stands has issued with effect t and sequencer q1. -/
def stepped (run f : Nat) (r : Run) (q q1 : Sequencer) (t : State) : State :=
  checkEnd run (runAhead run f (stepIssued r f q.pc q1 t))

/-- The frame as the step at which q stands sees it, among the tray writes of the frame's other units (R214). -/
def seen (q : Sequencer) (w : Nat) (s : State) : Frame := seenFrame (rivals q w s) (frameOf s q.frame)

/-- The state after a step that its unit has done on the frame that it sees: what it writes settles among the writes of the other
units (R214), and the step stands in the unit's queue until it is complete. -/
def unitDone (run f : Nat) (r : Run) (q : Sequencer) (w : Nat) (d : UnitDone) (s : State) : State :=
  stepped run f r q (unitIssued q w (frameOf s q.frame)) (countWork q.frame r.part
    { d with frame := settleTray q w (rivals q w s) (frameOf s q.frame) d.frame } s)

/-- A message on a road is served now: the road is open and awaits no response. -/
structure RoadReady (s : State) (road : Road) : Prop where
  isOpen : roadOpen s road = true
  idle : roadBusy s road = false

/-- The state in which a message that is served now finds the device. -/
def arrived (road : Road) (s : State) : State := modWindow road (fun p => { p with winBusy := true }) s

/-- The effect of a message that is served now. -/
def messageDone (road : Road) (m : OdMsg) (s : State) : State := odRun road m (arrived road s)

/-- A road may write a value of its own size to object o, as index and subindex: the road is served, the object is present and
writable by it, and the value stands in its range. -/
structure MayWrite (s : State) (road : Road) (index sub size value : Nat) (o : OdObj) : Prop where
  ready : RoadReady s road
  hasRole : roleless (arrived road s) road = false
  here : present (arrived road s) index sub = .ok o
  allowed : writeAllowed (arrived road s) road false o index sub = 0
  sized : o.size = size ∧ size ≤ 1024 ∧ o.type ≠ 0x12
  fits : value < 256 ^ size
  inRange : valueStatus (arrived road s) o index sub value = 0

/-- A write is answered OK with effect t; it burns no fuse (R447). -/
def written (road : Road) (index sub : Nat) (s t : State) : State := (writeAnswer road 0 index sub 0 t).setFuses s.fuses

/-- A register write reaches an LD's BAR0: the LD is served and in no FLR, its port is not contained, and the requester may. -/
structure BarReady (s : State) (i spid : Nat) : Prop where
  isServed : ldServed s i = true
  noFlr : (ldOf s i).flr = false
  free : contained s (i / 16) = false
  mayWrite : barOpen s i spid = true

/-- A requester's BAR access reaches a function: an LD as above, and PF0 on a served port whose encryption takes it. -/
def barReaches (s : State) (f : Fn) (spid : Nat) : Prop :=
  match f with
  | .pf0 p => served s = true ∧ presented s f = true ∧ ideRefuses s p.val 0 = false
  | .ld p n => BarReady s (16 * p.val + n.val) spid

/-- The state in which a function's mailbox has answered a command: with a return code and a payload, which stand in its registers. -/
def mailboxSays (f : Fn) (op code : Nat) (payload : List Byte) (s : State) : State :=
  emit .mailbox [fnCode f, op, code] payload
    (s.setLink { s.link with mailboxes := MapOps.insert (fnCode f) { op := op, code := code, payload := payload } s.link.mailboxes })

/-- The fuses of f are all burned in g too, copy by copy. -/
def burnedIn (f g : Fuses) : Prop :=
  (∀ i b, (f.svn.getD i 0).getLsbD b = true → (g.svn.getD i 0).getLsbD b = true)
    ∧ (∀ i b, (f.trees.getD i 0).getLsbD b = true → (g.trees.getD i 0).getLsbD b = true)
    ∧ ∀ i, f.debugClose.getD i false = true → g.debugClose.getD i false = true

/-- Nothing waits in the device: no access, request, move, park, loss, poison that is due, wake, strip, command, run, exposure,
claim, share rewrite, pass, tag, signature, relocation or record of a replaced block, no scrubbed partition's registration, no
reserve is short, no superblock is to be collected, no latency report or data-access table is due, congestion is as it is judged,
and the reference stands. -/
structure Quiet (s : State) : Prop where
  notices : s.tier.notices = [] ∧ s.tier.lost = []
  deferred : s.tier.deferred = []
  held : s.tier.held = []
  moves : s.tier.moves = [] ∧ s.tier.parks = [] ∧ s.tier.unparks = [] ∧ s.tier.parkQueue = []
  sheets : (∀ q ∈ s.codec.banks, q.2.state ≠ 3) ∧ s.codec.strips = []
  admission : s.regul.held = [] ∧ (∀ r ∈ s.tier.moveQueue, r.admitted = true ∨ heldMaster s r.master = true)
    ∧ ∀ r ∈ s.tier.unparkQueue, r.admitted = true ∨ heldMaster s r.master = true
  congestion : judge s = s
  relocations : s.und.wants = [] ∧ ∀ p ∈ s.und.retiring, p.2 % 2 ≠ 0 ∨ (sbOf s (p.1 % 2 ^ 24)).valid ≠ 0
  collection : sbTotal s * 4 ≤ sbFree s * 100 ∨ gcVictim s = none
  sessions : s.sess.parks = [] ∧ s.sess.wakes = []
  commands : s.queue.cmds = [] ∧ s.cmp.runs = [] ∧ s.dram.scrubs = []
  exposures : s.share.expos = []
  shares : sharesIn s = []
  frames : ∀ q ∈ s.cmp.frames, q.2.owner = none
  registrations : ∀ p < 64, partState s p = 2 → s.cmp.registry.any (·.2.part == p) = false
  stacksUp : s.tier.ridgeDown = 0
  reserve : ∀ m ∈ s.tier.dirMds, reserveShort s m = false
  tags : ∀ p < 4, (portOf s p).tagWaits = []
  latency : ∀ p < 4, (portOf s p).ltrEnable = false ∧ (portOf s p).ltrDue = false ∧ (portOf s p).l1 = false
  tables : ∀ i ∈ cdatLds s, (ldOf s i).cdatLen = dsmas s i
  reference : s.start.refInUse ≠ 2 ∧ s.start.candidate = wantedCandidate s
  signer : s.sec.waits = []

/-- The messages of SPDM, link keys, the signer's rates and debug challenges. -/
def isSecurity : Instr → Bool
  | .getVersion _ | .getCapabilities _ | .negotiateAlgorithms _ _ _ | .getDigests _ | .getCertificate _ _ _ _ | .challenge _ _ _
  | .getMeasurements _ _ _ _ | .keyExchange _ _ _ | .finish _ _ | .heartbeat _ | .keyUpdate _ | .endSession _ | .ideKmQuery _ _ _
  | .keyProg _ _ _ _ _ _ | .kSetGo _ _ _ _ _ | .kSetStop _ _ _ _ _ | .getkey _ _ | .counterRecordDurable | .signRateRefill
  | .debugChallenge | .doeAbort _ => true
  | _ => false

/-- The requests that only read: mailbox, FM API and DOE. -/
def isRequest : Instr → Bool
  | .identify _ | .getSupportedLogs _ | .getLog _ | .identifyMemoryDevice _ | .getPartitionInfo _
  | .getHealthInfo _ | .getLdInfo _ | .getLdAllocations _ | .doeDiscovery _ _ | .doeTableAccess _ => true
  | _ => false

/-- The steps of a frame's own units and of its sequencer. -/
def isUnitStep : Instr → Bool
  | .nop _ _ | .runMultiply _ _ | .runAccumulate _ _ | .runDrain _ _ | .vecLoad _ _ | .vecStore _ _ | .vecAdd _ _ | .vecSub _ _
  | .vecMul _ _ | .vecFma _ _ | .vecMax _ _ | .vecMin _ _ | .vecAbs _ _ | .vecNeg _ _ | .vecCmplt _ _ | .vecSelect _ _
  | .vecIota _ _ | .vecRcp _ _ | .vecRsqrt _ _ | .vecSqrt _ _ | .vecExp2 _ _ | .vecExp _ _ | .vecLog2 _ _ | .vecTanh _ _
  | .vecSigmoid _ _ | .vecSin _ _ | .vecCos _ _ | .vecRsum _ _ | .vecRmax _ _ | .vecRmin _ _ | .vecAnd _ _ | .vecOr _ _
  | .vecXor _ _ | .waitToken _ _ | .signalAdd _ _ | .signalSet _ _ | .loop _ _ => true
  | _ => false

/-- The rows of a DRAM controller alone. -/
def isController : Instr → Bool
  | .calibrationDue _ _ | .refreshDue _ _ _ _ | .dramRequest _ _ _ _ _ | .starveLimitExpired _ _ | .parityAlert _
  | .replayEpisodeEnd _ | .selfRefreshIdleExpired _ | .selfRefreshExitDone _ | .hbmPowerDownIdle _ _ | .reserveScrubDone => true
  | _ => false

end Sys2Proof.Safety
end

