-- ==== Sys2Proof/Certificates/Slice0/Obligations.lean ====
section
/-! DEFINITION. The statements about the block. `Rests`, `Ends`, `Serves`, `Secures`, `Answers` and `Steps` (Sys2Proof/Safety.lean)
each say that exec answers a next state, and which. -/

open Sys2Proof Sys2Proof.Machine Sys2Proof.Safety

/-! ### How a step runs a command -/

/-- A step runs the command at the front of the queue on the state with the queue's rest (the block's own rule, log entry 2). -/
def Obligations.StepRunsFrontCommand : Prop :=
  ∀ (c : Instr) (rest : List Instr) (s : State), step (s.setPending (c :: rest)) = exec c (s.setPending rest)

/-- An empty queue lets one microsecond pass (the model's choice, log entry 2): no command and no fuse changes, and a device that
is off stays as it is. -/
def Obligations.IdleStepTicks : Prop :=
  ∀ s : State, s.pending = [] →
    step s = .next (tick s) ∧ (tick s).pending = [] ∧ (tick s).fuses = s.fuses ∧ (s.start.stage = .off → tick s = s)

/-! ### Commands of the rings take effect (Table 7-4, R274, R275, R286) -/

/-- HINT, MOVE, PARK, UNPARK and DROP by extent take effect once they are in flight and may start, a HINT after those fetched before it
that name an extent of its own (R56). -/
def Obligations.ExtentCommandsTakeEffect : Prop :=
  ∀ (s : State) (id : Nat) (c : Cmd),
    (Ready s id 2 (hintForm 1) c → hintBehind s id = false → Rests (.hintHot id) s (hintExts id c (taken id s)))
      ∧ (Ready s id 2 (hintForm 2) c → hintBehind s id = false → Rests (.hintWarm id) s (hintExts id c (taken id s)))
      ∧ (Ready s id 2 (hintForm 3) c → hintBehind s id = false → Rests (.hintCold id) s (hintExts id c (taken id s)))
      ∧ (Ready s id 2 (hintForm 4) c → hintBehind s id = false → Rests (.hintPark id) s (hintExts id c (taken id s)))
      ∧ (Ready s id 2 (hintForm 5) c → hintBehind s id = false → Rests (.hintDrop id) s (hintExts id c (taken id s)))
      ∧ (Ready s id 1 (fun _ => true) c → Rests (.move id) s (moveTiles id c (taken id s)))
      ∧ (Ready s id 3 extForm c → Rests (.park id) s (parkExts id c (taken id s)))
      ∧ (Ready s id 4 extForm c → Rests (.unpark id) s (unparkExts id c (taken id s)))
      ∧ (Ready s id 5 extForm c → Rests (.drop id) s (dropExts id c (taken id s)))

/-- The commands by session take effect once they are in flight and may start (R102, R109, R116, R123, R126, R129). -/
def Obligations.SessionCommandsTakeEffect : Prop :=
  ∀ (s : State) (id : Nat) (c : Cmd),
    (Ready s id 2 (sessHint 1) c → hintBehind s id = false → Rests (.sessionHintHot id) s (wakeHint id c .ridge (taken id s)))
      ∧ (Ready s id 2 (sessHint 2) c → hintBehind s id = false → Rests (.sessionHintWarm id) s (wakeHint id c .batten (taken id s)))
      ∧ (Ready s id 2 (sessHint 3) c → hintBehind s id = false → Rests (.sessionHintCold id) s (parkRequest id c 1 false (taken id s)))
      ∧ (Ready s id 2 (sessHint 4) c → hintBehind s id = false → Rests (.sessionHintPark id) s (parkRequest id c 2 false (taken id s)))
      ∧ (Ready s id 2 (sessHint 5) c → hintBehind s id = false → Rests (.sessionHintDrop id) s (parkRequest id c 3 false (taken id s)))
      ∧ (Ready s id 3 sessForm c → Rests (.parkBySession id) s (parkRequest id c (c.bits 154 153) true (taken id s)))
      ∧ (Ready s id 4 sessForm c → Rests (.unparkBySession id) s (unparkSession id c (taken id s)))
      ∧ (Ready s id 5 sessForm c → Rests (.dropBySession id) s (parkRequest id c 3 true (taken id s)))
      ∧ (Ready s id 0x10 (bindForm 0) c → Rests (.bind id) s (bindSession id c (taken id s)))
      ∧ (Ready s id 0x10 (bindForm 1) c → Rests (.update id) s (updateSession id c (taken id s)))
      ∧ (Ready s id 0x10 (bindForm 2) c → Rests (.query id) s (querySession id c (taken id s)))
      ∧ (Ready s id 0x10 (bindForm 3) c → Rests (.prefixForm id) s (prefixSession id c (taken id s)))
      ∧ (Ready s id 0x11 (fun q => ! bitAt q.desc 147) c → Rests (.sessionEnd id) s (endSessionCmd id c (taken id s)))
      ∧ (Ready s id 0x11 (fun q => bitAt q.desc 147) c → Rests (.sessionEndPrefix id) s (endPrefixCmd id c (taken id s)))

/-- FILL, COPY, COMPARE, each REDUCE, SQUEEGEE and TESTSTRIP begin once they are in flight and may start (R151, R288, R389). -/
def Obligations.NearMemoryCommandsTakeEffect : Prop :=
  ∀ (s : State) (id : Nat) (c : Cmd),
    (Ready s id 0x20 (fun _ => true) c → Rests (.fill id) s (nearBegin id c (taken id s)))
      ∧ (Ready s id 0x21 (fun _ => true) c → Rests (.copy id) s (nearBegin id c (taken id s)))
      ∧ (Ready s id 0x22 (fun _ => true) c → Rests (.compare id) s (nearBegin id c (taken id s)))
      ∧ (Ready s id 0x23 (reduceIs 0x01) c → Rests (.reduceSum id) s (nearBegin id c (taken id s)))
      ∧ (Ready s id 0x23 (reduceIs 0x05) c → Rests (.reduceMax id) s (nearBegin id c (taken id s)))
      ∧ (Ready s id 0x23 (reduceIs 0x06) c → Rests (.reduceMin id) s (nearBegin id c (taken id s)))
      ∧ (Ready s id 0x23 (reduceIs 0x30) c → Rests (.reduceAnd id) s (nearBegin id c (taken id s)))
      ∧ (Ready s id 0x23 (reduceIs 0x31) c → Rests (.reduceOr id) s (nearBegin id c (taken id s)))
      ∧ (Ready s id 0x23 (reduceIs 0x32) c → Rests (.reduceXor id) s (nearBegin id c (taken id s)))
      ∧ (Ready s id 0x24 (fun _ => true) c → Rests (.squeegee id) s (scrubBegin id c (taken id s)))
      ∧ (Ready s id 0x25 (fun _ => true) c → Rests (.teststrip id) s (stripStart id c (taken id s)))

/-- RUN, ATTEND, REBUILD, CLAIM, RELEASE, PUBLISH, each EXPOSE and KEYLOAD take effect once they are in flight and may start
(R120, R257, R258, R307 to R318, R474). -/
def Obligations.RunAndShareCommandsTakeEffect : Prop :=
  ∀ (s : State) (id : Nat) (c : Cmd),
    (Ready s id 0x14 (fun _ => true) c → Rests (.run id) s (runStart id c (taken id s)))
      ∧ (Ready s id 0x12 (fun _ => true) c → Rests (.attend id) s (attendStart id c (taken id s)))
      ∧ (Ready s id 0x13 (fun _ => true) c → Rests (.rebuild id) s (rebuildStart id c (taken id s)))
      ∧ (Ready s id 0x30 (fun _ => true) c → Rests (.claim id) s (claimStart id c (taken id s)))
      ∧ (Ready s id 0x31 (fun _ => true) c → Rests (.release id) s (releaseStart id c (taken id s)))
      ∧ (Ready s id 0x32 (fun _ => true) c → Rests (.publish id) s (publishStart id c (taken id s)))
      ∧ (Ready s id 0x33 (exposeIs 0) c → Rests (.exposeOpen id) s (exposeOpen id c (taken id s)))
      ∧ (Ready s id 0x33 (exposeIs 1) c → Rests (.exposeAdd id) s (exposeAdd id c (taken id s)))
      ∧ (Ready s id 0x33 (exposeIs 2) c → Rests (.exposeCommit id) s (exposeCommit id c (taken id s)))
      ∧ (Ready s id 0x33 (exposeIs 3) c → Rests (.exposeAbort id) s (exposeAbort id c (taken id s)))
      ∧ (Ready s id 0x40 (fun _ => true) c → Rests (.keyload id) s (keyload id c (taken id s)))

/-! ### Moves, parks, heat and accesses (chapters 1 to 3) -/

/-- MOVE_START starts the oldest request that may start, with fewer than 64 moves running (R44, Table 2-5); COPY_PASS_END,
FLIP_WINDOW_CLEAR and FLIP_WINDOW_TIMEOUT carry a running move on (R44, R45); FREE_PENDING_SLOT_RETURN frees a slot whose last
forwarded read has returned (R46). -/
def Obligations.MoveEngineCommandsTakeEffect : Prop :=
  (∀ (s : State) (md : Fin 8) (r : MoveReq), movesAt s md.val < 64 → s.tier.moveQueue.find? (moveMay s md.val) = some r →
    Rests (.moveStart md) s (startMove r (s.setTier { s.tier with moveQueue := s.tier.moveQueue.erase r })))
  ∧ (∀ (s : State) (ext : Nat) (tile : Fin 32) (m : Move), moveOf s (tileKey ext tile.val) = some m →
    (m.window = false → m.ready = false → coding s m.key false = false → moveUp s m = true → Rests (.copyPassEnd ext tile) s (passEnd m s))
      ∧ (m.window = true → moveUp s m = true → Rests (.flipWindowClear ext tile) s (windowClear m s))
      ∧ (m.window = true → moveUp s m = true → Rests (.flipWindowTimeout ext tile) s (windowDirty m (countMax 0x3020 6 2000 s))))
  ∧ ∀ (s : State) (batten : Bool) (md : Fin 8) (slot : Nat),
    MapOps.get? (slotKey (if batten then .batten else .ridge) md.val slot) s.tier.slots = some (.freePending 0) →
    Rests (.freePendingSlotReturn batten md slot) s (freeSlot (slotKey (if batten then .batten else .ridge) md.val slot) s)

/-- The time limits of held accesses: the stores gathered for a DAMAGED block are dropped (R43), a write that found no slot makes
its tile POISONED, be it a host's or the device's own (R64), a load that waited for a PARKED tile gets poison (R79), and such a
store is lost (R80). -/
def Obligations.HoldLimitCommandsTakeEffect : Prop :=
  (∀ (s : State) (ext : Nat) (tile : Fin 32) (block : Fin 16),
    Rests (.damagedHoldTimeout ext tile block) s
      (dropDamHeld (fun h => h.key == tileKey ext tile.val && h.sector / 64 == block.val) s))
  ∧ (∀ (s : State) (ext : Nat) (tile : Fin 32) (h : Held),
    s.tier.held.find? (fun q => q.key == tileKey ext tile.val && q.onSlot) = some h →
    Rests (.noSlotWaitTimeout ext tile) s
      (answerWrite h.req 1 (slotLate (tileKey ext tile.val) (s.setTier { s.tier with held := s.tier.held.erase h }))))
  ∧ (∀ (s : State) (ext : Nat) (tile : Fin 32) (w : SlotWait),
    (s.tier.held.any fun q => q.key == tileKey ext tile.val && q.onSlot) = false → slotWaitOf s (tileKey ext tile.val) = some w →
    Rests (.noSlotWaitTimeout ext tile) s (slotLate (tileKey ext tile.val) (endSlotWait w s)))
  ∧ (∀ (s : State) (ext : Nat) (tile : Fin 32) (tag : Nat) (h : Held),
    s.tier.held.find? (fun q => q.key == tileKey ext tile.val && q.onPark && q.store.isNone && q.req.tag == tag) = some h →
    Rests (.unparkLoadTimeout ext tile tag) s
      (poisonAnswer h (raise 0x0201 (some h.req.part) 0 (countFor 0x3022 h.req.part
        (s.setTier { s.tier with held := s.tier.held.erase h })))))
  ∧ ∀ (s : State) (ext : Nat) (tile : Fin 32) (tag : Nat) (h : Held),
    s.tier.held.find? (fun q => q.key == tileKey ext tile.val && q.onPark && q.store.isSome && ! q.lost && q.req.tag == tag) = some h →
    Rests (.unparkStoreTimeout ext tile tag) s (loseHeld h s)

/-- PARK_START begins the first park that may begin (R71), PARK_PASS_END and PARK_WINDOW_CLEAR carry it on (R72), and so does
FLIP_WINDOW_TIMEOUT where its window reaches 2 µs (R45). UNPARK_START begins an unpark of a park record that Underlay holds (R74,
R567), whose record it first has read where no MD keeps it (R405), and TILE_LANDED lands a tile that remains (R74). HEAT_HALVING
halves and ages (R61, R62), and a visit of a session or prefix follows its class (R105). -/
def Obligations.ParkEngineCommandsTakeEffect : Prop :=
  (∀ (s : State) (md : Fin 8) (r : ExtReq), underlayParks s = true → s.tier.parkQueue.find? (parkMay s md.val) = some r →
    extHeld s r.ext = false → progHolds s r.ext = false →
    Rests (.parkStart md) s (beginPark
      { r with waiters := (s.tier.parkQueue.filter (·.ext == r.ext)).flatMap (·.waiters)
               hint := if (s.tier.parkQueue.filter (·.ext == r.ext)).any (·.hint == 4) then 4 else 0 }
      (s.setTier { s.tier with parkQueue := s.tier.parkQueue.filter (·.ext != r.ext) })))
  ∧ (∀ (s : State) (ext : Nat) (p : Park), parkOf s ext = some p →
    (p.window = false → p.committing = false → (tilesOf ext).any (fun k => coding s k true) = false → parkUp s ext = true →
      Rests (.parkPassEnd ext) s (parkPassEnd p s))
    ∧ (p.window = true → p.committing = false → parkUp s ext = true → Rests (.parkWindowClear ext) s (parkWindowClear p s)
      ∧ ∀ tile : Fin 32, moveOf s (tileKey ext tile.val) = none →
        Rests (.flipWindowTimeout ext tile) s (parkDirty p (countMax 0x3020 6 2000 s))))
  ∧ (∀ (s : State) (md : Fin 8) (r : ExtReq) (n : Nat),
    unparksAt s md.val < 32 → s.tier.unparks.length < 256 → s.und.state ≠ 1 →
    s.tier.unparkQueue.find? (unparkMay s md.val) = some r → (entryOf s r.ext).link = n → noUnderlay s = false →
    imageOf s r.ext = some n →
      (eprCached s n = false → pageUnreadable s (2 * n) = false →
        Rests (.unparkStart md) s (s.setUnd { s.und with eprReads := setInsert n s.und.eprReads }))
      ∧ (eprCached s n = true → ∀ (r1 : ExtReq) (mine : List ExtReq) (g : Nat) (t : State),
        s.tier.unparkQueue.filter (·.ext == r.ext) = mine → (mine.drop 1).foldl mergeUnpark (mine.headD r) = r1 →
        allocGroup (s.setTier { s.tier with unparkQueue := s.tier.unparkQueue.filter (·.ext != r.ext) }) r.ext = some (g, t) →
        Rests (.unparkStart md) s (beginUnpark r1 mine n g t)))
  ∧ (∀ (s : State) (ext : Nat) (tile : Fin 32) (lost : Bool) (u : Unpark),
    s.tier.unparks.find? (fun q => q.req.ext == ext && q.remaining.contains (tileKey ext tile.val)) = some u →
    readNow s u (tileKey ext tile.val) = true → Rests (.tileLanded ext tile lost) s (tileLands u (tileKey ext tile.val) lost s))
  ∧ (∀ (s : State) (md : Fin 8), Rests (.heatHalving md) s (Sys2Proof.Machine.heatHalving md.val s))
  ∧ ∀ (s : State) (entry : Nat), isLit s = true →
    ((MapOps.get? entry s.sess.recs).isSome = true → Rests (.sessionScanVisit false entry) s (visitSession entry s))
      ∧ ((MapOps.get? entry s.sess.prefixes).isSome = true → Rests (.sessionScanVisit true entry) s (visitPfx entry s))

/-- A test strip's sampling, sketch and trial pass go on (R153 to R158), and the ends of encodes and decodes take effect (R165,
R166, R171). -/
def Obligations.CodecCommandsTakeEffect : Prop :=
  (∀ (s : State) (md : Fin 8) (t : Strip), stripBusy s md.val = false →
    s.codec.strips.find? (fun q => q.stage == 0 && q.slot % 8 == md.val) = some t →
    Rests (.teststripSampleStart md) s (setStrip { t with stage := 1 } s))
  ∧ (∀ (s : State) (slot : Fin 64), Rests (.teststripSketchDone slot) s (sketchDone slot.val s))
  ∧ (∀ (s : State) (slot : Fin 64), Rests (.teststripTrialDone slot) s (trialDone slot.val s))
  ∧ (∀ (s : State) (job : Nat) (error : List Byte) (j : DecodeJob) (isPark : Bool) (encoder : Nat) (raw : List Byte),
    s.codec.decodes.find? (·.id == job) = some j → j.use = .verify isPark encoder raw →
    j.stage = 2 → codecUp s j.md j.key = true →
    Rests (.decodeDone job error) s (verifyEnd j isPark encoder raw error s))
  ∧ (∀ (s : State) (job : Nat) (error : List Byte) (j : DecodeJob) (read : Nat) (r : FwdRead),
    s.codec.decodes.find? (·.id == job) = some j → j.use = .host read → s.tier.reads.find? (·.id == read) = some r →
    j.stage = 2 → codecUp s j.md j.key = true → Rests (.decodeDone job error) s (hostDecodeEnd j r error s))
  ∧ ∀ (s : State) (job : Nat) (error : List Byte) (j : EncodeJob),
    s.codec.encodes.find? (·.id == job) = some j → codecUp s j.md j.key = true →
    Rests (.encodeDone job error) s (encodeEnd j error s)

/-- In S4, on a port in L0 that serves its LDs, a CXL.mem read and a CXL.mem write that pass the checks of
R304 and that no budget holds reach the directory MD (R23, R358); a purlin frame that arrives intact is acknowledged and its
replay buffer emptied, and a link declared failed contains every port (R18), while the lanes are in use (R20). -/
def Obligations.AccessCommandsTakeEffect : Prop :=
  (∀ (s : State) (port : Fin 4) (ld : Fin 16) (spid tag hpa dpa p e : Nat),
    memServed s port.val = true → contained s port.val = false → ideRefuses s port.val 1 = false →
    requester s port.val ld.val spid true = some p → heldMaster s p = false →
    hpaToDpa s (16 * port.val + ld.val) hpa = some dpa → (ldOf s (16 * port.val + ld.val)).memEnable = true → dpa < 2 ^ 52 →
    s.tier.k ≠ 0 → devOf s p (dpa / 2097152) = some e →
    (canRead s p (dpa / 2097152) = true →
      Rests (.cxlMemRead port ld spid tag hpa) s (hostAccess
        { key := tileKey e (dpa / 65536 % 32), sector := dpa / 64 % 1024, req := ⟨port.val, ld.val, tag, p, dpa⟩
          store := none, onPark := false, onSlot := false } s))
      ∧ ∀ (enables : BitVec 64) (bytes : List Byte) (poison : Bool), canWrite s p (dpa / 2097152) = true →
        Rests (.cxlMemWrite port ld spid tag hpa enables bytes poison) s (hostAccess
          { key := tileKey e (dpa / 65536 % 32), sector := dpa / 64 % 1024, req := ⟨port.val, ld.val, tag, p, dpa⟩
            store := some (enables, bytes, poison), onPark := false, onSlot := false } s))
  ∧ (∀ (s : State) (bridge : Fin 16) (up : Bool) (bytes : List Byte) (crc : Nat), bridge.val ∉ s.link.failed → lanesUsed s = true → crc32 bytes = crc →
    (MapOps.getD (2 * bridge.val + ofBool up) {} s.link.purlins).replay = [] →
    Rests (.purlinFrame bridge up bytes crc) s
      (emit .purlinAck [bridge.val, ofBool up] [] (s.setLink { s.link with
        purlins := MapOps.put (2 * bridge.val + ofBool up) {}
          { replay := [], fails := 0, taken := (MapOps.getD (2 * bridge.val + ofBool up) {} s.link.purlins).taken + 1 }
          s.link.purlins })))
  ∧ ∀ (s : State) (bridge : Fin 16), bridge.val ∉ s.link.failed → lanesUsed s = true →
    Rests (.purlinLinkFailed bridge) s
      ((List.range 4).foldl (fun u p => contain p 5 (logPort p .uncorrectableInternal u))
        (raise 0x1001 none bridge.val (s.setLink { s.link with failed := setInsert bridge.val s.link.failed })))

/-! ### Steps of runs (chapters 5 and 6) -/

/-- A VEC operation that may issue is done by its unit and leads to a next state (R211, R212, R241). -/
def Obligations.VectorOperationsTakeEffect : Prop :=
  ∀ p ∈ ([(0x01, .vecAdd), (0x02, .vecSub), (0x03, .vecMul), (0x04, .vecFma), (0x05, .vecMax), (0x06, .vecMin), (0x07, .vecAbs),
      (0x08, .vecNeg), (0x09, .vecCmplt), (0x0A, .vecSelect), (0x0B, .vecIota), (0x10, .vecRcp), (0x11, .vecRsqrt),
      (0x12, .vecSqrt), (0x13, .vecExp2), (0x14, .vecExp), (0x15, .vecLog2), (0x16, .vecTanh), (0x17, .vecSigmoid),
      (0x18, .vecSin), (0x19, .vecCos), (0x20, .vecRsum), (0x21, .vecRmax), (0x22, .vecRmin), (0x30, .vecAnd),
      (0x31, .vecOr), (0x32, .vecXor)] : List (Nat × (Nat → Fin 36 → Instr))),
    ∀ (s : State) (run : Nat) (f : Fin 36) (r : Run) (q : Sequencer) (w : Nat),
      StepReady s run f.val (vecIs 1) r q w → field w 55 48 = p.1 →
      ∃ d, vecOp s w (seen q w s) = .works d ∧ Steps (p.2 run f) s (unitDone run f.val r q w d s)

/-- RUN steps and VEC loads and stores that may issue and that their unit does not turn away lead to a next state
(R199, R202, R211, R241). -/
def Obligations.UnitStepsTakeEffect : Prop :=
  ∀ (s : State) (run : Nat) (f : Fin 36) (r : Run) (q : Sequencer) (w : Nat) (d : UnitDone),
    (teWork s w (seen q w s) = .works d →
      (StepReady s run f.val (teIs 0) r q w → Steps (.runMultiply run f) s (unitDone run f.val r q w d s))
      ∧ (StepReady s run f.val (teIs 1) r q w → Steps (.runAccumulate run f) s (unitDone run f.val r q w d s))
      ∧ (StepReady s run f.val (teIs 2) r q w → Steps (.runDrain run f) s (unitDone run f.val r q w d s)))
    ∧ (StepReady s run f.val (vecIs 0) r q w → vecLoad s w (vecTray q w) (seen q w s) = .works d →
        Steps (.vecLoad run f) s (unitDone run f.val r q w d s))
    ∧ (StepReady s run f.val (vecIs 2) r q w → vecStore s w (vecTray q w) (seen q w s) = .works d →
        Steps (.vecStore run f) s (unitDone run f.val r q w d s))

/-- The steps that move data, hint, wait for words and end a stream take effect when they may issue (R243 to R249); a WAIT on a
word stands until the word is reached (R244). -/
def Obligations.DataStepsTakeEffect : Prop :=
  ∀ (s : State) (run : Nat) (f : Fin 36) (r : Run) (q q1 : Sequencer) (w : Nat) (t : State),
    (StepReady s run f.val (opIs 1) r q w → loadStep r q w s = .done q1 t → Rests (.loadTile run f) s (stepped run f.val r q q1 t))
    ∧ (StepReady s run f.val (opIs 2) r q w → storeStep r q w s = .done q1 t → Rests (.storeTile run f) s (stepped run f.val r q q1 t))
    ∧ (StepReady s run f.val (opIs 3) r q w → hintStep r q w s = .done q1 t → Rests (.moveHint run f) s (stepped run f.val r q q1 t))
    ∧ (StepReady s run f.val (opIs 0x40) r q w → remoteWriteStep r q w s = .done q1 t →
        Rests (.remoteWrite run f) s (stepped run f.val r q q1 t))
    ∧ (StepReady s run f.val (opIs 0x41) r q w → remoteReadStep r f.val q w s = .done q1 t →
        Rests (.remoteRead run f) s (stepped run f.val r q q1 t))
    ∧ (StepReady s run f.val (waitIs 1) r q w → deviceWait r q w s = .done q1 t →
        Rests (.waitDeviceWord run f) s (stallWord run f.val (stepped run f.val r q q1 t)))
    ∧ (StepReady s run f.val (waitIs 2) r q w → canMaster s (r.port * 16 + r.ld) = true →
        Rests (.waitRemoteWord run f) s (stallWord run f.val (stepped run f.val r q { q with wordWait := some (2, wordAddr r w) }
          (busRead (r.port * 16 + r.ld) r.part (.poll r.id f.val) (wordAddr r w) 4 s))))
    ∧ (runOf s run = some r → seqOf r f.val = some q → stepAt s r f.val q = some w → running s r q = true →
        regulated s r q w = false → polling s r f.val = false → q.wordWait = some (1, wordAddr r w) → deviceWait r q w s = .done q1 t →
        Rests (.waitPoll run f) s (checkEnd run (runAhead run f.val (setSeq run f.val
          { q1 with
            stalledSince := if q1.wordWait.isSome then some (q.stalledSince.getD (nowUs s)) else none, admitted := false } t))))
    ∧ (StepReady s run f.val (opIs 0x5F) r q w → Rests (.endStep run f) s (stepped run f.val r q { q with ended := true } s))

/-- NOP passes (R234); WAIT on a token passes when the token has reached its value, and SIGNAL adds to its token or sets it, once
the earlier steps of its frame have completed (R243); LOOP opens a loop or, with a count of 0, jumps past it (R246). -/
def Obligations.ControlStepsTakeEffect : Prop :=
  ∀ (s : State) (run : Nat) (f : Fin 36) (r : Run) (q : Sequencer) (w : Nat),
    (StepReady s run f.val (opIs 0) r q w → Steps (.nop run f) s (stepped run f.val r q (passed q) s))
    ∧ (StepReady s run f.val (waitIs 0) r q w → reached (tokenOf r (field w 39 34)) (waitValue q w) = true →
        Steps (.waitToken run f) s (stepped run f.val r q (passed q) s))
    ∧ (StepReady s run f.val (signalIs false) r q w → q.issued = [] →
        Steps (.signalAdd run f) s (stepped run f.val r q (passed q)
          (setToken r.id (field w 38 33) (tokenOf r (field w 38 33) + field w 95 64) s)))
    ∧ (StepReady s run f.val (signalIs true) r q w → q.issued = [] →
        Steps (.signalSet run f) s (stepped run f.val r q (passed q) (setToken r.id (field w 38 33) (field w 95 64) s)))
    ∧ (StepReady s run f.val (opIs 0x50) r q w → (bitAt w 34 = true → loopCount r w ≤ 16777215) →
        Steps (.loop run f) s (stepped run f.val r q (openLoop (loopCount r w) w q) s))

/-- The oldest issue of a step completes once its data has come and no earlier step of its unit is incomplete (R241, R242); each
issue of a LOAD-TILE that poison holds reads again (R247); a frame stalled for the run's limit stops its run (R254), a stopped run
ends with the status decided (R256), and an append whose bytes have come ends its ATTEND (R259). -/
def Obligations.RunEndsTakeEffect : Prop :=
  (∀ (s : State) (run : Nat) (f : Fin 36) (n : Nat) (r : Run) (q : Sequencer),
    runOf s run = some r → seqOf r f.val = some q →
    (∀ (t : State) (p : Sequencer × Issued),
      (q.issued.filter fun i => i.step == n && ! i.waiting.isEmpty && ! i.poisoned).foldl (fun u i => retryStep run f.val i u) s = t →
      (issuesOf t run f.val n).find? (fun p => workDone p.1 p.2) = some p →
      Rests (.stepCompleted run f n) s (completeStep run f.val p.2 t))
    ∧ Rests (.loadTilePoisonRetry run f n) s
      ((q.issued.filter fun i => i.step == n && ! i.waiting.isEmpty && i.poisoned).foldl (fun u i => retryStep run f.val i u) s))
  ∧ (∀ (s : State) (run : Nat) (f : Fin 36) (r : Run) (q : Sequencer) (since : Nat),
    runOf s run = some r → seqOf r f.val = some q → q.stalledSince = some since → since + r.stallLimitUs ≤ nowUs s →
    r.stopping = none → r.granted = true →
    ∀ c, (if stallCause s r f.val q ≠ 7 ∧ freeValue s % 1000 < withheld s ((stepAt s r f.val q).getD 0) then 8
        else stallCause s r f.val q) = c →
      Rests (.stallLimitExpired run f) s (stopRun run (if c == 4 then 0x20 else 0x23)
        (raise 0x0601 (some r.part) c (count 0x3060 3 (used s)))))
  ∧ (∀ (s : State) (run : Nat) (r : Run) (st : Nat), runOf s run = some r → r.stopping = some st →
    Rests (.runStopped run) s (endRun run st (lastStores run s)))
  ∧ ∀ (s : State) (run : Nat) (r : Run) (a append : Nat) (last : Bool) (b h : Nat) (t : State),
    runOf s run = some r → r.attend = some (a, append, last, b) → r.session = some h → r.appending = true → r.toCopy = 0 →
    r.copies ≠ [] → heldMaster s (64 + r.part) = false → appendStatus s r = 0 → appendPass r s = ([], t) → r.copyBad = false →
    (∀ c ∈ r.copies, c.2.2 = false) →
    Rests (.attendAppendDone run) s (closeRun { r with copies := [] } 0 (if last then
      setSessRec h { sessOf t h with kvTokens := (sessOf t h).kvTokens + append } t else t))

/-- RUN_GRANT grants the head of a partition's queue all its frames at once, in its turn (R239); FRAME_SWITCH_DONE gives the frame
to its new owner or takes it out of use (R222, R223); the digest of a registration that matches registers it (R229). -/
def Obligations.GrantAndRegistrationTakeEffect : Prop :=
  (∀ (s t : State) (part : Fin 64) (r : Run) (fs : List Nat),
    (s.cmp.runs.filter fun q => q.part == part.val && q.granted && q.stopping.isNone).foldl (fun u q => refillFrames q u) s = t →
    waitingHead t part.val = some r → (∀ e, r.expiry = some e → nowUs t ≤ e) → grantFor t r = some fs →
    (takesPool t part.val fs = true → turnOf t part.val = true) → Rests (.runGrant part) s (grantRun r fs t))
  ∧ (∀ (s : State) (frame : Fin 36) (dst : Option Nat), (frameOf s frame.val).switching = some dst →
    (∀ p, dst = some p → Rests (.frameSwitchDone frame true) s
      (countFor 0x3053 p (modFrame frame.val (fun x => { x with owner := some p, sinceUs := nowUs s, switching := none }) s)))
    ∧ (dst = none → Rests (.frameSwitchDone frame true) s
      (modFrame frame.val (fun x => { x with owner := none, sinceUs := nowUs s, switching := none }) s))
    ∧ ((frameOf s frame.val).run = none → Rests (.frameSwitchDone frame false) s (raise 0x0502 none 0 (count 0x3050 2
      (modFrame frame.val (fun x => { x with owner := none, outOfUse := true, switching := none, run := none }) s)))))
  ∧ ∀ (s t : State) (part : Fin 64) (j : RegJob) (bytes : List Byte) (m : Image) (n : Nat),
    s.cmp.regJobs.find? (·.part == part.val) = some j → j.reload = false → (j.admitted = true ∨ heldMaster s (64 + part.val) = false) →
    (j.kind = 0 → ∀ d ∈ devExts s part.val j.first j.extents, kindOf s d ≠ 2 ∧ kindOf s d ≠ 3) →
    regBytes part.val j.first j.extents j.length s = (some bytes, t) → bytes.length = j.length → sha256 bytes = j.digest →
    (if j.kind == 0 then parseImage t bytes else some ⟨3, 0, false, 0, []⟩) = some m →
    (if j.number == 0 then regFree t j.kind else some j.number) = some n →
    MapOps.get? (regKey j.kind n) t.cmp.registry = none →
    Rests (.registrationDigestDone part) s (setRegObj part.val 9 n (regEnds part.val 2 (t.setCmp { t.cmp with
      registry := MapOps.insert (regKey j.kind n)
        { state := 1, kind := m.kind, part := part.val, number := n, first := j.first, extents := j.extents
          length := j.length, locked := j.locked, at_ := calMs t, digest := j.digest, frames := m.frames, oneCd := m.oneCd
          stallLimit := m.stallLimit, streams := m.streams } t.cmp.registry })))

/-! ### Rings and their commands (chapter 7), and shares (chapter 8) -/

/-- ENABLE and DISABLE of a ring (R266, R270), stores to SQ_TAIL and CQ_HEAD that the indices allow (R267), and the end of a
gathering time (R284). -/
def Obligations.RingRegistersTakeEffect : Prop :=
  ∀ (s : State) (port : Fin 4) (ld : Fin 16) (spid : Nat) (ring : Fin 64), BarReady s (ldNo port ld) spid →
    (∀ p, ldPart s port.val ld.val = some p → (ringOf s (ldNo port ld * 64 + ring.val)).state = 0 →
      6 ≤ (ringOf s (ldNo port ld * 64 + ring.val)).sqLog2 → (ringOf s (ldNo port ld * 64 + ring.val)).sqLog2 ≤ 16 →
      6 ≤ (ringOf s (ldNo port ld * 64 + ring.val)).cqLog2 → (ringOf s (ldNo port ld * 64 + ring.val)).cqLog2 ≤ 16 →
      (ringOf s (ldNo port ld * 64 + ring.val)).irqMode ≤ 2 → (ringOf s (ldNo port ld * 64 + ring.val)).sqBase % 4096 = 0 →
      (∀ k < ((ringOf s (ldNo port ld * 64 + ring.val)).sqBase + 64 * 2 ^ (ringOf s (ldNo port ld * 64 + ring.val)).sqLog2
          + 2097151) / 2097152 - (ringOf s (ldNo port ld * 64 + ring.val)).sqBase / 2097152,
        canWrite s p ((ringOf s (ldNo port ld * 64 + ring.val)).sqBase / 2097152 + k) = true) → ringsEnabled s p < 64 →
      Rests (.ringEnable port ld spid ring) s (unparkAll (64 + p)
        (devExts s p ((ringOf s (ldNo port ld * 64 + ring.val)).sqBase / 2097152)
          (((ringOf s (ldNo port ld * 64 + ring.val)).sqBase + 64 * 2 ^ (ringOf s (ldNo port ld * 64 + ring.val)).sqLog2 + 2097151)
            / 2097152 - (ringOf s (ldNo port ld * 64 + ring.val)).sqBase / 2097152))
        (modRing (ldNo port ld * 64 + ring.val) (fun q => { q with
        sqHead := 0, cqTail := 0, cqHead := 0, sqTail := 0, state := 1, fault := 0, phase := true, disabling := false
        fetch := 0
        pinned := devExts s p ((ringOf s (ldNo port ld * 64 + ring.val)).sqBase / 2097152)
          (((ringOf s (ldNo port ld * 64 + ring.val)).sqBase + 64 * 2 ^ (ringOf s (ldNo port ld * 64 + ring.val)).sqLog2 + 2097151)
            / 2097152 - (ringOf s (ldNo port ld * 64 + ring.val)).sqBase / 2097152) }) s)))
    ∧ ((ringOf s (ldNo port ld * 64 + ring.val)).state ≠ 0 → Rests (.ringDisable port ld spid ring) s
      (disableCheck (ldNo port ld * 64 + ring.val) (modRing (ldNo port ld * 64 + ring.val) (fun q => { q with disabling := true }) s)))
    ∧ ∀ (stores : List (BitVec 16)) (v : Nat) (t : State),
      coalesced (ldNo port ld * 64 + ring.val) stores s = some (v, t) →
      (v < 2 ^ (ringOf t (ldNo port ld * 64 + ring.val)).sqLog2 → Rests (.sqTailDoorbell port ld spid ring stores) s
        (modRing (ldNo port ld * 64 + ring.val) (fun q => { q with sqTail := v }) t))
      ∧ ∀ r, ringOf t (ldNo port ld * 64 + ring.val) = r → v < 2 ^ r.cqLog2 →
        (v + 2 ^ r.cqLog2 - r.cqHead) % 2 ^ r.cqLog2 ≤ (r.cqTail + 2 ^ r.cqLog2 - r.cqHead) % 2 ^ r.cqLog2 →
        Rests (.cqHeadWrite port ld spid ring stores) s
          (modRing (ldNo port ld * 64 + ring.val) (fun q => { q with cqHead := v }) t)

/-- The next entry of the ring that is served is fetched and its command enters flight (R268, R269, R274); an expiry instant that
passes ends a command that has not started (R286); a gathering time ends with one message (R284); the rest of a near-memory
command and of a SQUEEGEE pass is done (R288, R391). -/
def Obligations.CommandFlowTakesEffect : Prop :=
  (∀ (s t t0 : State) (port : Fin 4) (ld : Fin 16) (ring : Fin 64) (part : Nat) (bytes : List Byte),
    ldPart s port.val ld.val = some part → mayFetch s (ldNo port ld) ring.val part = true →
    servedRing s = some (ldNo port ld * 64 + ring.val) → (ringOf s (ldNo port ld * 64 + ring.val)).fetch ≤ 1 →
    listSector [5, ldNo port ld * 64 + ring.val] part
      ((ringOf s (ldNo port ld * 64 + ring.val)).sqBase + 64 * (ringOf s (ldNo port ld * 64 + ring.val)).sqHead) s
      = (some (bytes, false), t0) →
    serveTurn (ldNo port ld * 64 + ring.val) 1 (forgetReads (· == [5, ldNo port ld * 64 + ring.val]) t0) = t →
    sessionFull t part (ofBytes bytes) = false → fetchStatus t part (ofBytes bytes) = 0 →
    Rests (.descriptorFetch port ld ring) s (readBlockOf t.queue.nextCmd (enterSession t.queue.nextCmd (ofBytes bytes)
      (newCmd (ldNo port ld) ring.val part (ofBytes bytes) t))))
  ∧ (∀ (s : State) (port : Fin 4) (ld : Fin 16) (ring : Fin 64),
    (ringOf s (ringId port.val ld.val ring.val)).gathering = true → ldFrozen s (ringId port.val ld.val ring.val / 64) = false →
    Rests (.irqGatheringEnd port ld ring) s (sendMsix (ringId port.val ld.val ring.val / 64)
      (ringOf s (ringId port.val ld.val ring.val)).vector
      (modRing (ringId port.val ld.val ring.val) (fun r => { r with gathering := false }) s)))
  ∧ ∀ (s : State) (id : Nat) (c : Cmd), cmdOf s id = some c →
    (∀ u, forget (.cmd id) (withdraw (.cmd id) s) = u → c.started = false → c.expiry.any (fun e => decide (e ≤ nowUs s)) = true →
      u.cmp.runs = [] → u.share.expos = [] → u.sess.parks = [] → u.sess.wakes = [] → u.sess.attendWaits = [] →
      Rests (.commandDeadlineExpired id) s (completeCmd id 0x24 0 0 u))
    ∧ (∀ d, c.begun = true → c.discard = false → 0x20 ≤ c.op → c.op ≤ 0x23 → cmdOf (nearRun id false s) id = some d →
      nearTotal d ≤ d.todo.headD 0 → Rests (.nearMemoryDone id) s (finishCmd id (nearRun id false s)))
    ∧ ∀ (p q : Scrub) (t : State), scrubOf s id = some p → p.failed = false → contained s (c.ring / 64 / 16) = false →
      scrubMay s p = true → scrubTo (p.first + p.length) (scrubFuel p) p s = (q, t) → canMaster t (c.ring / 64) = true →
      Rests (.squeegeePassDone id) s
        (completeCmd q.cmd 0 q.corrected q.uncorrectable (dropScrub q.cmd (writeSummary q c.ring (setScrub q t))))

/-- The rows of a commit go on (R311): a participant answers PREPARE, or is BUSY when it did not come to rest; answers that are
all READY reach the commit point; a commit that waits sends PREPARE again; a participant applies; an idle exposure aborts (R313). -/
def Obligations.CommitRowsTakeEffect : Prop :=
  ∀ (s : State) (expo : Fin 256) (e : Expo) (who : Participant), expoOf s expo.val = some e →
    (e.stage = 2 → e.waitsRow = false → e.answers.contains (who, 0) = true →
      (prepareAnswer s e who ≠ 2 ∨ e.refused.isSome = true → Rests (.prepare expo who) s (setExpo expo.val
        { e with answers := e.answers.map fun q => if q.1 == who then (who, prepareAnswer s e who) else q } s))
      ∧ (prepareAnswer s e who = 2 → e.refused = none → ∀ t, setExpo expo.val { e with refused := refusedRow s e who } s = t →
        Rests (.prepare expo who) s (setExpo expo.val { e with
          refused := refusedRow s e who, answers := e.answers.map fun q => if q.1 == who then (who, 2) else q } t))
      ∧ Rests (.participantQuietTimeout expo who) s (setExpo expo.val
        { e with answers := e.answers.map fun q => if q.1 == who then (who, 3) else q } s))
    ∧ (e.stage = 2 → e.waitsRow = false → e.answers ≠ [] → (∀ q ∈ e.answers, q.2 = 1) →
      Rests (.prepareAnswersIn expo) s (allReady expo.val e s))
    ∧ (e.stage = 4 → Rests (.commitRetryTimer expo) s (sendPrepare expo.val s))
    ∧ (e.stage = 3 → e.answers.any (fun q => q.1 == who) = true → who ∉ e.applied →
      e.answers.all (fun q => (e.applied ++ [who]).contains q.1) = false →
      Rests (.apply expo who) s (setExpo expo.val { e with applied := e.applied ++ [who] } (applyObjects expo.val e who s)))
    ∧ (e.stage = 3 → e.answers.any (fun q => q.1 == who) = true → who ∉ e.applied →
      Rests (.apply expo who) s (applyAt expo.val who s))
    ∧ (e.publish = false → e.stage ≤ 1 →
      Rests (.exposureIdleExpired expo) s (abortExpo expo.val 0x25 expo.val (raise 0x0801 (some e.part) 0 s)))

/-- A reassignment ends once its scrub may (R324), a dying claim loses its tiles one by one (R322), and a revoke's drain limit
passes (R323). -/
def Obligations.RevokeRowsTakeEffect : Prop :=
  (∀ (s : State) (part : Fin 64), scrubMayEnd s part.val = true → Rests (.partitionScrubDone part) s (scrubEnds part.val s))
  ∧ (∀ (s t : State) (claim : Nat) (c : Claim) (k : Nat) (rest : List Nat), MapOps.get? claim s.share.claims = some c →
    (c.dying = some [] → Rests (.claimTilePoisoned claim) s (releaseClaim claim s))
    ∧ (c.dying = some (k :: rest) → poisonClaimed c.part k s = (t, true) → rest ≠ [] → Rests (.claimTilePoisoned claim) s
      (t.setShare { t.share with claims := MapOps.insert claim { c with dying := some rest } t.share.claims })))
  ∧ ∀ (s : State) (revoke : Nat) (v : Revoke), MapOps.get? revoke s.share.revokes = some v →
    Rests (.drainLimitExpired revoke) s (drainEnds revoke s)

/-! ### Writes of the object dictionary that act (chapters 14 and 15) -/

/-- The rows that write a clock, partition, host, port, Underlay or log object act when the road may write that object
(R110, R297, R321, R324, R380, R407, R503, R545, R546, R568). -/
def Obligations.ActingWritesTakeEffect : Prop :=
  ∀ (s : State) (road : Road) (v : Nat) (o : OdObj) (u : State), arrived road s = u →
    (MayWrite s road 0x1200 1 8 v o → Serves (.calendarSecondsWrite road v) s (written road 0x1200 1 s (setCalendar v u)))
    ∧ (∀ p : Fin 64, MayWrite s road 0x2101 (p.val + 1) 16 v o →
        (partState u p.val = 0 → field v 1 0 = 1 → field v 127 64 ≠ 0 → maskFree u p.val (field v 127 64) = true →
          Serves (.partitionAssign road p v) s (written road 0x2101 (p.val + 1) s (bindLds p.val (field v 127 64) u)))
        ∧ (partState u p.val = 1 → field v 1 0 = 1 → field v 127 64 ≠ ldMask u p.val →
          field v 127 64 &&& ldMask u p.val = ldMask u p.val → maskFree u p.val (field v 127 64) = true →
          Serves (.partitionLdAdd road p v) s (written road 0x2101 (p.val + 1) s (bindLds p.val (field v 127 64) u)))
        ∧ (partState u p.val = 1 → field v 1 0 = 2 → field v 127 64 = ldMask u p.val →
          (∀ q ∈ sharesIn u, field q.2 6 1 ≠ p.val) →
          Serves (.partitionReassign road p v) s (written road 0x2101 (p.val + 1) s (reassign p.val u))))
    ∧ (MayWrite s road 0x2100 5 1 v o → Serves (.declareFailed road v) s (written road 0x2100 5 s (killLd v u)))
    ∧ (MayWrite s road 0x2900 0x0A 1 v o →
        (v < 4 → Serves (.portQuiesce road v) s (written road 0x2900 0x0A s (quiesce v u)))
        ∧ (0x80 ≤ v → v < 0x84 → Serves (.portQuiesceCancel road v) s (written road 0x2900 0x0A s (unquiesce (v - 0x80) u))))
    ∧ (MayWrite s road 0x2600 0x0D 1 v o → u.dram.reserveScrub ≠ 1 →
        Serves (.scrubReserve road v) s (written road 0x2600 0x0D s (u.setDram { u.dram with reserveScrub := 1 })))
    ∧ (MayWrite s road 0x2700 0x0B 4 0x464D5431 o → mayFormat u = true → u.und.state ≠ 0 →
        Serves (.underlayFormat road 0x464D5431) s (written road 0x2700 0x0B s (formatNow u)))
    ∧ (MayWrite s road 0x1800 0x0B 4 0x52535452 o → Serves (.restart road 0x52535452) s
        ((restartNow (writeAnswer road 0 0x1800 0x0B 0 u)).setFuses s.fuses))
    ∧ (MayWrite s road 0x2010 1 8 v o → Serves (.frameClockEnable road v) s (written road 0x2010 1 s (writeFrameEnable v u)))
    ∧ (∀ kind : Fin 3, MayWrite s road 0x2011 (kind.val + 1) (if kind.val == 2 then 1 else 2) v o →
        Serves (.memoryClockEnable road kind v) s (written road 0x2011 (kind.val + 1) s (writeMemEnable kind.val v u)))
    ∧ (MayWrite s road 0x3900 2 1 v o → Serves (.eventSwap road v) s (written road 0x3900 2 s (swapLog (roadPart u road) u)))
    ∧ (MayWrite s road 0x3800 5 1 v o → Serves (.lmSwap road v) s (written road 0x3800 5 s (swapMeter u)))

/-- The rows that write an object which keeps its value: it takes effect at once, and is programmed before the answer where it is
persisted (R61, R497, R530, R546). -/
def Obligations.KeptWritesTakeEffect : Prop :=
  ∀ (s : State) (road : Road) (v : Nat) (o : OdObj) (u : State), arrived road s = u →
    (MayWrite s road 0x2200 6 4 v o → o.access = 3 → scalar u 0x2200 6 o.dflt ≠ v →
      recordFits u { index := 0x2200, sub := 6, type := o.type, bytes := toBytes 4 v, seq := 0 } = true →
      Serves (.heatHalfLifeWrite road v) s ((persist road 2 0 0x2200 6 0 true
        { index := 0x2200, sub := 6, type := o.type, bytes := toBytes 4 v, seq := 0 } (setScalar 0x2200 6 v u)).setFuses s.fuses))
    ∧ (MayWrite s road 0x2000 1 1 v o → o.access = 3 → scalar u 0x2000 1 o.dflt ≠ v →
      recordFits u { index := 0x2000, sub := 1, type := o.type, bytes := toBytes 1 v, seq := 0 } = true →
      (v = 0 → Serves (.referenceSelectLosc road v) s ((persist road 2 0 0x2000 1 0 true
        { index := 0x2000, sub := 1, type := o.type, bytes := toBytes 1 v, seq := 0 }
        (fallback (setScalar 0x2000 1 v u))).setFuses s.fuses))
      ∧ (v ≠ 0 → Serves (.referenceSelectRclk road v) s ((persist road 2 0 0x2000 1 0 true
        { index := 0x2000, sub := 1, type := o.type, bytes := toBytes 1 v, seq := 0 }
        (pumpClock (setScalar 0x2000 1 v u))).setFuses s.fuses)))
    ∧ (MayWrite s road 0x3800 1 1 v o → o.access = 2 →
      Serves (.lmEnable road v) s (written road 0x3800 1 s (setScalar 0x3800 1 v u)))

/-- Writes of RegCommand register, unregister and reload (R229, R232). -/
def Obligations.RegistrationWritesTakeEffect : Prop :=
  ∀ (s : State) (road : Road) (ctx : Nat) (o : OdObj) (u : State) (p : Nat), arrived road s = u →
    (roadPart u road).getD ctx = p → p < 64 → regStatus u p ≠ 1 →
    (MayWrite s road 0x2A10 7 1 1 o → (regStart p u).cmp.regJobs.length = u.cmp.regJobs.length + 1 →
      Serves (.register road ctx) s (written road 0x2A10 7 s (regStart p u)))
    ∧ (∀ e, MayWrite s road 0x2A10 7 1 2 o → MapOps.get? (regKey (regObj u p 1 0) (regObj u p 2 0)) u.cmp.registry = some e →
      e.part = p → regInUse u p (regObj u p 1 0) (regObj u p 2 0) = false →
      Serves (.unregister road ctx) s (written road 0x2A10 7 s
        (setRegObj p 8 2 (regRemove (regKey (regObj u p 1 0) (regObj u p 2 0)) e u))))
    ∧ (∀ e, MayWrite s road 0x2A10 7 1 3 o → MapOps.get? (weightKey (regObj u p 2 0)) u.cmp.registry = some e →
      regObj u p 1 0 = 1 → e.part = p → e.state = 1 →
      Serves (.reload road ctx) s (written road 0x2A10 7 s (setRegObj p 8 2
        (ownerRows p (devExts u p e.first e.extents) false (u.setCmp { u.cmp with
          registry := MapOps.insert (weightKey (regObj u p 2 0)) { e with state := 2 } u.cmp.registry })))))

/-- The three messages that burn or unlock: SvnCommit and DebugClose in a secured session, and DebugToken (R454, R486, R488). -/
def Obligations.SecureWritesTakeEffect : Prop :=
  ∀ (s : State) (road : Road) (o : OdObj) (u : State), arrived road s = u → RoadReady s road → roleless u road = false →
    roadFm road = true →
    (∀ (v : Nat) (burned : Bool), roadPlace road ≠ none → roadSecured u road = true → isPresent u 0x2800 7 = true → v = u.sec.svn →
      Serves (.svnCommit road true v burned) s (writeAnswer road 0 0x2800 7 0 (burnSvn v burned u)))
    ∧ (roadPlace road ≠ none → roadSecured u road = true → present u 0x2800 0x0F = .ok o → o.access = 5 → o.type = 4 →
      o.size = 4 → o.lo = 0 → o.hi = 4294967295 →
      Serves (.debugClose road true 0x434C4F53) s (writeAnswer road 0 0x2800 0x0F 0 (burnDebug u)))
    ∧ ∀ (scope : Nat) (signature challenge : List Byte) (t : State), present u 0x6000 2 = .ok o →
      u.sec.challenge = some challenge → u.setSec { u.sec with challenge := none } = t →
      Serves (.debugToken road scope signature) s (
        if Config.hssVerify (authorityKey u) (toBytes 16 (deviceId u) ++ challenge ++ toBytes 4 scope) signature then
          written road 0x6000 2 s (unlockDebug t)
        else (writeAnswer road 0 0x6000 2 3 t).setFuses s.fuses)

/-- READ, WRITE and DESCRIBE of a present object (R525, R527, R569); a write ignores the reserved bits of its value (R2). -/
def Obligations.ObjectMessagesTakeEffect : Prop :=
  ∀ (s : State) (road : Road) (tag index sub ctx : Nat) (o : OdObj) (u : State), arrived road s = u →
    (∀ (offset length : Nat) (data : List Byte) (w t : State), RoadReady s road → roleless u road = false →
      (if offset == 0 then dropSnapshot road u else u) = w →
      present w index sub = .ok o → readObject road o index sub ctx offset length w = (0, data, t) →
      Serves (.read road tag index sub ctx offset length) s ((odRespond road 1 tag index sub 0 0 offset data t).setFuses s.fuses))
    ∧ (∀ (bytes : List Byte) (v : Nat), unreserved index sub (ofBytes bytes) = v →
      MayWrite s road index sub bytes.length v o → isDiag index sub = false →
      index * 256 + sub ≠ 0x18000B → index ≠ 0x2800 → writeAction (roadPart u road) index sub ctx v u = none →
      persisted o index sub = false →
      Serves (.write road false tag index sub ctx bytes) s ((writeAnswer road tag index sub 0
        (afterWrite index sub v (setScalar index sub v u))).setFuses s.fuses))
    ∧ (RoadReady s road → roleless u road = false → present u index sub = .ok o →
      Serves (.describe road tag index sub) s ((odRespond road 3 tag index sub 0 0 0
        (bytesOf [o.type, o.access, odFlags o index sub, 0] ++ toBytes 4 o.size ++ toBytes 2 (nextObject u index sub / 256)
          ++ bytesOf [nextObject u index sub % 256, 0, 0, 0]) u).setFuses s.fuses))

/-- The messages of block transfers (R531 to R534), and what ends them, a persisted write or a snapshot without a message. -/
def Obligations.TransferMessagesTakeEffect : Prop :=
  (∀ (s : State) (road : Road) (tag : Nat) (u : State), arrived road s = u → RoadReady s road → roleless u road = false →
    (∀ (index sub total : Nat) (o : OdObj), present u index sub = .ok o → openStatus u road o index total = 0 →
      (∀ x ∈ u.od.xfers, x.2.index ≠ index ∧ x.2.road ≠ road) → u.od.xfers.length < 4 →
      ∀ (id : Nat) (t : State), nthFree (0 :: u.od.xfers.map (·.1)) (freeValue u % (255 - u.od.xfers.length)) = id →
      putXfer id { road := road, index := index, total := total, version := (tableOf u index).version
                   rows := if (imageSlot index).isSome then [] else (tableOf u index).data
                   image := [], erasing := (imageSlot index).isSome, verifying := none } (used u) = t →
      Serves (.xferOpen road tag index sub total) s ((odRespond road 0x10 tag index sub 0 id 0 []
        (match imageSlot index with | some n => setSlotBytes n [] t | none => t)).setFuses s.fuses))
    ∧ ∀ (id : Nat) (x : Xfer), MapOps.get? id u.od.xfers = some x → x.road = road →
      (∀ (offset : Nat) (bytes : List Byte), bytes.length ≤ 1024 → imageSlot x.index = none → 32 ≤ offset →
        offset + bytes.length ≤ tableSize (tableOf u x.index) →
        Serves (.xferData road tag id offset bytes) s ((odRespond road 0x11 tag x.index 0 0 id offset []
          (putXfer id { x with rows := stageBytes (tableOf u x.index) (offset - 32) bytes x.rows } u)).setFuses s.fuses))
      ∧ (∀ t, imageSlot x.index = none → roadFm road = true → (tableOf u x.index).version = x.version →
        (tableOf u x.index).access ≠ 3 → replaceRows x (endXfer id u) = (0, t) →
        Serves (.xferCommit road tag id) s ((odRespond road 0x12 tag x.index 0 0 id 0 []
          (count 0x30F0 5 (raise 0x0F05 none (x.index + put (tableOf t x.index).version 32 16) t))).setFuses s.fuses))
      ∧ Serves (.xferAbort road tag id) s
          ((odRespond road 0x13 tag x.index 0 0 id 0 [] (count 0x30F0 6 (endXfer id u))).setFuses s.fuses))
  ∧ (∀ (s : State) (j : PersistJob) (rest : List PersistJob), s.od.persisting = j :: rest → j.answers = true →
    Serves (.persistProgramDone true) s (pumpWaits (odRespond j.road j.op j.tag j.index j.sub 0 j.xfer 0 []
      (putRec j.rec_ (s.setOd { s.od with persisting := rest }))))
    ∧ Serves (.persistProgramDone false) s (pumpWaits (odRespond j.road j.op j.tag j.index j.sub 8 j.xfer 0 []
      (raise 0x0F02 none (j.index + put j.sub 8 16) (s.setOd { s.od with persisting := rest })))))
  ∧ (∀ (s : State) (road : Road), Ends (.snapshotLapse road) s (dropSnapshot road s))
  ∧ (∀ (s : State) (id : Nat) (x : Xfer), MapOps.get? id s.od.xfers = some x → x.verifying = none →
    Ends (.transferIdleTimeout id) s (raise 0x0F04 none x.index (count 0x30F0 6 (endXfer id s))))
  ∧ (∀ (s : State) (slot : Fin 2), Serves (.imageSlotEraseDone slot) s (slotErased slot.val s))
  ∧ ∀ (s : State) (slot : Fin 2) (id tag : Nat) (x : Xfer),
    (s.od.xfers.find? fun q => imageSlot q.2.index == some slot.val && q.2.verifying.isSome) = some (id, x) →
    x.verifying = some tag → scalar (endXfer id s) 0x2800 6 0 = slot.val →
    Serves (.imageVerifyDone slot) s (pumpWaits (if verifyImage s x.image = 0 then
      odRespond x.road 0x12 tag x.index 0 0 id 0 [] (count 0x30F0 5 (endXfer id s))
      else odRespond x.road 0x12 tag x.index 0 3 id 0 [] (refuseSlot slot.val (verifyImage s x.image) (endXfer id s))))

/-! ### Links, containment and resets of functions (chapter 9) -/

/-- Links reach L0, leave it, are contained, quiesced and released (R330, R353, R355, R360, R568). -/
def Obligations.LinkRowsTakeEffect : Prop :=
  ∀ (s : State) (port : Fin 4),
    (∀ (rate width : Nat) (mld flits tags14 : Bool), s.start.stage = .lit → (portOf s port.val).perst = false →
      (portOf s port.val).up = false → 1 ≤ rate → rate ≤ 3 → (width = 8 ∨ width = 16) →
      Rests (.linkL0Reached port rate width mld flits tags14) s (reachL0 port.val rate width mld flits tags14 s))
    ∧ (∀ (rate width : Nat) (mld flits tags14 : Bool), portsRun s = true → (portOf s port.val).perst = false → (portOf s port.val).up = true →
      (portOf (leaveL0 port.val s) port.val).up = true → Rests (.linkL0Reached port rate width mld flits tags14) s
        (reachL0 port.val rate width (portOf s port.val).mld flits (portOf s port.val).tags14 (leaveL0 port.val s)))
    ∧ (portsRun s = true → (portOf s port.val).perst = false → (portOf s port.val).up = false →
      Rests (.linkRetryTimer port) s (emit .train [port.val] [] s))
    ∧ ((portOf s port.val).up = true → (portOf s port.val).mark = false →
      Rests (.surpriseDown port) s ((ldsAt port.val).foldl (fun u i => killLd i u)
        (contain port.val 1 (logPort port.val .surpriseDown (linkGone port.val s)))))
    ∧ (∀ error, causeOf error ≠ 0 → error ≠ .cxlRasUncorrectable →
      Rests (.containmentCause port error) s (contain port.val (causeOf error) (logPort port.val error s)))
    ∧ (served s = true → (portOf s port.val).cause ≠ 0 → (portOf s port.val).cause ≠ 5 → (portOf s port.val).up = true →
      Rests (.containmentRelease port) s (uncontain port.val s))
    ∧ ((portOf s port.val).up = true → (portOf s port.val).mark = true → Rests (.orderlyLinkDown port) s
      (modPort port.val (fun p => { p with mark := false }) (linkGone port.val s)))
    ∧ (∀ error, errIndex error < 5 → Rests (.correctableLinkError port error) s
      (logPort port.val error (modPort port.val (fun p => { p with flitErrors := p.flitErrors + 1 }) s)))
    ∧ ((portOf s port.val).perst = false → Rests (.perstAssert port) s (perstFalls port.val s))
    ∧ ((portOf s port.val).perst = true → portsRun s = true → Rests (.perstDeassert port) s
      (emit .train [port.val] [] (modPort port.val (fun p => { p with perst := false }) s)))
    ∧ (served s = true → (portOf s port.val).up = true → Rests (.pf0Flr port) s (pf0Reset port.val s))

/-- Resets, mastering, decoders, interrupts and registers of a logical device take effect (R333, R338, R341, R349, R350, R509); a read
of a register completes with its value, and a poisoned write is logged and dropped (R338, R360). -/
def Obligations.DeviceFunctionRowsTakeEffect : Prop :=
  ∀ (s : State) (port : Fin 4) (ld : Fin 16) (i : Nat), ldNo port ld = i →
    (ldServed s i = true → (ldOf s i).flr = false →
      Rests (.flrInitiate port ld) s (flrBegin i s)
      ∧ Rests (.busMasterDisable port ld false) s (stopMastering i 0x30 (modLd i (fun l => { l with bme := false }) s))
      ∧ Rests (.busMasterDisable port ld true) s (stopMastering i 0x30 (modLd i (fun l => { l with d3 := true }) s))
      ∧ Rests (.busMasterEnable port ld false) s (liftFreeze i (modLd i (fun l => { l with bme := true }) s))
      ∧ Rests (.busMasterEnable port ld true) s (liftFreeze i (modLd i (fun l => { l with d3 := false }) s)))
    ∧ (∀ spid : Nat, BarReady s i spid →
      (∀ (n : Fin 4) (base size skip : Nat) (control : DecoderControl),
        Rests (.hdmDecoderCommit port ld spid n base size skip control) s (commitDecoder i n.val control base size skip s))
      ∧ ∀ v : Fin 2048, Rests (.msixUnmask port ⟨ld, spid⟩ v) s (writeMsix i v.val 3 0 s))
    ∧ (∀ (fn : Fn) (spid offset value : Nat), barReaches s fn spid → offset % 4 = 0 →
      Serves (.registerWrite fn spid offset 4 (.write value false)) s (writeWord fn offset (value % 2 ^ 32) s)
      ∧ Serves (.registerWrite fn spid offset 4 .read) s
        (emit .ioCompletion [fnCode fn, 0, readWord s fn offset] [] s)
      ∧ Serves (.registerWrite fn spid offset 4 (.write value true)) s (logFn true fn .poisonedRequest s))
    ∧ ((ldOf s i).flr = true → (∀ r ∈ s.cmp.runs, r.port * 16 + r.ld = i → r.appending = true) →
      Rests (.flrComplete port ld) s (flrEnds i s))
    ∧ (∀ (fn : Fn) (field : CfgField) (value : Nat), served s = true → presented s fn = true →
      (∀ p n, fn = .ld p n → (ldOf s (16 * p.val + n.val)).flr = false) →
      Rests (.configRequest fn false field value) s (emit .cfgCompletion [fnCode fn, 0, cfgRead s fn field] [] s))

/-- A completion lands what was asked and frees its tag when it is the last (R346); a request times out and its tag is quarantined
until the quarantine ends (R348); an LTR message and an L1 request go out (R343, R344). -/
def Obligations.MasteredRequestRowsTakeEffect : Prop :=
  ∀ (s : State) (port : Fin 4),
    (∀ (tag : Nat) (g : Tag), MapOps.get? tag (portOf s port.val).tags = some g →
      (g.quarantined = false → (portOf s port.val).up = true →
        (∀ bytes : List Byte, bytes.length = g.remaining → Rests (.completionReceived port tag .success false bytes) s
          (landPiece g.use bytes false (modPort port.val (fun p => { p with tags := MapOps.erase tag p.tags }) s)))
        ∧ ∀ (st : CplStatus) (bad : Bool) (bytes : List Byte), st ≠ .success →
          Rests (.completionReceived port tag st bad bytes) s
            (remoteFails g.use 0x46 (modPort port.val (fun p => { p with tags := MapOps.erase tag p.tags }) s)))
      ∧ (g.quarantined = false → Rests (.completionTimeout port tag) s
          (remoteFails g.use 0x46 (countFor 0x3093 g.part (count 0x3090 1 (logLd (16 * port.val + g.ld) .completionTimeout
            (modPort port.val (fun p => { p with tags := MapOps.insert tag { g with quarantined := true } p.tags }) s))))))
      ∧ (g.quarantined = true → Rests (.tagQuarantineEnd port tag) s
          (modPort port.val (fun p => { p with tags := MapOps.erase tag p.tags }) s)))
    ∧ Rests (.ltrIntervalEnd port) s (ltrUpdate port.val (modPort port.val (fun p => { p with ltrWait := false }) s))
    ∧ ((portOf s port.val).l1Enable = true → (portOf s port.val).up = true → (portOf s port.val).l1 = false →
      2 ≤ ltrState s port.val → Rests (.l1EntryIdleExpired port true) s
        (emit .l1Request [port.val] [] (modPort port.val (fun q => { q with l1 := true, l1At := s.out.length }) s)))

/-- Mailbox, FM API and DOE requests are answered, those of a logical device on PF0's mailbox with Unsupported (R305, R336, R337,
R339). -/
def Obligations.ManagementRequestsAreAnswered : Prop :=
  ∀ s : State,
    (∀ (fn : Fn) (spid : Nat), barReaches s fn spid →
      Answers (.identify ⟨fn, spid⟩) s (mailboxSays fn 0x0001 0 (slice s.sec.version 0 32 0) s)
      ∧ Answers (.getSupportedLogs ⟨fn, spid⟩) s (mailboxSays fn 0x0400 0 (toBytes 4 Config.commandEffectsLog.length) s)
      ∧ Answers (.getLog ⟨fn, spid⟩) s (mailboxSays fn 0x0401 0 Config.commandEffectsLog s))
    ∧ (∀ (p : Fin 4) (n : Fin 16) (spid : Nat), barReaches s (.ld p n) spid →
      Answers (.identifyMemoryDevice ⟨.ld p n, spid⟩) s (mailboxSays (.ld p n) 0x4000 0
        (toBytes 8 (dsmas s (16 * p.val + n.val)) ++ toBytes 8 (dsmas s (16 * p.val + n.val)) ++ toBytes 8 0) s)
      ∧ Answers (.getPartitionInfo ⟨.ld p n, spid⟩) s (mailboxSays (.ld p n) 0x4100 0
        (toBytes 8 (dsmas s (16 * p.val + n.val))) s)
      ∧ Answers (.getHealthInfo ⟨.ld p n, spid⟩) s (mailboxSays (.ld p n) 0x4200 0
        (toBytes 1 (ofBool (unhealthy s (16 * p.val + n.val)))) s))
    ∧ (∀ (p : Fin 4) (spid : Nat), barReaches s (.pf0 p) spid →
      Answers (.identifyMemoryDevice ⟨.pf0 p, spid⟩) s (mailboxSays (.pf0 p) 0x4000 0x15 [] s)
      ∧ Answers (.getPartitionInfo ⟨.pf0 p, spid⟩) s (mailboxSays (.pf0 p) 0x4100 0x15 [] s)
      ∧ Answers (.getHealthInfo ⟨.pf0 p, spid⟩) s (mailboxSays (.pf0 p) 0x4200 0x15 [] s))
    ∧ (∀ road : Road, roadOpen s road = true → fmPorts road ≠ [] →
      Answers (.getLdInfo road) s (emit .fmApi [roadCode road, 0x5400] (ldCapacities s (fmPorts road)) s)
      ∧ Answers (.getLdAllocations road) s (emit .fmApi [roadCode road, 0x5401] (ldCapacities s (fmPorts road)) s))
    ∧ ∀ fn : Fn, doeOpen s fn = true →
      (∀ index : Nat, Answers (.doeDiscovery fn index) s (emit .doe [fnCode fn, 0] (toBytes 4 (doeEntry index)) s))
      ∧ Answers (.doeTableAccess fn) s (emit .doe ([fnCode fn, 2] ++ cdatOf s fn) [] s)
      ∧ Secures (.doeAbort fn) s (doeAborts fn s)

/-! ### Security messages (chapter 13) -/

/-- SPDM requests outside a session are answered in their order (R463, R464, R466, R468), signed ones through the signer (R461, R465). -/
def Obligations.SpdmRequestsAreAnswered : Prop :=
  ∀ (s : State) (a : SpdmAt) (r : Responder), spdmOpen s a = true → responderOf s a = r →
    Secures (.getVersion a) s (spdmTold a 0x04 [0x84] (toBytes 2 0x1300) (modResponder a (fun _ => { version := true }) s))
    ∧ (r.version = true → Secures (.getCapabilities a) s
      (spdmTold a 0x61 [0xE1] (toBytes 4 spdmFlags ++ Config.standardAnswer 1) (modResponder a (fun q => { q with capabilities := true }) s)))
    ∧ (r.capabilities = true → ∀ (hss mlkem : Bool) (chosen : List Byte),
      toBytes 4 1 ++ toBytes 4 2 ++ toBytes 2 2 ++ toBytes 2 1 ++ (if hss then extAlgorithm 0x9041 else [])
        ++ (if mlkem then extAlgorithm 0x9042 else []) = chosen →
      Secures (.negotiateAlgorithms a hss mlkem) s (spdmTold a 0x63 ([0xE3] ++ chosen) chosen
        (modResponder a (fun q => { q with algorithms := true, hss := hss, mlkem := mlkem }) s)))
    ∧ (r.algorithms = true → Secures (.getDigests a) s
      (spdmTold a 0x01 [0x81] (if chainOk s then [1] ++ sha256 s.flash.chain else [0]) s))
    ∧ (r.algorithms = true → ∀ (offset length : Nat) (part : List Byte), offset < s.flash.chain.length →
      (s.flash.chain.drop offset).take (min length (messageRoom a - 8)) = part →
      Secures (.getCertificate a 0 offset length) s (if chainOk s then
        spdmTold a 0x02 ([0x82] ++ toBytes 2 offset ++ toBytes 2 length)
          ([0] ++ toBytes 2 part.length ++ toBytes 2 (s.flash.chain.length - offset - part.length) ++ part) s
        else spdmError a 0x01 0 s))
    ∧ (r.hss = true → ∀ nonce : List Byte, Secures (.challenge a 0 nonce) s (askSign
      { at_ := a, kind := 0x03, message := [0] ++ nonce ++ (if chainOk s then sha256 s.flash.chain else zeros 32), exchange := none } s))
    ∧ (r.algorithms = true → ∀ (operation : Nat) (nonce bs : List Byte), measurementRecord s a operation = some bs →
      (4 + bs.length ≤ messageRoom a → Secures (.getMeasurements a operation false nonce) s (spdmSay a 0x60 0 0 bs s))
      ∧ (r.hss = true → 4 + bs.length + nonce.length ≤ messageRoom a → Secures (.getMeasurements a operation true nonce) s
        (askSign { at_ := a, kind := 0x60, message := bs ++ nonce, exchange := none } s)))
    ∧ (r.hss = true → r.mlkem = true → placeBound s a = true → sessionsAt s a < 2 → sessionsAll s < 64 →
      ∀ (half : Nat) (key text : List Byte), key.length = 1568 → Config.mlkemCiphertext key s.sec.draws = text →
      Secures (.keyExchange a half key) s (if Config.mlkemKeyOk key then
        askSign { at_ := a, kind := 0x64, message := text, exchange := some (half,
          Config.mlkemSecret key s.sec.draws ++ sha256 (r.transcript ++ toBytes 2 half ++ key ++ text)) }
          (s.setSec { s.sec with draws := s.sec.draws + 1 })
        else spdmError a 0x01 0 s))

/-- Messages of a secured session take effect where the session stands (R463, R467), and the key messages of a link in a session on
PF0 of its port (R470). -/
def Obligations.SessionMessagesTakeEffect : Prop :=
  ∀ (s : State) (id : Nat) (x : SecSession), secSession s id = some x → spdmOpen s x.at_ = true →
    (∀ verify : List Byte, x.established = false →
      Secures (.finish id verify) s (if Config.finishOk x.secret verify then spdmSay x.at_ 0x65 0 id [] (count 0x30D0 3
        (s.setSec { s.sec with sessions := MapOps.insert id { x with established := true } s.sec.sessions }))
        else spdmError x.at_ 0x06 id (dropSession id s)))
    ∧ (x.established = true →
      Secures (.heartbeat id) s (spdmSay x.at_ 0x68 0 id [] s)
      ∧ Secures (.keyUpdate id) s (spdmSay x.at_ 0x69 0 id []
        (s.setSec { s.sec with sessions := MapOps.insert id { x with keyGen := x.keyGen + 1, seq := 0 } s.sec.sessions }))
      ∧ Secures (.endSession id) s (spdmSay x.at_ 0x6C 0 id [] (dropSession id s))
      ∧ ∀ port : Fin 4, onPf0 x port.val = true →
        (∀ mem : Bool, Secures (.ideKmQuery id port mem) s
          (ideSay x 0x01 0 (Config.standardAnswer (if mem then 3 else 2)) s))
        ∧ (∀ (mem rx : Bool) (key : List Byte), (portOf s port.val).up = true → key.length = 32 →
          Secures (.keyProg id port mem rx 0 key) s (ideSay x 0x03 0 []
            (setIde (ideKey port.val mem rx) { ideOf s (ideKey port.val mem rx) with key0 := some key } s))
          ∧ Secures (.keyProg id port mem rx 1 key) s (ideSay x 0x03 0 []
            (setIde (ideKey port.val mem rx) { ideOf s (ideKey port.val mem rx) with key1 := some key } s)))
        ∧ (∀ (mem rx : Bool) (set : Fin 2),
          ((set = 0 → (ideOf s (ideKey port.val mem rx)).key0.isSome = true) ∧
            (set = 1 → (ideOf s (ideKey port.val mem rx)).key1.isSome = true) →
            Secures (.kSetGo id port mem rx set) s (ideSay x 0x06 0 []
              (setIde (ideKey port.val mem rx) { ideOf s (ideKey port.val mem rx) with active := some set.val } s)))
          ∧ ((ideOf s (ideKey port.val mem rx)).active = some set.val →
            Secures (.kSetStop id port mem rx set) s (ideSay x 0x06 0 []
              (setIde (ideKey port.val mem rx) { ideOf s (ideKey port.val mem rx) with active := none } s))))
        ∧ Secures (.getkey id port) s (ideSay x 0x08 0 (Config.entropy s.sec.draws)
            (s.setSec { s.sec with draws := s.sec.draws + 1 })))

/-- The signer's own rows take effect (R459 to R461), and a debug challenge is drawn while debug is not closed (R486). -/
def Obligations.SignerRowsTakeEffect : Prop :=
  ∀ s : State,
    (s.sec.reserving = true → Secures .counterRecordDurable s (signAll (putCounter (s.sec.tree.getD 0) (min (s.sec.q + 256) leaves)
      (s.setSec { s.sec with reserving := false, reservedTo := min (s.sec.q + 256) leaves }))))
    ∧ Secures .signRateRefill s (signAll (s.setSec { s.sec with allowance := min 64 (s.sec.allowance + 1) }))
    ∧ (∀ (t : Nat) (u : State), s.sec.opening = some t → s.setFuses { s.fuses with
        trees := burnBelow s.fuses.trees true (fun i => Config.freeAt s.fresh i) t (t + 1) } = u →
      exec (.treeOpenDone true) s = .next ((lowCheck (signAll (raise 0x0D03 none t (putCounter t 0
        (u.setSec { u.sec with tree := some t, opening := none, q := 0, reservedTo := 0 }))))).setPending s.pending))
    ∧ (debugBurned s = false → Secures .debugChallenge s
      (s.setSec { s.sec with challenge := some (Config.entropy s.sec.draws), draws := s.sec.draws + 1 }))

/-! ### DRAM controllers, Underlay and bandwidth (chapters 10 to 12) -/

/-- The controllers' rows take effect (R371 to R379, R381, R392). -/
def Obligations.ControllerRowsTakeEffect : Prop :=
  ∀ (s : State) (ctl : Ctl) (n : Nat), ctlNo ctl = n →
    (ctlUp s n = true →
      (∀ (rank bank : Nat) (doubled postpone : Bool),
        Ends (.refreshDue ⟨ctl, rank⟩ bank doubled postpone) s (refresh n rank bank doubled postpone s))
      ∧ (∀ (port : DramPort) (isWrite : Bool) (block : Nat) (sector : Fin 64), queueRoom (ctlOf s n) n isWrite = true →
        64 * block + sector.val < ctlSectors s n →
        Ends (.dramRequest ctl port isWrite block sector) s (judge (dramRequest n port isWrite (64 * block + sector.val) s)))
      ∧ ((ctlOf s n).alert = false →
        Ends (.parityAlert ctl) s (count 0x30A0 5 (modCtl n (fun c => { c with alert := true }) s)))
      ∧ ((ctlOf s n).alert = true → (ctlOf s n).episode < 7 →
        Rests (.alertWaitExpired ctl) s
          (count 0x30A0 6 (modCtl n (fun c => { c with alert := true, episode := c.episode + 1 }) s))
        ∧ Rests (.replayDone ctl) s
          (count 0x30A0 6 (modCtl n (fun c => { c with
            alert := false, episode := c.episode + 1, openRows := reissued c
            retry := c.retry.map (reissue s n (ctlOf s n)) }) s)))
      ∧ ∀ (item : CalItem) (place : Nat), itemOf s item n place = true → (ctlOf s n).selfRefresh = false →
        Ends (.calibrationDue item ⟨ctl, place⟩) s (runItem n s (item, place)))
    ∧ ((ctlOf s n).alert = false → Ends (.replayEpisodeEnd ctl) s (modCtl n (fun c => { c with episode := 0 }) s))
    ∧ (∀ request : Nat, Ends (.starveLimitExpired ctl request) s (starve n request s))

/-- Self-refresh and power-down (R378, R379), the returns of reads (R381) and the reserve scrub (R392) take effect. -/
def Obligations.MemoryIdleAndReadRowsTakeEffect : Prop :=
  ∀ s : State,
    (∀ (channel : Fin 16) (c : DramCtl), ctlOf s channel.val = c →
      (ctlUp s channel.val = true → scalar s 0x2600 4 200 ≠ 0 → c.queue = [] → c.calDue = [] → c.selfRefresh = false →
        c.alert = false → Ends (.selfRefreshIdleExpired channel) s
          (count 0x30A0 9 (modCtl channel.val (fun x => { x with selfRefresh := true, openRows := [] }) s)))
      ∧ (c.selfRefresh = true → c.queue ≠ [] → Ends (.selfRefreshExitDone channel) s
        (modCtl channel.val (fun x => { x with selfRefresh := false, calDue := [] }) (c.calDue.foldl (runItem channel.val) s))))
    ∧ (∀ (stack : Fin 8) (pseudo : Fin 32), ctlUp s (16 + stack.val) = true →
      (∀ r ∈ (ctlOf s (16 + stack.val)).queue, r.place ≠ pseudo.val) → Ends (.hbmPowerDownIdle stack pseudo) s
        (modCtl (16 + stack.val) (fun x => { x with powerDown := setInsert pseudo.val x.powerDown }) s))
    ∧ (∀ (id : Nat) (r : FwdRead) (severe : Bool) (error : List Byte), s.tier.reads.find? (·.id == id) = some r →
      (s.codec.decodes.any fun j => j.use == .host id) = false → ctlUp s (ctlAt s r.tier r.md r.slot r.sector) = true →
      Rests (.sectorReadReturn (.host id) severe error) s (hostReadReturn r severe error s))
    ∧ (∀ (cmd dpa : Nat) (severe : Bool) (error : List Byte),
      Rests (.sectorReadReturn (.scrub cmd dpa) severe error) s (scrubRead cmd dpa severe error s))
    ∧ (∀ (md : Fin 8) (batten : Bool) (n : Nat) (severe : Bool) (error : List Byte),
      Rests (.sectorReadReturn (.reserve md batten n) severe error) s (reserveRead md.val batten n severe error s))
    ∧ (∀ (key : Nat) (sector : Fin 1024) (severe : Bool) (error : List Byte),
      isHome (tdeOf s key).tier = true →
      ctlUp s (ctlAt s (tdeOf s key).tier (tdeOf s key).homeMd (tdeOf s key).homeSlot sector.val) = true →
      Rests (.sectorReadReturn (.device key sector) severe error) s
        (readSlot (tdeOf s key).tier (tdeOf s key).homeMd (tdeOf s key).homeSlot sector.val severe error s).2.2)
    ∧ ∀ (ridge batten : Nat) (u : State), ((List.range 8).map fun md => if stackInUse s md then ridgeSectors else 0).sum = ridge →
      ((List.range 8).map (battenSectors s)).sum = batten →
      charge backgroundMaster 0 ridge (charge backgroundMaster 1 batten s) = u → s.dram.reserveScrub = 1 →
      (s.dram.reserveGo = true ∨ heldMaster s backgroundMaster = false) →
      Ends .reserveScrubDone s (raise 0x0A07 none 0 (countBy 0x30A0 0x0B (ridge + batten)
        (u.setDram { u.dram with reserveScrub := 2, reserveGo := false })))

/-- Underlay's rows take effect (R402, R408, R410, R412, R419 to R423, R427), and bandwidth's (R434, R440). -/
def Obligations.UnderlayAndBudgetRowsTakeEffect : Prop :=
  ∀ s : State,
    (∀ (channel : Fin 16), MapOps.getD channel.val 0 s.und.channels = 1 →
      Rests (.nandOperationTimeout channel) s (channelOffline channel.val s)
      ∧ (s.start.stage ≠ .train → underlayUp s = true →
        (∀ (sb row j : Nat) (result : NandResult), (sbOf s sb).use ≠ 0 → rowPage s row < s.und.pages →
          (sb ≠ sbTotal s → chunkChannel s sb row j = channel.val → j < rowChunks (sbOf s sb) →
            Rests (.nandOperationDone channel .read sb row j result) s (readDone channel.val sb row j result s))
          ∧ (sb ≠ sbTotal s → chunkChannel s sb row j ≠ channel.val → parityChannel s sb row = channel.val →
            Rests (.nandOperationDone channel .read sb row j result) s (parityRead channel.val sb row j result s))
          ∧ Rests (.nandOperationDone channel .program sb row j result) s (programDone channel.val sb row result s)
          ∧ ((sbOf s sb).use = 2 → (sbOf s sb).valid = 0 →
            Rests (.nandOperationDone channel .erase sb row j result) s (eraseDone channel.val sb row result s)))
        ∧ ∀ (page j : Nat) (result : NandResult),
          Rests (.nandOperationDone channel .read (sbTotal s) page j result) s (systemRead channel.val page result s)))
    ∧ (∀ (channel : Fin 16) (sb page j : Nat) (result : NandResult), s.start.stage = .train → s.und.state = 1 →
      Rests (.nandOperationDone channel .read sb page j result) s (systemRead channel.val page result s))
    ∧ (∀ sb : Nat,
      ((sbOf s sb).use = 1 → Ends (.rowCloseTimeout sb) s
        (takeChunks sb (ceilDiv (sbOf s sb).nextChunk (rowChunks (sbOf s sb)) * rowChunks (sbOf s sb)) 0 s))
      ∧ ((sbOf s sb).use ≠ 0 → underlayUp s = true →
        (∀ t, (sbOf s sb).firstProgram = some t → t + ageLimit s (sbOf s sb) * 86400000 ≤ retention s →
          Rests (.retentionAgeReached sb) s (relocateDue sb s))
        ∧ ((∃ p ∈ (sbOf s sb).reads, Config.flashReadLimit (flashPolicy s) ≤ p.2) →
          Rests (.readLimitReached sb) s (relocateDue sb s))))
    ∧ (∀ (page : List LogRec) (u : State), s.und.programming = [] → s.und.forming ≠ [] → underlayUp s = true →
      pageOf s false 16384 s.und.forming = page → page.foldl takePages s = u →
      Ends .recordBatchExpired s (u.setUnd { u.und with
        programming := page.zipIdx.map fun q => numberRecord (s.und.seq + 1 + q.2) q.1, forming := s.und.forming.drop page.length }))
    ∧ (∀ u : State, s.und.programming ≠ [] →
      s.und.programming.foldl (fun v f => applyFcr f v) (programmed 2 (s.setUnd { s.und with programming := [] })) = u →
      Rests .fcrDurable s (gcCheck (if 65536 ≤ u.und.sinceCheckpoint then checkpointNow u else u)))
    ∧ (underlayUp s = true → (∀ r ∈ s.und.forming ++ s.und.programming, ∀ q, r.body ≠ .checkpoint q) →
      Ends .checkpointDue s (formRecord (.checkpoint s.und.seq) s))
    ∧ (s.start.stage = .train → s.und.mount = none →
      Ends (.underlayMountDone none) s (raise 0x0B04 none 0 (s.setUnd { s.und with mount := some false, state := 5 }))
      ∧ ∀ (n : Nat) (t : FlashTables), s.und.formatted = true → replayLog (s.und.log.take n) s.und.saved = t →
        Ends (.underlayMountDone (some n)) s (s.setUnd { s.und with
          mount := some true, eprs := t.eprs, replaced := t.replaced, store := t.store, seq := t.seq, log := s.und.log.take n
          superblocks := s.und.superblocks.map fun p =>
            (p.1, { p.2 with valid := validIn t.eprs p.1, erases := MapOps.getD p.1 p.2.erases t.erases })
          sheetAt := s.und.sheetAt.filter fun p => (MapOps.get? p.1 t.store).isSome
          logClock := t.clock, h := max s.und.h t.clock, clock := max s.und.clock t.clock }))
    ∧ (∀ m : Fin 131, Rests (.budgetWindowRollover m) s (windowEnds m.val s))
    ∧ (isLit s = true → Ends .guaranteeRecompute s (recompute s))

/-! ### Start, clocks, heat and the instruments (chapters 14 to 16) -/

/-- Resets, rails and the phases of a start take effect (R494, R506 to R513, R551, R556). -/
def Obligations.StartRowsTakeEffect : Prop :=
  ∀ s : State,
    (∀ straps : BitVec 3,
      (s.start.stage = .off → Ends (.powerOn straps) s (Sys2Proof.Machine.powerOn straps s))
      ∧ (s.pkg.grst = true → s.start.stage = .held → s.pkg.railsBad = [] → Ends (.grstDeassert straps) s
        (beginS1 1 (modStart (fun b => { b with strap := straps }) (s.setPkg { s.pkg with grst := false })))))
    ∧ Ends .powerOff s (modStart (fun b => { b with stage := .off, phase := 0 }) (resetAll s))
    ∧ (s.start.stage ≠ .off → s.start.stage ≠ .tripped →
      Ends .grstAssert s (holdReset (s.setPkg { s.pkg with grst := true })))
    ∧ (s.start.stage = .oscDelay → Ends .oscDelayExpired s (modStart (fun b => { b with stage := .judging }) s))
    ∧ (∀ a b : Nat, s.start.stage = .judging → loscGood a b = true →
      Ends (.loscJudgementDone a b) s (modStart (fun t => { t with stage := .fuses, losc := true }) s))
    ∧ (∀ upsets : List FuseUpset, s.start.stage = .fuses → storedScalar s 0x1800 5 0 ≤ s.start.failures →
      Ends (.fusePhaseDone upsets) s (
        if ∃ u ∈ upsets, u.wrong ≠ 0 ∧ u.wrong ≠ 7 then startFails 5 (modStart (fun b => { b with upsets := upsets }) s)
        else trainPorts (flushOwed (modStart (fun b => { b with upsets := upsets, stage := .image, phase := 2, refInUse := 1
                                                                failures := max b.failures (storedScalar s 0x1800 5 0) }) s))))
    ∧ (∀ first : Nat, s.start.stage = .image → storedScalar s 0x2800 6 0 % 2 = first → Ends .imagePhaseDone s (
      if verifyImage s (slotBytes s first) = 0 then imageLoaded first s
      else if verifyImage s (slotBytes s (1 - first)) = 0 then
        imageLoaded (1 - first) (raise 0x0D02 none 0 (refuseSlot first (verifyImage s (slotBytes s first)) s))
      else startFails (verifyImage s (slotBytes s first))
        (refuseSlot (1 - first) (verifyImage s (slotBytes s (1 - first)))
          (refuseSlot first (verifyImage s (slotBytes s first)) s))))
    ∧ (∀ channel : Fin 16, s.start.stage = .train → (ctlOf s channel.val).state ≠ 2 → Ends (.channelTrainTimeout channel) s
      (raise 0x0A01 none channel.val (modCtl channel.val (fun c => { c with state := 2 }) s)))
    ∧ (∀ f : Population, s.start.stage = .train → mountOver f s = true → (∀ t ∈ s.pkg.temps.take 16, t < 1050) →
      Rests (.trainPhaseDone f) s (lightUp (placeFrames (recompute (settleClocks (settleFrames f (reloadSheets (rebuildMap
        (settleDirectory f (settleUnderlay f (settleDram f s)))))))))))
    ∧ (∀ reason : Nat, s.start.stage = .train → 6 ≤ reason → reason ≤ 9 →
      Ends (.phaseBudgetExpired reason) s (startFails reason s))
    ∧ (s.start.stage = .retry → s.pkg.railsBad = [] → Ends .retryDelayExpired s (beginS1 3 s))
    ∧ (s.start.stage ≠ .off → Ends .resetPulseIgnored s (count 0x3100 4 s))
    ∧ (∀ rail : Fin 11, rail ≠ 0 → inS0 s = false → Ends (.railFault rail) s (count 0x3100 5
      (modStart (fun b => { b with owed := b.owed ++ [(0x1004, rail.val)] })
        (holdReset (s.setPkg { s.pkg with railsBad := setInsert rail.val s.pkg.railsBad })))))
    ∧ (s.start.stage = .held → s.pkg.grst = false → s.pkg.railsBad ≠ [] → Ends .railRestored s
      (countBy 0x3100 5 (counter s 0x3100 5) (beginS1 s.start.cause (s.setPkg { s.pkg with railsBad := [] }))))

/-- Reference clocks and gates take effect (R496 to R498, R503, R504). -/
def Obligations.ClockRowsTakeEffect : Prop :=
  ∀ s : State,
    (∀ (p : Nat) (ppm : Int), s.start.candidate = some p → ppm.natAbs ≤ 40000 → Rests (.rclkCheckDone true ppm) s
      (raise 0x0E03 none p (count 0x30E0 1 (modStart (fun b => { b with
        refInUse := 2, rclkPort := some p, rclkPpm := ppm, candidate := none }) s))))
    ∧ (s.start.refInUse = 2 → s.start.losc = true → Rests .rclkLost s
      (raise 0x0E04 none 0 (count 0x30E0 2 (modStart (fun b => { b with
        refInUse := 1, rclkPort := none, rclkPpm := 0, holdoff := true, candidate := none }) s))))
    ∧ Rests .rclkHoldoffExpired s (modStart (fun b => { b with holdoff := false }) s)
    ∧ (s.start.stage = .lit → s.start.refInUse = 2 → s.start.losc = true → Rests .loscLost s
      (raise 0x0E05 none 0 (count 0x30E0 3 (modStart (fun b => { b with losc := false }) s))))
    ∧ (∀ block busy : Nat, block < 16 → s.start.ddrEnable.getLsbD block = false → block ∉ s.start.gatesClosed →
      Ends (.gateClose 1 block busy) s
        (gateClosed block busy (modStart (fun t => { t with gatesClosed := setInsert block t.gatesClosed }) s)))
    ∧ (∀ (block busy : Nat) (f : Frame), block < 36 → s.start.frameEnable.getLsbD block = false →
      s.start.frameOpen.getLsbD block = true → frameOf s block = f → f.run = none → f.switching = none →
      Ends (.gateClose 0 block busy) s (gateClosed block busy (modFrame block
        (fun _ => { reservedFor := f.reservedFor, sinceUs := nowUs s, outOfUse := f.outOfUse, epoch := f.epoch })
        (modStart (fun t => { t with frameOpen := t.frameOpen &&& ~~~ (BitVec.ofNat 36 (2 ^ block)) }) s))))

/-- Sensors, the thermal trip, JTAG, the light meter, the hourly write and the I3C address take effect (R519, R542, R546, R558 to
R563). -/
def Obligations.InstrumentRowsTakeEffect : Prop :=
  ∀ s : State,
    (∀ (temps : List Int) (dimm : Int) (rails : List Nat) (u : State), isLit s = true →
      countBands (s.setPkg { s.pkg with temps := temps.take 24, dimm := dimm, rails := rails.take 11 }) = u →
      (dieAbove u 1150 = none → isLit u = true → Ends (.thermalSample temps dimm rails) s (computeFractions u))
      ∧ ∀ d, dieAbove u 1150 = some d → Ends (.thermalSample temps dimm rails) s (tripNow d u))
    ∧ (∀ (die : Fin 24) (sensor : Nat), isLit s = true → sensor < sensorsOf die.val →
      die.val * 16 + sensor ∉ s.pkg.sensorsFailed → Ends (.sensorTimeout die sensor) s (raise 0x1006 none (die.val + 256 * sensor)
        (s.setPkg { s.pkg with sensorsFailed := setInsert (die.val * 16 + sensor) s.pkg.sensorsFailed })))
    ∧ (s.pkg.derating = true → slowed s.pkg = false → Ends .derateEndTimer s
      (raise 0x1003 none 0 (emit .alert [1] [] (setIntAll 3 (s.setPkg { s.pkg with derating := false, alert := false })))))
    ∧ (∀ stack : Fin 8, inS0 s = false → Ends (.catastrophicTemperatureAlarm stack) s (tripNow (16 + stack.val) s))
    ∧ (s.start.stage ≠ .off → 1 ∉ s.pkg.railsBad →
      Ends (.jtagInstruction .idcode) s (emit .tdo [idcode] [] (s.setPkg { s.pkg with jtag := .idcode }))
      ∧ Ends (.jtagInstruction .bypass) s (emit .tdo [0] [] (s.setPkg { s.pkg with jtag := .bypass })))
    ∧ (isLit s = true → scalar s 0x3800 1 0 = 1 → Ends .lmSample s ((List.range 64).foldl (fun u n => enterSample n u) s))
    ∧ (s.start.stage = .lit → Ends .lifetimeHourlyWrite s (writeLife (lifeBy 1 1 s)))
    ∧ (∀ address : BitVec 7, roadOpen s .i3c = true →
      Ends (.dynamicAddressAssignment address) s (s.setOd { s.od with i3c := some address }))

/-! ### The queue, rest, and what commands leave unchanged -/

/-- Every command answers a next state with the sender's queue as it was, so that commands run first in, first out (the block's own
rule, log entry 2). -/
def Obligations.CommandsLeaveTheQueue : Prop :=
  (∀ (c : Instr) (s : State), ∃ t, exec c s = .next t ∧ t.pending = s.pending)
  ∧ ∀ (c : Instr) (rest : List Instr) (s : State), ∃ t, step (s.setPending (c :: rest)) = .next t ∧ t.pending = rest

/-- A device in which nothing waits is at rest: what runs by itself after a command changes nothing. -/
def Obligations.QuietDeviceStaysAtRest : Prop := ∀ s : State, Quiet s → settle s = s

/-- Security messages leave tiers, tile bytes, Underlay, sessions of jobs, codec, compute, rings, shares, memory controllers, budgets,
dictionary, start, time, fuses and package as they were; requests that only read leave the security engine, flash, logs and
counters too. -/
def Obligations.SecurityAndRequestFrames : Prop :=
  ∀ (c : Instr) (s t : State), exec c s = .next t → (isSecurity c = true ∨ isRequest c = true) →
    (t.tier = s.tier ∧ t.und = s.und ∧ t.sess = s.sess ∧ t.codec = s.codec ∧ t.cmp = s.cmp ∧ t.queue = s.queue ∧ t.share = s.share
      ∧ t.dram = s.dram ∧ t.regul = s.regul ∧ t.od = s.od ∧ t.start = s.start ∧ t.time = s.time ∧ t.fuses = s.fuses
      ∧ t.pkg = s.pkg ∧ t.pending = s.pending)
    ∧ (∀ a, memAt t.tier.mem a = memAt s.tier.mem a)
    ∧ (isRequest c = true → t.sec = s.sec ∧ t.flash = s.flash ∧ t.logs = s.logs ∧ t.ctr = s.ctr)

/-- A step of a frame's own units stores to no tile: every byte of Ridge and Batten, every poison mark and every map entry is as it
was, and so are Underlay, flash, fuses, start, memory controllers, package and dictionary (R199, R211, R243, R246). -/
def Obligations.UnitStepFrames : Prop :=
  ∀ (c : Instr) (s t : State), exec c s = .next t → isUnitStep c = true →
    (∀ a, memAt t.tier.mem a = memAt s.tier.mem a) ∧ t.tier.poison = s.tier.poison ∧ t.tier.exts = s.tier.exts
      ∧ t.und = s.und ∧ t.flash = s.flash ∧ t.fuses = s.fuses ∧ t.start = s.start ∧ t.dram = s.dram ∧ t.pkg = s.pkg
      ∧ t.od = s.od ∧ t.pending = s.pending

/-- A row of a memory controller alone changes controllers, budgets, counters and logs, and nothing else (R371 to R379, R392). -/
def Obligations.ControllerFrames : Prop :=
  ∀ (c : Instr) (s t : State), exec c s = .next t → isController c = true →
    t = { s with dram := t.dram, regul := t.regul, ctr := t.ctr, logs := t.logs }
      ∧ ∀ a, memAt t.tier.mem a = memAt s.tier.mem a

/-! ### Invariants -/

/-- No step unburns a fuse: every copy of every bit of SVN_FLOOR, TREE_FUSES and DEBUG_CLOSE that is burned in s is burned in every
state that a step answers (R447, R488). -/
def Obligations.FusesOnlyBurn : Prop :=
  ∀ (f : Fuses) (s t : State), burnedIn f s.fuses → step s = .next t → burnedIn f t.fuses

/-- After reset no command waits, memory lists nothing and is in its form, nothing waits in the device, and S1 has begun (R506,
R508); the invariant of the fuses holds of its own fuses. -/
def Obligations.ResetLeaves : Prop :=
  State.reset.pending = [] ∧ State.reset.tier.mem = [] ∧ Memory.wf State.reset.tier.mem = true ∧ Quiet State.reset
    ∧ State.reset.start.stage = .oscDelay ∧ State.reset.start.phase = 1 ∧ isLit State.reset = false
    ∧ burnedIn State.reset.fuses State.reset.fuses

/-- The signer never takes an index that is not reserved, and never steps back in a tree (R458, R459): a security message, and
the opening of a tree, keep q at most RESERVED_TO. -/
def Obligations.SignerKeepsToItsReservation : Prop :=
  (∀ s : State, s.sec.q ≤ s.sec.reservedTo →
    (signAll s).sec.q ≤ (signAll s).sec.reservedTo ∧ ((signAll s).sec.tree = s.sec.tree → s.sec.q ≤ (signAll s).sec.q))
  ∧ ∀ (c : Instr) (s t : State), exec c s = .next t → (isSecurity c = true ∨ ∃ b, c = .treeOpenDone b) →
    s.sec.q ≤ s.sec.reservedTo → t.sec.q ≤ t.sec.reservedTo

/-! ### Results of rules -/

/-- The codec loses nothing (R136 to R142, R171): what an encoder makes of a block, with entries of its class and a slot and
generation that the header can name, passes every check of Table 4-7 and decodes to the block; and it is at most 4,080 B long. -/
def Obligations.CodedBlocksDecodeToTheirBytes : Prop :=
  ∀ (slot gen size : Nat) (wide : Bool) (entries : List Nat) (raw b : List Byte),
    slot < 64 → gen < 1024 → entries.length ≤ classSize size → raw.length = 4096 →
    encodeBlock slot gen size wide entries raw = some b →
    b.length ≤ 4080 ∧ decodeBlock b.length slot gen (some (wide, size, entries)) b = .ok raw

/-- Bytes stored in Ridge and Batten are read back, and every other byte reads as before (R82, R380). -/
def Obligations.StoredBytesAreReadBack : Prop :=
  ∀ (m : List Host.Cell) (a : Nat) (bs : List Byte),
    (∀ x, memAt (memStore m a bs) x = if a ≤ x ∧ x < a + bs.length then bs.getD (x - a) 0 else memAt m x)
    ∧ memRead (memStore m a bs) a bs.length = bs
    ∧ ∀ (c n : Nat), (c + n ≤ a ∨ a + bs.length ≤ c) → memRead (memStore m a bs) c n = memRead m c n

/-- A refresh that falls due is run with those postponed before it, each interval twice in doubled refresh, or is postponed, which at most
four intervals may be; none is skipped (R372). -/
def Obligations.RefreshesAreNeverSkipped : Prop :=
  ∀ (s t : State) (ctl : Ctl) (n rank bank : Nat) (doubled postpone : Bool), ctlNo ctl = n → ctlUp s n = true →
    exec (.refreshDue ⟨ctl, rank⟩ bank doubled postpone) s = .next t →
    ∀ late, MapOps.getD rank 0 (ctlOf s n).postponed = late →
      ((postpone = true ∧ late < 4) →
        (ctlOf t n).refreshes = (ctlOf s n).refreshes ∧ MapOps.getD rank 0 (ctlOf t n).postponed = late + 1)
      ∧ (¬ (postpone = true ∧ late < 4) →
        (ctlOf t n).refreshes = (ctlOf s n).refreshes + (late + 1) * (if doubled then 2 else 1)
          ∧ MapOps.getD rank 0 (ctlOf t n).postponed = 0)

/-- Stores to SQ_TAIL and CQ_HEAD (R267): of those that arrive between two samplings the latest counts and each overtaken one is
counted; those to a ring that is not ACTIVE are dropped and counted; a value out of range, and a CQ_HEAD that releases a record not
written, makes the ring FAULTED with its code. -/
def Obligations.DoorbellsFollowTheirRule : Prop :=
  ∀ (s : State) (port : Fin 4) (ld : Fin 16) (spid : Nat) (ring : Fin 64) (id : Nat) (stores : List (BitVec 16)),
    BarReady s (ldNo port ld) spid → ldNo port ld * 64 + ring.val = id →
    (ringState s id ≠ 1 → Rests (.sqTailDoorbell port ld spid ring stores) s (countBy 0x3070 3 stores.length s)
      ∧ Rests (.cqHeadWrite port ld spid ring stores) s (countBy 0x3070 3 stores.length s))
    ∧ ∀ (v : BitVec 16) (u : State), ringState s id = 1 → stores.getLast? = some v →
      countBy 0x3070 2 (stores.length - 1) s = u →
      (2 ^ (ringOf s id).sqLog2 ≤ v.toNat → Rests (.sqTailDoorbell port ld spid ring stores) s (faultRing id 1 u))
      ∧ (v.toNat < 2 ^ (ringOf s id).sqLog2 → Rests (.sqTailDoorbell port ld spid ring stores) s
        (modRing id (fun q => { q with sqTail := v.toNat }) u))
      ∧ (2 ^ (ringOf s id).cqLog2 ≤ v.toNat → Rests (.cqHeadWrite port ld spid ring stores) s (faultRing id 2 u))
      ∧ (v.toNat < 2 ^ (ringOf s id).cqLog2 →
        (((ringOf s id).cqTail + 2 ^ (ringOf s id).cqLog2 - (ringOf s id).cqHead) % 2 ^ (ringOf s id).cqLog2
            < (v.toNat + 2 ^ (ringOf s id).cqLog2 - (ringOf s id).cqHead) % 2 ^ (ringOf s id).cqLog2 →
          Rests (.cqHeadWrite port ld spid ring stores) s (faultRing id 2 u))
        ∧ ((v.toNat + 2 ^ (ringOf s id).cqLog2 - (ringOf s id).cqHead) % 2 ^ (ringOf s id).cqLog2
            ≤ ((ringOf s id).cqTail + 2 ^ (ringOf s id).cqLog2 - (ringOf s id).cqHead) % 2 ^ (ringOf s id).cqLog2 →
          Rests (.cqHeadWrite port ld spid ring stores) s (modRing id (fun q => { q with cqHead := v.toNat }) u)))

/-- The writes of a partition's entry (R297): only the three transitions of a sender take effect, a repeat changes nothing, and every
other write is REFUSED. -/
def Obligations.PartitionTransitionsFollowTheirRule : Prop :=
  ∀ (s : State) (road : Road) (p : Fin 64) (v : Nat) (o : OdObj) (u : State) (st mask : Nat),
    arrived road s = u → MayWrite s road 0x2101 (p.val + 1) 16 v o → field v 1 0 = st → field v 127 64 = mask →
    (st = partState u p.val → mask = ldMask u p.val → Serves (.partitionAssign road p v) s (written road 0x2101 (p.val + 1) s u))
    ∧ (¬ (st = partState u p.val ∧ mask = ldMask u p.val) →
      (partState u p.val = 0 → st = 1 → mask ≠ 0 → maskFree u p.val mask = true →
        Serves (.partitionAssign road p v) s (written road 0x2101 (p.val + 1) s (bindLds p.val mask u)))
      ∧ (partState u p.val = 1 → st = 1 → mask &&& ldMask u p.val = ldMask u p.val → maskFree u p.val mask = true →
        Serves (.partitionAssign road p v) s (written road 0x2101 (p.val + 1) s (bindLds p.val mask u)))
      ∧ (partState u p.val = 1 → st = 2 → mask = ldMask u p.val → (∀ q ∈ sharesIn u, field q.2 6 1 ≠ p.val) →
        Serves (.partitionAssign road p v) s (written road 0x2101 (p.val + 1) s (reassign p.val u)))
      ∧ (¬ (partState u p.val = 0 ∧ st = 1 ∧ mask ≠ 0 ∧ maskFree u p.val mask = true) →
        ¬ (partState u p.val = 1 ∧ st = 1 ∧ mask &&& ldMask u p.val = ldMask u p.val ∧ maskFree u p.val mask = true) →
        ¬ (partState u p.val = 1 ∧ st = 2 ∧ mask = ldMask u p.val ∧ ∀ q ∈ sharesIn u, field q.2 6 1 ≠ p.val) →
        Serves (.partitionAssign road p v) s ((writeAnswer road 0 0x2101 (p.val + 1) 3 u).setFuses s.fuses)))

/-- RELEASE of a port (R355): a contained port is released while its link is in L0 and its cause is not 5, else RELEASE_REFUSED is set
and nothing else changes; a port that is not contained is left as it is. -/
def Obligations.ContainmentReleaseFollowsItsRule : Prop :=
  ∀ (s : State) (port : Fin 4), served s = true →
    ((portOf s port.val).cause = 0 → Rests (.containmentRelease port) s s)
    ∧ ((portOf s port.val).cause ≠ 0 → ((portOf s port.val).up = false ∨ (portOf s port.val).cause = 5) →
      Rests (.containmentRelease port) s (modPort port.val (fun q => { q with refused := true }) s))
    ∧ ((portOf s port.val).cause ≠ 0 → (portOf s port.val).up = true → (portOf s port.val).cause ≠ 5 →
      Rests (.containmentRelease port) s (raiseEach 0x0902 (portParts s port.val) 0 (setInt port.val 1 ((ldsAt port.val).foldl (fun u i =>
        if ldFrozen u i then u else flushPba i (flushHeld i u))
        (modPort port.val (fun p => { p with cause := 0, refused := false }) s)))))

/-- A replay, and a wait that ends with the alert still present, are replays of the episode; the eighth fails the channel or stack, and
an episode ends with 64 commands that complete without an alert (R377; ReplayLimit is 8). -/
def Obligations.ReplayLimitFailsTheMemory : Prop :=
  ∀ (s : State) (ctl : Ctl) (n : Nat) (c : DramCtl), ctlNo ctl = n → ctlOf s n = c → c.state = 1 →
    (c.alert = true →
      (c.episode < 7 →
        Rests (.alertWaitExpired ctl) s (count 0x30A0 6 (modCtl n (fun q => { q with alert := true, episode := q.episode + 1 }) s))
        ∧ Rests (.replayDone ctl) s (count 0x30A0 6 (modCtl n (fun q => { q with
            alert := false, episode := q.episode + 1, openRows := reissued q, retry := q.retry.map (reissue s n c) }) s)))
      ∧ (7 ≤ c.episode →
        Rests (.alertWaitExpired ctl) s (memoryFails n 0
          (count 0x30A0 6 (modCtl n (fun q => { q with alert := true, episode := q.episode + 1 }) s)))
        ∧ Rests (.replayDone ctl) s (memoryFails n 0 (count 0x30A0 6 (modCtl n (fun q => { q with
            alert := false, episode := q.episode + 1, openRows := reissued q, retry := q.retry.map (reissue s n c) }) s)))))
    ∧ (c.alert = false → Ends (.replayEpisodeEnd ctl) s (modCtl n (fun q => { q with episode := 0 }) s))

/-- At its rollover a master's three charges return to 0 and its window begins anew; every other master's charges stay (R434). An
admission point that lets masters go loses no queued move: those of the masters that may go are let go, and every other stays as it
is (R437). -/
def Obligations.RolloverClearsOneMaster : Prop :=
  (∀ (s : State) (may : Nat → Bool) (l : List MoveReq) (r : MoveReq), r ∈ admitMoves may s l ↔
    (r.admitted = true ∧ r ∈ l) ∨ (r.admitted = false ∧ may r.master = false ∧ r ∈ l)
      ∨ ∃ q ∈ l, q.admitted = false ∧ may q.master = true ∧ r = { q with admitted := true })
  ∧ ∀ (s : State) (m k t : Nat), t < 3 →
    chargeOf (rollover m s) m t = 0 ∧ MapOps.getD m 0 (rollover m s).regul.began = nowUs s
      ∧ (k ≠ m → chargeOf (rollover m s) k t = chargeOf s k t
        ∧ MapOps.getD k 0 (rollover m s).regul.began = MapOps.getD k 0 s.regul.began)

/-- The banks of an event log (R545): an event enters a fill bank of fewer than 1,024 entries, and is lost and counted else; a swap
makes the fill bank the drain bank in its order, and a loss before it is told by the first entry of the new fill bank. -/
def Obligations.EventBanksFollowTheirRule : Prop :=
  (∀ (l : EventLog) (code : Nat) (part : Option Nat) (cal detail : Nat),
    (l.fill.length ≤ 1024 → (l.enter code part cal detail).fill.length ≤ 1024)
    ∧ (l.enter code part cal detail).drain = l.drain
    ∧ (l.fill.length < 1024 → (l.enter code part cal detail).fill.tail = l.fill ∧ (l.enter code part cal detail).lost = l.lost)
    ∧ (1024 ≤ l.fill.length → (l.enter code part cal detail).fill = l.fill
      ∧ (l.enter code part cal detail).lost = l.lost + 1 ∧ (l.enter code part cal detail).lostNow = l.lostNow + 1))
  ∧ ∀ (l : EventLog) (part : Option Nat) (cal : Nat),
    (l.swap part cal).drain = l.fill.reverse ∧ (l.swap part cal).lostNow = 0
    ∧ (l.lostNow = 0 → (l.swap part cal).fill = [])
    ∧ (l.lostNow ≠ 0 → ∃ e, (l.swap part cal).fill = [e] ∧ e.code = 0x0F01 ∧ e.detail = l.lostNow)

/-- Once DEBUG_CLOSE is burned the debug range is absent on every road, no challenge is drawn, and private JTAG instructions act as
BYPASS; and burning it burns all its copies (R488). -/
def Obligations.DebugCloseIsFinal : Prop :=
  ∀ s : State,
    (s.fuses.debugClose.length = 3 → debugBurned (burnDebug s) = true ∧ (burnDebug s).sec.debug = 2
      ∧ ∀ b ∈ (burnDebug s).fuses.debugClose, b = true)
    ∧ (debugBurned s = true →
      (∀ index sub, 0x6000 ≤ index → present s index sub = .error 1)
      ∧ exec .debugChallenge s = .next s
      ∧ ∀ c, s.sec.debug = 2 → s.start.stage ≠ .off → 1 ∉ s.pkg.railsBad →
        Ends (.jtagInstruction (.privateInstr c)) s (emit .tdo [0] [] (s.setPkg { s.pkg with jtag := .bypass })))

/-- Tokens count modulo 2^32 (R243): a token that is given a value holds it so, every other token of the run and every other run is as
it was, and a WAIT passes from V until 2^31 − 1 beyond it. -/
def Obligations.TokensCountModulo : Prop :=
  (∀ (s : State) (run t k v : Nat) (r : Run), runOf s run = some r → r.id = run →
    ∃ q, runOf (setToken run t v s) run = some q ∧ tokenOf q t = v % 2 ^ 32 ∧ (k ≠ t → tokenOf q k = tokenOf r k)
      ∧ ∀ other, other ≠ run → runOf (setToken run t v s) other = runOf s other)
  ∧ ∀ v d : Nat, v < 2 ^ 32 → d < 2 ^ 32 → (reached ((v + d) % 2 ^ 32) v = true ↔ d < 2 ^ 31)

/-- A message that falls due on a vector that is masked by its entry, by Function Mask or by MSI-X Enable stays pending, once; one
that is not goes out to its entry's address and data (R341). -/
def Obligations.MaskedMessagesStayPending : Prop :=
  ∀ (s : State) (i v : Nat) (e : Nat × Nat × Bool), MapOps.getD v (0, 0, true) (ldOf s i).msixTable = e →
    (e.2.2 = true ∨ (ldOf s i).functionMask = true ∨ (ldOf s i).msixEnable = false →
      v ∈ (ldOf (sendMsix i v s) i).pba ∧ (sendMsix i v s).out = s.out
      ∧ ∀ w, w ≠ v → (w ∈ (ldOf (sendMsix i v s) i).pba ↔ w ∈ (ldOf s i).pba))
    ∧ (e.2.2 = false → (ldOf s i).functionMask = false → (ldOf s i).msixEnable = true →
      sendMsix i v s = emit .msix [i / 16, i % 16, v, e.1, e.2.1] [] s)
end

