-- ==== Sys2Proof/Laws/Bytes.lean ====
section
/-! SUPPORT. Laws of byte strings: lengths, that a number written as bytes is read back, and exclusive-or. -/

namespace Sys2Proof.Machine

open Sys2Proof

@[simp] theorem toBytes_length (n v : Nat) : (toBytes n v).length = n := by
  induction n generalizing v with
  | zero => rfl
  | succ n ih => simp [toBytes, ih]

@[simp] theorem zeros_length (n : Nat) : (zeros n).length = n := List.length_replicate

/-- A number below 256^n is read back from its n bytes. -/
theorem ofBytes_toBytes (n v : Nat) (h : v < 256 ^ n) : ofBytes (toBytes n v) = v := by
  induction n generalizing v with
  | zero => simp at h; subst h; rfl
  | succ n ih =>
    have hv : v / 256 < 256 ^ n := by rw [Nat.pow_succ] at h; omega
    simp only [toBytes, ofBytes, ih _ hv, BitVec.toNat_ofNat]
    omega

theorem ofBytes_lt (bs : List Byte) : ofBytes bs < 256 ^ bs.length := by
  induction bs with
  | nil => simp [ofBytes]
  | cons b bs ih =>
    have := b.isLt
    simp only [ofBytes, List.length_cons, Nat.pow_succ]
    omega

/-- Bytes are written back from the number that they spell. -/
theorem toBytes_ofBytes (bs : List Byte) : toBytes bs.length (ofBytes bs) = bs := by
  induction bs with
  | nil => rfl
  | cons b bs ih =>
    have hb := b.isLt
    have h1 : (b.toNat + 256 * ofBytes bs) / 256 = ofBytes bs := by omega
    simp only [List.length_cons, toBytes, ofBytes, h1, ih]
    congr 1
    apply BitVec.eq_of_toNat_eq
    simp only [BitVec.toNat_ofNat]
    omega

@[simp] theorem xorBytes_length (a b : List Byte) : (xorBytes a b).length = a.length := by
  induction a generalizing b with
  | nil => simp [xorBytes]
  | cons x a ih => cases b <;> simp [xorBytes, ih]

/-- What is exclusive-ored twice goes away. -/
theorem xorBytes_cancel (a b : List Byte) (h : a.length = b.length) : xorBytes a (xorBytes b a) = b := by
  induction a generalizing b with
  | nil => cases b <;> simp_all [xorBytes]
  | cons x a ih =>
    cases b with
    | nil => simp at h
    | cons y b => simp [xorBytes, ih b (by simpa using h), BitVec.xor_comm y x]

/-- A string exclusive-ored into both sides goes away. -/
theorem xorBytes_pair (a b c : List Byte) (h : a.length = b.length) (k : a.length = c.length) :
    xorBytes (xorBytes a b) (xorBytes a c) = xorBytes b c := by
  induction a generalizing b c with
  | nil =>
    cases b with
    | nil => simp [xorBytes]
    | cons y b => simp at h
  | cons x a ih =>
    cases b with
    | nil => simp at h
    | cons y b =>
      cases c with
      | nil => simp at k
      | cons z c =>
        simp only [xorBytes, ih b c (by simpa using h) (by simpa using k), BitVec.xor_comm x y, BitVec.xor_assoc]
        rw [← BitVec.xor_assoc x x z]
        simp

theorem xorAll_length (n : Nat) (l : List (List Byte)) (h : ∀ a ∈ l, a.length = n) : (xorAll n l).length = n := by
  cases l with
  | nil => simp [xorAll]
  | cons a l => simpa [xorAll] using h a (by simp)

/-- The exclusive-or of all but one, with that of all, is that one. -/
theorem xorAll_eraseIdx (n : Nat) (l : List (List Byte)) (h : ∀ a ∈ l, a.length = n) (d : Nat) (hd : d < l.length) :
    xorBytes (xorAll n (l.eraseIdx d)) (xorAll n l) = l[d] := by
  induction l generalizing d with
  | nil => simp at hd
  | cons a l ih =>
    have hl : ∀ b ∈ l, b.length = n := fun b hb => h b (by simp [hb])
    have ha : a.length = n := h a (by simp)
    cases d with
    | zero => exact xorBytes_cancel _ _ ((xorAll_length n l hl).trans ha.symm)
    | succ d =>
      have hd2 : d < l.length := by simpa using hd
      have he : (xorAll n (l.eraseIdx d)).length = n := xorAll_length n _ fun b hb => hl b (List.mem_of_mem_eraseIdx hb)
      exact (xorBytes_pair _ _ _ (ha.trans he.symm) (ha.trans (xorAll_length n l hl).symm)).trans (ih hl d hd2)

end Sys2Proof.Machine
end

