-- ==== Sys2Proof/Laws/Maps.lean ====
section
/-! SUPPORT. Reading a map after a change of it, and the order of its keys. -/

namespace Sys2Proof.Machine

open List

@[simp] theorem MapOps.get?_insert_same {α : Type} (k : Nat) (v : α) (m : Map α) : MapOps.get? k (MapOps.insert k v m) = some v := by
  induction m with
  | nil => simp [MapOps.insert, MapOps.get?]
  | cons p m ih =>
    obtain ⟨j, u⟩ := p
    simp only [MapOps.insert]
    split
    · simp [MapOps.get?]
    · split
      · simp [MapOps.get?]
      · rename_i h2
        simp only [beq_iff_eq] at h2
        simp [MapOps.get?, h2, ih]

theorem MapOps.get?_insert_ne {α : Type} {k k' : Nat} (h : k' ≠ k) (v : α) (m : Map α) :
    MapOps.get? k' (MapOps.insert k v m) = MapOps.get? k' m := by
  induction m with
  | nil => simp [MapOps.insert, MapOps.get?, Ne.symm h]
  | cons p m ih =>
    obtain ⟨j, u⟩ := p
    simp only [MapOps.insert]
    split
    · simp [MapOps.get?, Ne.symm h]
    · split
      · rename_i h2
        simp only [beq_iff_eq] at h2
        subst h2
        simp [MapOps.get?, Ne.symm h]
      · simp only [MapOps.get?, ih]

@[simp] theorem MapOps.get?_erase_same {α : Type} (k : Nat) (m : Map α) : MapOps.get? k (MapOps.erase k m) = none := by
  induction m with
  | nil => rfl
  | cons p m ih =>
    obtain ⟨j, u⟩ := p
    simp only [MapOps.erase]
    split
    · exact ih
    · rename_i h
      simp [MapOps.get?, h, ih]

theorem MapOps.get?_erase_ne {α : Type} {k k' : Nat} (h : k' ≠ k) (m : Map α) :
    MapOps.get? k' (MapOps.erase k m) = MapOps.get? k' m := by
  induction m with
  | nil => rfl
  | cons p m ih =>
    obtain ⟨j, u⟩ := p
    simp only [MapOps.erase]
    split
    · rename_i h2
      simp only [beq_iff_eq] at h2
      subst h2
      simp [MapOps.get?, Ne.symm h, ih]
    · simp only [MapOps.get?, ih]

/-- A filter that keeps a key keeps its value. -/
theorem MapOps.get?_filter {α : Type} (f : Nat → Bool) {k : Nat} (h : f k = true) (m : Map α) :
    MapOps.get? k (m.filter fun p => f p.1) = MapOps.get? k m := by
  induction m with
  | nil => rfl
  | cons p m ih =>
    obtain ⟨j, u⟩ := p
    by_cases hj : j = k
    · subst hj; simp [List.filter_cons, h, MapOps.get?]
    · by_cases hf : f j = true
      · simp [List.filter_cons, hf, MapOps.get?, hj, ih]
      · simp [List.filter_cons, hf, MapOps.get?, hj, ih]

/-- A filter that drops a key leaves it without a value. -/
theorem MapOps.get?_filter_none {α : Type} (f : Nat → Bool) {k : Nat} (h : f k = false) (m : Map α) :
    MapOps.get? k (m.filter fun p => f p.1) = none := by
  induction m with
  | nil => rfl
  | cons p m ih =>
    obtain ⟨j, u⟩ := p
    by_cases hf : f j = true
    · have hj : j ≠ k := by rintro rfl; simp [h] at hf
      simp [List.filter_cons, hf, MapOps.get?, hj, ih]
    · simp [List.filter_cons, hf, ih]

@[simp] theorem MapOps.getD_put_same {α : Type} [BEq α] [LawfulBEq α] (k : Nat) (d v : α) (m : Map α) :
    MapOps.getD k d (MapOps.put k d v m) = v := by
  unfold MapOps.put
  split
  · rename_i h
    simp only [beq_iff_eq] at h
    simp [MapOps.getD, h]
  · simp [MapOps.getD]

theorem MapOps.getD_put_ne {α : Type} [BEq α] {k k' : Nat} (h : k' ≠ k) (d e v : α) (m : Map α) :
    MapOps.getD k' e (MapOps.put k d v m) = MapOps.getD k' e m := by
  unfold MapOps.put
  split <;> simp [MapOps.getD, MapOps.get?_erase_ne h, MapOps.get?_insert_ne h]

@[simp] theorem MapOps.getD_insert_same {α : Type} (k : Nat) (d v : α) (m : Map α) : MapOps.getD k d (MapOps.insert k v m) = v := by
  simp [MapOps.getD]

theorem MapOps.getD_insert_ne {α : Type} {k k' : Nat} (h : k' ≠ k) (d v : α) (m : Map α) :
    MapOps.getD k' d (MapOps.insert k v m) = MapOps.getD k' d m := by
  simp [MapOps.getD, MapOps.get?_insert_ne h]

/-- Sorted maps, as a relation of neighbours. -/
theorem MapOps.sorted_iff {α : Type} (m : Map α) : MapOps.sorted m = true ↔ m.Pairwise (fun a b => a.1 < b.1) := by
  induction m with
  | nil => simp [MapOps.sorted]
  | cons p m ih =>
    obtain ⟨j, u⟩ := p
    cases m with
    | nil => simp [MapOps.sorted]
    | cons q m =>
      obtain ⟨k, v⟩ := q
      simp only [MapOps.sorted, Bool.and_eq_true, decide_eq_true_eq, ih]
      constructor
      · rintro ⟨h1, h2⟩
        rw [pairwise_cons]
        refine ⟨?_, h2⟩
        intro a ha
        rcases mem_cons.mp ha with rfl | ha
        · exact h1
        · exact lt_trans h1 ((pairwise_cons.mp h2).1 a ha)
      · intro h
        exact ⟨(pairwise_cons.mp h).1 (k, v) (by simp), (pairwise_cons.mp h).2⟩

end Sys2Proof.Machine
end

