-- ==== Sys2Proof/Laws/Memory.lean ====
section
/-! SUPPORT. Ridge and Batten memory keeps its canonical form under the one operation that changes bytes, and the memory of
the machine at reset has it. -/

namespace Sys2Proof.Machine

/-- The cells of a run of bytes lie in it, rise, and hold no zero. -/
theorem cellsOf_spec (a : Nat) (bs : List Byte) :
    (cellsOf a bs).Pairwise (fun x y => x.1 < y.1) ∧ ∀ c ∈ cellsOf a bs, a ≤ c.1 ∧ c.1 < a + bs.length ∧ c.2 ≠ 0 := by
  induction bs generalizing a with
  | nil => simp [cellsOf]
  | cons b bs ih =>
    obtain ⟨h1, h2⟩ := ih (a + 1)
    simp only [cellsOf]
    split
    · refine ⟨h1, fun c hc => ?_⟩
      have := h2 c hc
      simp only [List.length_cons]
      exact ⟨by omega, by omega, this.2.2⟩
    · rename_i hb
      simp only [beq_iff_eq] at hb
      refine ⟨List.pairwise_cons.mpr ⟨fun c hc => ?_, h1⟩, fun c hc => ?_⟩
      · have := h2 c hc
        show a < c.1
        omega
      · rcases List.mem_cons.mp hc with rfl | hc
        · simp only [List.length_cons]
          exact ⟨le_refl _, by omega, hb⟩
        · have := h2 c hc
          simp only [List.length_cons]
          exact ⟨by omega, by omega, this.2.2⟩

/-- What canonical form says. -/
theorem Memory.wf_iff (m : List Host.Cell) :
    Memory.wf m = true ↔ m.Pairwise (fun a b => a.1 < b.1) ∧ ∀ c ∈ m, c.2 ≠ 0 := by
  simp only [Memory.wf, Bool.and_eq_true, MapOps.sorted_iff, List.all_eq_true, bne_iff_ne]

/-- Every store of bytes keeps memory in canonical form. -/
theorem memStore_wf {m : List Host.Cell} (h : Memory.wf m = true) (a : Nat) (bs : List Byte) :
    Memory.wf (memStore m a bs) = true := by
  rw [Memory.wf_iff] at h ⊢
  obtain ⟨hp, hz⟩ := h
  obtain ⟨c1, c2⟩ := cellsOf_spec a bs
  constructor
  · unfold memStore
    rw [List.pairwise_append]
    refine ⟨hp.filter _, ?_, ?_⟩
    · rw [List.pairwise_append]
      refine ⟨c1, hp.filter _, ?_⟩
      intro x hx y hy
      have h1 := c2 x hx
      have h2 := (List.mem_filter.mp hy).2
      simp only [decide_eq_true_eq] at h2
      omega
    · intro x hx y hy
      have h1 := (List.mem_filter.mp hx).2
      simp only [decide_eq_true_eq] at h1
      rcases List.mem_append.mp hy with hy | hy
      · have := c2 y hy
        omega
      · have h2 := (List.mem_filter.mp hy).2
        simp only [decide_eq_true_eq] at h2
        omega
  · intro c hc
    unfold memStore at hc
    rcases List.mem_append.mp hc with hc | hc
    · exact hz c (List.mem_filter.mp hc).1
    · rcases List.mem_append.mp hc with hc | hc
      · exact (c2 c hc).2.2
      · exact hz c (List.mem_filter.mp hc).1

/-- The machine's memory at reset is canonical. -/
theorem reset_memory_wf : Memory.wf State.reset.tier.mem = true := rfl

end Sys2Proof.Machine
end

