-- ==== Sys2Proof/Laws/State.lean ====
section
/-! SUPPORT. One lemma per field and update of State, true by unfolding, so that no proof unfolds an update. -/

namespace Sys2Proof.Machine

@[simp] theorem State.setPending_pending (s : State) (x : List Instr) : (s.setPending x).pending = x := rfl
@[simp] theorem State.setPending_fresh (s : State) (x : List Instr) : (s.setPending x).fresh = s.fresh := rfl
@[simp] theorem State.setPending_out (s : State) (x : List Instr) : (s.setPending x).out = s.out := rfl
@[simp] theorem State.setPending_time (s : State) (x : List Instr) : (s.setPending x).time = s.time := rfl
@[simp] theorem State.setPending_start (s : State) (x : List Instr) : (s.setPending x).start = s.start := rfl
@[simp] theorem State.setPending_fuses (s : State) (x : List Instr) : (s.setPending x).fuses = s.fuses := rfl
@[simp] theorem State.setPending_flash (s : State) (x : List Instr) : (s.setPending x).flash = s.flash := rfl
@[simp] theorem State.setPending_sec (s : State) (x : List Instr) : (s.setPending x).sec = s.sec := rfl
@[simp] theorem State.setPending_od (s : State) (x : List Instr) : (s.setPending x).od = s.od := rfl
@[simp] theorem State.setPending_ctr (s : State) (x : List Instr) : (s.setPending x).ctr = s.ctr := rfl
@[simp] theorem State.setPending_logs (s : State) (x : List Instr) : (s.setPending x).logs = s.logs := rfl
@[simp] theorem State.setPending_tier (s : State) (x : List Instr) : (s.setPending x).tier = s.tier := rfl
@[simp] theorem State.setPending_und (s : State) (x : List Instr) : (s.setPending x).und = s.und := rfl
@[simp] theorem State.setPending_sess (s : State) (x : List Instr) : (s.setPending x).sess = s.sess := rfl
@[simp] theorem State.setPending_codec (s : State) (x : List Instr) : (s.setPending x).codec = s.codec := rfl
@[simp] theorem State.setPending_cmp (s : State) (x : List Instr) : (s.setPending x).cmp = s.cmp := rfl
@[simp] theorem State.setPending_queue (s : State) (x : List Instr) : (s.setPending x).queue = s.queue := rfl
@[simp] theorem State.setPending_share (s : State) (x : List Instr) : (s.setPending x).share = s.share := rfl
@[simp] theorem State.setPending_link (s : State) (x : List Instr) : (s.setPending x).link = s.link := rfl
@[simp] theorem State.setPending_dram (s : State) (x : List Instr) : (s.setPending x).dram = s.dram := rfl
@[simp] theorem State.setPending_regul (s : State) (x : List Instr) : (s.setPending x).regul = s.regul := rfl
@[simp] theorem State.setPending_pkg (s : State) (x : List Instr) : (s.setPending x).pkg = s.pkg := rfl
@[simp] theorem State.setFresh_pending (s : State) (x : Nat) : (s.setFresh x).pending = s.pending := rfl
@[simp] theorem State.setFresh_fresh (s : State) (x : Nat) : (s.setFresh x).fresh = x := rfl
@[simp] theorem State.setFresh_out (s : State) (x : Nat) : (s.setFresh x).out = s.out := rfl
@[simp] theorem State.setFresh_time (s : State) (x : Nat) : (s.setFresh x).time = s.time := rfl
@[simp] theorem State.setFresh_start (s : State) (x : Nat) : (s.setFresh x).start = s.start := rfl
@[simp] theorem State.setFresh_fuses (s : State) (x : Nat) : (s.setFresh x).fuses = s.fuses := rfl
@[simp] theorem State.setFresh_flash (s : State) (x : Nat) : (s.setFresh x).flash = s.flash := rfl
@[simp] theorem State.setFresh_sec (s : State) (x : Nat) : (s.setFresh x).sec = s.sec := rfl
@[simp] theorem State.setFresh_od (s : State) (x : Nat) : (s.setFresh x).od = s.od := rfl
@[simp] theorem State.setFresh_ctr (s : State) (x : Nat) : (s.setFresh x).ctr = s.ctr := rfl
@[simp] theorem State.setFresh_logs (s : State) (x : Nat) : (s.setFresh x).logs = s.logs := rfl
@[simp] theorem State.setFresh_tier (s : State) (x : Nat) : (s.setFresh x).tier = s.tier := rfl
@[simp] theorem State.setFresh_und (s : State) (x : Nat) : (s.setFresh x).und = s.und := rfl
@[simp] theorem State.setFresh_sess (s : State) (x : Nat) : (s.setFresh x).sess = s.sess := rfl
@[simp] theorem State.setFresh_codec (s : State) (x : Nat) : (s.setFresh x).codec = s.codec := rfl
@[simp] theorem State.setFresh_cmp (s : State) (x : Nat) : (s.setFresh x).cmp = s.cmp := rfl
@[simp] theorem State.setFresh_queue (s : State) (x : Nat) : (s.setFresh x).queue = s.queue := rfl
@[simp] theorem State.setFresh_share (s : State) (x : Nat) : (s.setFresh x).share = s.share := rfl
@[simp] theorem State.setFresh_link (s : State) (x : Nat) : (s.setFresh x).link = s.link := rfl
@[simp] theorem State.setFresh_dram (s : State) (x : Nat) : (s.setFresh x).dram = s.dram := rfl
@[simp] theorem State.setFresh_regul (s : State) (x : Nat) : (s.setFresh x).regul = s.regul := rfl
@[simp] theorem State.setFresh_pkg (s : State) (x : Nat) : (s.setFresh x).pkg = s.pkg := rfl
@[simp] theorem State.setOut_pending (s : State) (x : List Emission) : (s.setOut x).pending = s.pending := rfl
@[simp] theorem State.setOut_fresh (s : State) (x : List Emission) : (s.setOut x).fresh = s.fresh := rfl
@[simp] theorem State.setOut_out (s : State) (x : List Emission) : (s.setOut x).out = x := rfl
@[simp] theorem State.setOut_time (s : State) (x : List Emission) : (s.setOut x).time = s.time := rfl
@[simp] theorem State.setOut_start (s : State) (x : List Emission) : (s.setOut x).start = s.start := rfl
@[simp] theorem State.setOut_fuses (s : State) (x : List Emission) : (s.setOut x).fuses = s.fuses := rfl
@[simp] theorem State.setOut_flash (s : State) (x : List Emission) : (s.setOut x).flash = s.flash := rfl
@[simp] theorem State.setOut_sec (s : State) (x : List Emission) : (s.setOut x).sec = s.sec := rfl
@[simp] theorem State.setOut_od (s : State) (x : List Emission) : (s.setOut x).od = s.od := rfl
@[simp] theorem State.setOut_ctr (s : State) (x : List Emission) : (s.setOut x).ctr = s.ctr := rfl
@[simp] theorem State.setOut_logs (s : State) (x : List Emission) : (s.setOut x).logs = s.logs := rfl
@[simp] theorem State.setOut_tier (s : State) (x : List Emission) : (s.setOut x).tier = s.tier := rfl
@[simp] theorem State.setOut_und (s : State) (x : List Emission) : (s.setOut x).und = s.und := rfl
@[simp] theorem State.setOut_sess (s : State) (x : List Emission) : (s.setOut x).sess = s.sess := rfl
@[simp] theorem State.setOut_codec (s : State) (x : List Emission) : (s.setOut x).codec = s.codec := rfl
@[simp] theorem State.setOut_cmp (s : State) (x : List Emission) : (s.setOut x).cmp = s.cmp := rfl
@[simp] theorem State.setOut_queue (s : State) (x : List Emission) : (s.setOut x).queue = s.queue := rfl
@[simp] theorem State.setOut_share (s : State) (x : List Emission) : (s.setOut x).share = s.share := rfl
@[simp] theorem State.setOut_link (s : State) (x : List Emission) : (s.setOut x).link = s.link := rfl
@[simp] theorem State.setOut_dram (s : State) (x : List Emission) : (s.setOut x).dram = s.dram := rfl
@[simp] theorem State.setOut_regul (s : State) (x : List Emission) : (s.setOut x).regul = s.regul := rfl
@[simp] theorem State.setOut_pkg (s : State) (x : List Emission) : (s.setOut x).pkg = s.pkg := rfl
@[simp] theorem State.setTime_pending (s : State) (x : Time) : (s.setTime x).pending = s.pending := rfl
@[simp] theorem State.setTime_fresh (s : State) (x : Time) : (s.setTime x).fresh = s.fresh := rfl
@[simp] theorem State.setTime_out (s : State) (x : Time) : (s.setTime x).out = s.out := rfl
@[simp] theorem State.setTime_time (s : State) (x : Time) : (s.setTime x).time = x := rfl
@[simp] theorem State.setTime_start (s : State) (x : Time) : (s.setTime x).start = s.start := rfl
@[simp] theorem State.setTime_fuses (s : State) (x : Time) : (s.setTime x).fuses = s.fuses := rfl
@[simp] theorem State.setTime_flash (s : State) (x : Time) : (s.setTime x).flash = s.flash := rfl
@[simp] theorem State.setTime_sec (s : State) (x : Time) : (s.setTime x).sec = s.sec := rfl
@[simp] theorem State.setTime_od (s : State) (x : Time) : (s.setTime x).od = s.od := rfl
@[simp] theorem State.setTime_ctr (s : State) (x : Time) : (s.setTime x).ctr = s.ctr := rfl
@[simp] theorem State.setTime_logs (s : State) (x : Time) : (s.setTime x).logs = s.logs := rfl
@[simp] theorem State.setTime_tier (s : State) (x : Time) : (s.setTime x).tier = s.tier := rfl
@[simp] theorem State.setTime_und (s : State) (x : Time) : (s.setTime x).und = s.und := rfl
@[simp] theorem State.setTime_sess (s : State) (x : Time) : (s.setTime x).sess = s.sess := rfl
@[simp] theorem State.setTime_codec (s : State) (x : Time) : (s.setTime x).codec = s.codec := rfl
@[simp] theorem State.setTime_cmp (s : State) (x : Time) : (s.setTime x).cmp = s.cmp := rfl
@[simp] theorem State.setTime_queue (s : State) (x : Time) : (s.setTime x).queue = s.queue := rfl
@[simp] theorem State.setTime_share (s : State) (x : Time) : (s.setTime x).share = s.share := rfl
@[simp] theorem State.setTime_link (s : State) (x : Time) : (s.setTime x).link = s.link := rfl
@[simp] theorem State.setTime_dram (s : State) (x : Time) : (s.setTime x).dram = s.dram := rfl
@[simp] theorem State.setTime_regul (s : State) (x : Time) : (s.setTime x).regul = s.regul := rfl
@[simp] theorem State.setTime_pkg (s : State) (x : Time) : (s.setTime x).pkg = s.pkg := rfl
@[simp] theorem State.setStart_pending (s : State) (x : Start) : (s.setStart x).pending = s.pending := rfl
@[simp] theorem State.setStart_fresh (s : State) (x : Start) : (s.setStart x).fresh = s.fresh := rfl
@[simp] theorem State.setStart_out (s : State) (x : Start) : (s.setStart x).out = s.out := rfl
@[simp] theorem State.setStart_time (s : State) (x : Start) : (s.setStart x).time = s.time := rfl
@[simp] theorem State.setStart_start (s : State) (x : Start) : (s.setStart x).start = x := rfl
@[simp] theorem State.setStart_fuses (s : State) (x : Start) : (s.setStart x).fuses = s.fuses := rfl
@[simp] theorem State.setStart_flash (s : State) (x : Start) : (s.setStart x).flash = s.flash := rfl
@[simp] theorem State.setStart_sec (s : State) (x : Start) : (s.setStart x).sec = s.sec := rfl
@[simp] theorem State.setStart_od (s : State) (x : Start) : (s.setStart x).od = s.od := rfl
@[simp] theorem State.setStart_ctr (s : State) (x : Start) : (s.setStart x).ctr = s.ctr := rfl
@[simp] theorem State.setStart_logs (s : State) (x : Start) : (s.setStart x).logs = s.logs := rfl
@[simp] theorem State.setStart_tier (s : State) (x : Start) : (s.setStart x).tier = s.tier := rfl
@[simp] theorem State.setStart_und (s : State) (x : Start) : (s.setStart x).und = s.und := rfl
@[simp] theorem State.setStart_sess (s : State) (x : Start) : (s.setStart x).sess = s.sess := rfl
@[simp] theorem State.setStart_codec (s : State) (x : Start) : (s.setStart x).codec = s.codec := rfl
@[simp] theorem State.setStart_cmp (s : State) (x : Start) : (s.setStart x).cmp = s.cmp := rfl
@[simp] theorem State.setStart_queue (s : State) (x : Start) : (s.setStart x).queue = s.queue := rfl
@[simp] theorem State.setStart_share (s : State) (x : Start) : (s.setStart x).share = s.share := rfl
@[simp] theorem State.setStart_link (s : State) (x : Start) : (s.setStart x).link = s.link := rfl
@[simp] theorem State.setStart_dram (s : State) (x : Start) : (s.setStart x).dram = s.dram := rfl
@[simp] theorem State.setStart_regul (s : State) (x : Start) : (s.setStart x).regul = s.regul := rfl
@[simp] theorem State.setStart_pkg (s : State) (x : Start) : (s.setStart x).pkg = s.pkg := rfl
@[simp] theorem State.setFuses_pending (s : State) (x : Fuses) : (s.setFuses x).pending = s.pending := rfl
@[simp] theorem State.setFuses_fresh (s : State) (x : Fuses) : (s.setFuses x).fresh = s.fresh := rfl
@[simp] theorem State.setFuses_out (s : State) (x : Fuses) : (s.setFuses x).out = s.out := rfl
@[simp] theorem State.setFuses_time (s : State) (x : Fuses) : (s.setFuses x).time = s.time := rfl
@[simp] theorem State.setFuses_start (s : State) (x : Fuses) : (s.setFuses x).start = s.start := rfl
@[simp] theorem State.setFuses_fuses (s : State) (x : Fuses) : (s.setFuses x).fuses = x := rfl
@[simp] theorem State.setFuses_flash (s : State) (x : Fuses) : (s.setFuses x).flash = s.flash := rfl
@[simp] theorem State.setFuses_sec (s : State) (x : Fuses) : (s.setFuses x).sec = s.sec := rfl
@[simp] theorem State.setFuses_od (s : State) (x : Fuses) : (s.setFuses x).od = s.od := rfl
@[simp] theorem State.setFuses_ctr (s : State) (x : Fuses) : (s.setFuses x).ctr = s.ctr := rfl
@[simp] theorem State.setFuses_logs (s : State) (x : Fuses) : (s.setFuses x).logs = s.logs := rfl
@[simp] theorem State.setFuses_tier (s : State) (x : Fuses) : (s.setFuses x).tier = s.tier := rfl
@[simp] theorem State.setFuses_und (s : State) (x : Fuses) : (s.setFuses x).und = s.und := rfl
@[simp] theorem State.setFuses_sess (s : State) (x : Fuses) : (s.setFuses x).sess = s.sess := rfl
@[simp] theorem State.setFuses_codec (s : State) (x : Fuses) : (s.setFuses x).codec = s.codec := rfl
@[simp] theorem State.setFuses_cmp (s : State) (x : Fuses) : (s.setFuses x).cmp = s.cmp := rfl
@[simp] theorem State.setFuses_queue (s : State) (x : Fuses) : (s.setFuses x).queue = s.queue := rfl
@[simp] theorem State.setFuses_share (s : State) (x : Fuses) : (s.setFuses x).share = s.share := rfl
@[simp] theorem State.setFuses_link (s : State) (x : Fuses) : (s.setFuses x).link = s.link := rfl
@[simp] theorem State.setFuses_dram (s : State) (x : Fuses) : (s.setFuses x).dram = s.dram := rfl
@[simp] theorem State.setFuses_regul (s : State) (x : Fuses) : (s.setFuses x).regul = s.regul := rfl
@[simp] theorem State.setFuses_pkg (s : State) (x : Fuses) : (s.setFuses x).pkg = s.pkg := rfl
@[simp] theorem State.setFlash_pending (s : State) (x : Flash) : (s.setFlash x).pending = s.pending := rfl
@[simp] theorem State.setFlash_fresh (s : State) (x : Flash) : (s.setFlash x).fresh = s.fresh := rfl
@[simp] theorem State.setFlash_out (s : State) (x : Flash) : (s.setFlash x).out = s.out := rfl
@[simp] theorem State.setFlash_time (s : State) (x : Flash) : (s.setFlash x).time = s.time := rfl
@[simp] theorem State.setFlash_start (s : State) (x : Flash) : (s.setFlash x).start = s.start := rfl
@[simp] theorem State.setFlash_fuses (s : State) (x : Flash) : (s.setFlash x).fuses = s.fuses := rfl
@[simp] theorem State.setFlash_flash (s : State) (x : Flash) : (s.setFlash x).flash = x := rfl
@[simp] theorem State.setFlash_sec (s : State) (x : Flash) : (s.setFlash x).sec = s.sec := rfl
@[simp] theorem State.setFlash_od (s : State) (x : Flash) : (s.setFlash x).od = s.od := rfl
@[simp] theorem State.setFlash_ctr (s : State) (x : Flash) : (s.setFlash x).ctr = s.ctr := rfl
@[simp] theorem State.setFlash_logs (s : State) (x : Flash) : (s.setFlash x).logs = s.logs := rfl
@[simp] theorem State.setFlash_tier (s : State) (x : Flash) : (s.setFlash x).tier = s.tier := rfl
@[simp] theorem State.setFlash_und (s : State) (x : Flash) : (s.setFlash x).und = s.und := rfl
@[simp] theorem State.setFlash_sess (s : State) (x : Flash) : (s.setFlash x).sess = s.sess := rfl
@[simp] theorem State.setFlash_codec (s : State) (x : Flash) : (s.setFlash x).codec = s.codec := rfl
@[simp] theorem State.setFlash_cmp (s : State) (x : Flash) : (s.setFlash x).cmp = s.cmp := rfl
@[simp] theorem State.setFlash_queue (s : State) (x : Flash) : (s.setFlash x).queue = s.queue := rfl
@[simp] theorem State.setFlash_share (s : State) (x : Flash) : (s.setFlash x).share = s.share := rfl
@[simp] theorem State.setFlash_link (s : State) (x : Flash) : (s.setFlash x).link = s.link := rfl
@[simp] theorem State.setFlash_dram (s : State) (x : Flash) : (s.setFlash x).dram = s.dram := rfl
@[simp] theorem State.setFlash_regul (s : State) (x : Flash) : (s.setFlash x).regul = s.regul := rfl
@[simp] theorem State.setFlash_pkg (s : State) (x : Flash) : (s.setFlash x).pkg = s.pkg := rfl
@[simp] theorem State.setSec_pending (s : State) (x : Security) : (s.setSec x).pending = s.pending := rfl
@[simp] theorem State.setSec_fresh (s : State) (x : Security) : (s.setSec x).fresh = s.fresh := rfl
@[simp] theorem State.setSec_out (s : State) (x : Security) : (s.setSec x).out = s.out := rfl
@[simp] theorem State.setSec_time (s : State) (x : Security) : (s.setSec x).time = s.time := rfl
@[simp] theorem State.setSec_start (s : State) (x : Security) : (s.setSec x).start = s.start := rfl
@[simp] theorem State.setSec_fuses (s : State) (x : Security) : (s.setSec x).fuses = s.fuses := rfl
@[simp] theorem State.setSec_flash (s : State) (x : Security) : (s.setSec x).flash = s.flash := rfl
@[simp] theorem State.setSec_sec (s : State) (x : Security) : (s.setSec x).sec = x := rfl
@[simp] theorem State.setSec_od (s : State) (x : Security) : (s.setSec x).od = s.od := rfl
@[simp] theorem State.setSec_ctr (s : State) (x : Security) : (s.setSec x).ctr = s.ctr := rfl
@[simp] theorem State.setSec_logs (s : State) (x : Security) : (s.setSec x).logs = s.logs := rfl
@[simp] theorem State.setSec_tier (s : State) (x : Security) : (s.setSec x).tier = s.tier := rfl
@[simp] theorem State.setSec_und (s : State) (x : Security) : (s.setSec x).und = s.und := rfl
@[simp] theorem State.setSec_sess (s : State) (x : Security) : (s.setSec x).sess = s.sess := rfl
@[simp] theorem State.setSec_codec (s : State) (x : Security) : (s.setSec x).codec = s.codec := rfl
@[simp] theorem State.setSec_cmp (s : State) (x : Security) : (s.setSec x).cmp = s.cmp := rfl
@[simp] theorem State.setSec_queue (s : State) (x : Security) : (s.setSec x).queue = s.queue := rfl
@[simp] theorem State.setSec_share (s : State) (x : Security) : (s.setSec x).share = s.share := rfl
@[simp] theorem State.setSec_link (s : State) (x : Security) : (s.setSec x).link = s.link := rfl
@[simp] theorem State.setSec_dram (s : State) (x : Security) : (s.setSec x).dram = s.dram := rfl
@[simp] theorem State.setSec_regul (s : State) (x : Security) : (s.setSec x).regul = s.regul := rfl
@[simp] theorem State.setSec_pkg (s : State) (x : Security) : (s.setSec x).pkg = s.pkg := rfl
@[simp] theorem State.setOd_pending (s : State) (x : Dict) : (s.setOd x).pending = s.pending := rfl
@[simp] theorem State.setOd_fresh (s : State) (x : Dict) : (s.setOd x).fresh = s.fresh := rfl
@[simp] theorem State.setOd_out (s : State) (x : Dict) : (s.setOd x).out = s.out := rfl
@[simp] theorem State.setOd_time (s : State) (x : Dict) : (s.setOd x).time = s.time := rfl
@[simp] theorem State.setOd_start (s : State) (x : Dict) : (s.setOd x).start = s.start := rfl
@[simp] theorem State.setOd_fuses (s : State) (x : Dict) : (s.setOd x).fuses = s.fuses := rfl
@[simp] theorem State.setOd_flash (s : State) (x : Dict) : (s.setOd x).flash = s.flash := rfl
@[simp] theorem State.setOd_sec (s : State) (x : Dict) : (s.setOd x).sec = s.sec := rfl
@[simp] theorem State.setOd_od (s : State) (x : Dict) : (s.setOd x).od = x := rfl
@[simp] theorem State.setOd_ctr (s : State) (x : Dict) : (s.setOd x).ctr = s.ctr := rfl
@[simp] theorem State.setOd_logs (s : State) (x : Dict) : (s.setOd x).logs = s.logs := rfl
@[simp] theorem State.setOd_tier (s : State) (x : Dict) : (s.setOd x).tier = s.tier := rfl
@[simp] theorem State.setOd_und (s : State) (x : Dict) : (s.setOd x).und = s.und := rfl
@[simp] theorem State.setOd_sess (s : State) (x : Dict) : (s.setOd x).sess = s.sess := rfl
@[simp] theorem State.setOd_codec (s : State) (x : Dict) : (s.setOd x).codec = s.codec := rfl
@[simp] theorem State.setOd_cmp (s : State) (x : Dict) : (s.setOd x).cmp = s.cmp := rfl
@[simp] theorem State.setOd_queue (s : State) (x : Dict) : (s.setOd x).queue = s.queue := rfl
@[simp] theorem State.setOd_share (s : State) (x : Dict) : (s.setOd x).share = s.share := rfl
@[simp] theorem State.setOd_link (s : State) (x : Dict) : (s.setOd x).link = s.link := rfl
@[simp] theorem State.setOd_dram (s : State) (x : Dict) : (s.setOd x).dram = s.dram := rfl
@[simp] theorem State.setOd_regul (s : State) (x : Dict) : (s.setOd x).regul = s.regul := rfl
@[simp] theorem State.setOd_pkg (s : State) (x : Dict) : (s.setOd x).pkg = s.pkg := rfl
@[simp] theorem State.setCtr_pending (s : State) (x : Counters) : (s.setCtr x).pending = s.pending := rfl
@[simp] theorem State.setCtr_fresh (s : State) (x : Counters) : (s.setCtr x).fresh = s.fresh := rfl
@[simp] theorem State.setCtr_out (s : State) (x : Counters) : (s.setCtr x).out = s.out := rfl
@[simp] theorem State.setCtr_time (s : State) (x : Counters) : (s.setCtr x).time = s.time := rfl
@[simp] theorem State.setCtr_start (s : State) (x : Counters) : (s.setCtr x).start = s.start := rfl
@[simp] theorem State.setCtr_fuses (s : State) (x : Counters) : (s.setCtr x).fuses = s.fuses := rfl
@[simp] theorem State.setCtr_flash (s : State) (x : Counters) : (s.setCtr x).flash = s.flash := rfl
@[simp] theorem State.setCtr_sec (s : State) (x : Counters) : (s.setCtr x).sec = s.sec := rfl
@[simp] theorem State.setCtr_od (s : State) (x : Counters) : (s.setCtr x).od = s.od := rfl
@[simp] theorem State.setCtr_ctr (s : State) (x : Counters) : (s.setCtr x).ctr = x := rfl
@[simp] theorem State.setCtr_logs (s : State) (x : Counters) : (s.setCtr x).logs = s.logs := rfl
@[simp] theorem State.setCtr_tier (s : State) (x : Counters) : (s.setCtr x).tier = s.tier := rfl
@[simp] theorem State.setCtr_und (s : State) (x : Counters) : (s.setCtr x).und = s.und := rfl
@[simp] theorem State.setCtr_sess (s : State) (x : Counters) : (s.setCtr x).sess = s.sess := rfl
@[simp] theorem State.setCtr_codec (s : State) (x : Counters) : (s.setCtr x).codec = s.codec := rfl
@[simp] theorem State.setCtr_cmp (s : State) (x : Counters) : (s.setCtr x).cmp = s.cmp := rfl
@[simp] theorem State.setCtr_queue (s : State) (x : Counters) : (s.setCtr x).queue = s.queue := rfl
@[simp] theorem State.setCtr_share (s : State) (x : Counters) : (s.setCtr x).share = s.share := rfl
@[simp] theorem State.setCtr_link (s : State) (x : Counters) : (s.setCtr x).link = s.link := rfl
@[simp] theorem State.setCtr_dram (s : State) (x : Counters) : (s.setCtr x).dram = s.dram := rfl
@[simp] theorem State.setCtr_regul (s : State) (x : Counters) : (s.setCtr x).regul = s.regul := rfl
@[simp] theorem State.setCtr_pkg (s : State) (x : Counters) : (s.setCtr x).pkg = s.pkg := rfl
@[simp] theorem State.setLogs_pending (s : State) (x : Logs) : (s.setLogs x).pending = s.pending := rfl
@[simp] theorem State.setLogs_fresh (s : State) (x : Logs) : (s.setLogs x).fresh = s.fresh := rfl
@[simp] theorem State.setLogs_out (s : State) (x : Logs) : (s.setLogs x).out = s.out := rfl
@[simp] theorem State.setLogs_time (s : State) (x : Logs) : (s.setLogs x).time = s.time := rfl
@[simp] theorem State.setLogs_start (s : State) (x : Logs) : (s.setLogs x).start = s.start := rfl
@[simp] theorem State.setLogs_fuses (s : State) (x : Logs) : (s.setLogs x).fuses = s.fuses := rfl
@[simp] theorem State.setLogs_flash (s : State) (x : Logs) : (s.setLogs x).flash = s.flash := rfl
@[simp] theorem State.setLogs_sec (s : State) (x : Logs) : (s.setLogs x).sec = s.sec := rfl
@[simp] theorem State.setLogs_od (s : State) (x : Logs) : (s.setLogs x).od = s.od := rfl
@[simp] theorem State.setLogs_ctr (s : State) (x : Logs) : (s.setLogs x).ctr = s.ctr := rfl
@[simp] theorem State.setLogs_logs (s : State) (x : Logs) : (s.setLogs x).logs = x := rfl
@[simp] theorem State.setLogs_tier (s : State) (x : Logs) : (s.setLogs x).tier = s.tier := rfl
@[simp] theorem State.setLogs_und (s : State) (x : Logs) : (s.setLogs x).und = s.und := rfl
@[simp] theorem State.setLogs_sess (s : State) (x : Logs) : (s.setLogs x).sess = s.sess := rfl
@[simp] theorem State.setLogs_codec (s : State) (x : Logs) : (s.setLogs x).codec = s.codec := rfl
@[simp] theorem State.setLogs_cmp (s : State) (x : Logs) : (s.setLogs x).cmp = s.cmp := rfl
@[simp] theorem State.setLogs_queue (s : State) (x : Logs) : (s.setLogs x).queue = s.queue := rfl
@[simp] theorem State.setLogs_share (s : State) (x : Logs) : (s.setLogs x).share = s.share := rfl
@[simp] theorem State.setLogs_link (s : State) (x : Logs) : (s.setLogs x).link = s.link := rfl
@[simp] theorem State.setLogs_dram (s : State) (x : Logs) : (s.setLogs x).dram = s.dram := rfl
@[simp] theorem State.setLogs_regul (s : State) (x : Logs) : (s.setLogs x).regul = s.regul := rfl
@[simp] theorem State.setLogs_pkg (s : State) (x : Logs) : (s.setLogs x).pkg = s.pkg := rfl
@[simp] theorem State.setTier_pending (s : State) (x : Tiers) : (s.setTier x).pending = s.pending := rfl
@[simp] theorem State.setTier_fresh (s : State) (x : Tiers) : (s.setTier x).fresh = s.fresh := rfl
@[simp] theorem State.setTier_out (s : State) (x : Tiers) : (s.setTier x).out = s.out := rfl
@[simp] theorem State.setTier_time (s : State) (x : Tiers) : (s.setTier x).time = s.time := rfl
@[simp] theorem State.setTier_start (s : State) (x : Tiers) : (s.setTier x).start = s.start := rfl
@[simp] theorem State.setTier_fuses (s : State) (x : Tiers) : (s.setTier x).fuses = s.fuses := rfl
@[simp] theorem State.setTier_flash (s : State) (x : Tiers) : (s.setTier x).flash = s.flash := rfl
@[simp] theorem State.setTier_sec (s : State) (x : Tiers) : (s.setTier x).sec = s.sec := rfl
@[simp] theorem State.setTier_od (s : State) (x : Tiers) : (s.setTier x).od = s.od := rfl
@[simp] theorem State.setTier_ctr (s : State) (x : Tiers) : (s.setTier x).ctr = s.ctr := rfl
@[simp] theorem State.setTier_logs (s : State) (x : Tiers) : (s.setTier x).logs = s.logs := rfl
@[simp] theorem State.setTier_tier (s : State) (x : Tiers) : (s.setTier x).tier = x := rfl
@[simp] theorem State.setTier_und (s : State) (x : Tiers) : (s.setTier x).und = s.und := rfl
@[simp] theorem State.setTier_sess (s : State) (x : Tiers) : (s.setTier x).sess = s.sess := rfl
@[simp] theorem State.setTier_codec (s : State) (x : Tiers) : (s.setTier x).codec = s.codec := rfl
@[simp] theorem State.setTier_cmp (s : State) (x : Tiers) : (s.setTier x).cmp = s.cmp := rfl
@[simp] theorem State.setTier_queue (s : State) (x : Tiers) : (s.setTier x).queue = s.queue := rfl
@[simp] theorem State.setTier_share (s : State) (x : Tiers) : (s.setTier x).share = s.share := rfl
@[simp] theorem State.setTier_link (s : State) (x : Tiers) : (s.setTier x).link = s.link := rfl
@[simp] theorem State.setTier_dram (s : State) (x : Tiers) : (s.setTier x).dram = s.dram := rfl
@[simp] theorem State.setTier_regul (s : State) (x : Tiers) : (s.setTier x).regul = s.regul := rfl
@[simp] theorem State.setTier_pkg (s : State) (x : Tiers) : (s.setTier x).pkg = s.pkg := rfl
@[simp] theorem State.setUnd_pending (s : State) (x : Underlay) : (s.setUnd x).pending = s.pending := rfl
@[simp] theorem State.setUnd_fresh (s : State) (x : Underlay) : (s.setUnd x).fresh = s.fresh := rfl
@[simp] theorem State.setUnd_out (s : State) (x : Underlay) : (s.setUnd x).out = s.out := rfl
@[simp] theorem State.setUnd_time (s : State) (x : Underlay) : (s.setUnd x).time = s.time := rfl
@[simp] theorem State.setUnd_start (s : State) (x : Underlay) : (s.setUnd x).start = s.start := rfl
@[simp] theorem State.setUnd_fuses (s : State) (x : Underlay) : (s.setUnd x).fuses = s.fuses := rfl
@[simp] theorem State.setUnd_flash (s : State) (x : Underlay) : (s.setUnd x).flash = s.flash := rfl
@[simp] theorem State.setUnd_sec (s : State) (x : Underlay) : (s.setUnd x).sec = s.sec := rfl
@[simp] theorem State.setUnd_od (s : State) (x : Underlay) : (s.setUnd x).od = s.od := rfl
@[simp] theorem State.setUnd_ctr (s : State) (x : Underlay) : (s.setUnd x).ctr = s.ctr := rfl
@[simp] theorem State.setUnd_logs (s : State) (x : Underlay) : (s.setUnd x).logs = s.logs := rfl
@[simp] theorem State.setUnd_tier (s : State) (x : Underlay) : (s.setUnd x).tier = s.tier := rfl
@[simp] theorem State.setUnd_und (s : State) (x : Underlay) : (s.setUnd x).und = x := rfl
@[simp] theorem State.setUnd_sess (s : State) (x : Underlay) : (s.setUnd x).sess = s.sess := rfl
@[simp] theorem State.setUnd_codec (s : State) (x : Underlay) : (s.setUnd x).codec = s.codec := rfl
@[simp] theorem State.setUnd_cmp (s : State) (x : Underlay) : (s.setUnd x).cmp = s.cmp := rfl
@[simp] theorem State.setUnd_queue (s : State) (x : Underlay) : (s.setUnd x).queue = s.queue := rfl
@[simp] theorem State.setUnd_share (s : State) (x : Underlay) : (s.setUnd x).share = s.share := rfl
@[simp] theorem State.setUnd_link (s : State) (x : Underlay) : (s.setUnd x).link = s.link := rfl
@[simp] theorem State.setUnd_dram (s : State) (x : Underlay) : (s.setUnd x).dram = s.dram := rfl
@[simp] theorem State.setUnd_regul (s : State) (x : Underlay) : (s.setUnd x).regul = s.regul := rfl
@[simp] theorem State.setUnd_pkg (s : State) (x : Underlay) : (s.setUnd x).pkg = s.pkg := rfl
@[simp] theorem State.setSess_pending (s : State) (x : Sessions) : (s.setSess x).pending = s.pending := rfl
@[simp] theorem State.setSess_fresh (s : State) (x : Sessions) : (s.setSess x).fresh = s.fresh := rfl
@[simp] theorem State.setSess_out (s : State) (x : Sessions) : (s.setSess x).out = s.out := rfl
@[simp] theorem State.setSess_time (s : State) (x : Sessions) : (s.setSess x).time = s.time := rfl
@[simp] theorem State.setSess_start (s : State) (x : Sessions) : (s.setSess x).start = s.start := rfl
@[simp] theorem State.setSess_fuses (s : State) (x : Sessions) : (s.setSess x).fuses = s.fuses := rfl
@[simp] theorem State.setSess_flash (s : State) (x : Sessions) : (s.setSess x).flash = s.flash := rfl
@[simp] theorem State.setSess_sec (s : State) (x : Sessions) : (s.setSess x).sec = s.sec := rfl
@[simp] theorem State.setSess_od (s : State) (x : Sessions) : (s.setSess x).od = s.od := rfl
@[simp] theorem State.setSess_ctr (s : State) (x : Sessions) : (s.setSess x).ctr = s.ctr := rfl
@[simp] theorem State.setSess_logs (s : State) (x : Sessions) : (s.setSess x).logs = s.logs := rfl
@[simp] theorem State.setSess_tier (s : State) (x : Sessions) : (s.setSess x).tier = s.tier := rfl
@[simp] theorem State.setSess_und (s : State) (x : Sessions) : (s.setSess x).und = s.und := rfl
@[simp] theorem State.setSess_sess (s : State) (x : Sessions) : (s.setSess x).sess = x := rfl
@[simp] theorem State.setSess_codec (s : State) (x : Sessions) : (s.setSess x).codec = s.codec := rfl
@[simp] theorem State.setSess_cmp (s : State) (x : Sessions) : (s.setSess x).cmp = s.cmp := rfl
@[simp] theorem State.setSess_queue (s : State) (x : Sessions) : (s.setSess x).queue = s.queue := rfl
@[simp] theorem State.setSess_share (s : State) (x : Sessions) : (s.setSess x).share = s.share := rfl
@[simp] theorem State.setSess_link (s : State) (x : Sessions) : (s.setSess x).link = s.link := rfl
@[simp] theorem State.setSess_dram (s : State) (x : Sessions) : (s.setSess x).dram = s.dram := rfl
@[simp] theorem State.setSess_regul (s : State) (x : Sessions) : (s.setSess x).regul = s.regul := rfl
@[simp] theorem State.setSess_pkg (s : State) (x : Sessions) : (s.setSess x).pkg = s.pkg := rfl
@[simp] theorem State.setCodec_pending (s : State) (x : Codec) : (s.setCodec x).pending = s.pending := rfl
@[simp] theorem State.setCodec_fresh (s : State) (x : Codec) : (s.setCodec x).fresh = s.fresh := rfl
@[simp] theorem State.setCodec_out (s : State) (x : Codec) : (s.setCodec x).out = s.out := rfl
@[simp] theorem State.setCodec_time (s : State) (x : Codec) : (s.setCodec x).time = s.time := rfl
@[simp] theorem State.setCodec_start (s : State) (x : Codec) : (s.setCodec x).start = s.start := rfl
@[simp] theorem State.setCodec_fuses (s : State) (x : Codec) : (s.setCodec x).fuses = s.fuses := rfl
@[simp] theorem State.setCodec_flash (s : State) (x : Codec) : (s.setCodec x).flash = s.flash := rfl
@[simp] theorem State.setCodec_sec (s : State) (x : Codec) : (s.setCodec x).sec = s.sec := rfl
@[simp] theorem State.setCodec_od (s : State) (x : Codec) : (s.setCodec x).od = s.od := rfl
@[simp] theorem State.setCodec_ctr (s : State) (x : Codec) : (s.setCodec x).ctr = s.ctr := rfl
@[simp] theorem State.setCodec_logs (s : State) (x : Codec) : (s.setCodec x).logs = s.logs := rfl
@[simp] theorem State.setCodec_tier (s : State) (x : Codec) : (s.setCodec x).tier = s.tier := rfl
@[simp] theorem State.setCodec_und (s : State) (x : Codec) : (s.setCodec x).und = s.und := rfl
@[simp] theorem State.setCodec_sess (s : State) (x : Codec) : (s.setCodec x).sess = s.sess := rfl
@[simp] theorem State.setCodec_codec (s : State) (x : Codec) : (s.setCodec x).codec = x := rfl
@[simp] theorem State.setCodec_cmp (s : State) (x : Codec) : (s.setCodec x).cmp = s.cmp := rfl
@[simp] theorem State.setCodec_queue (s : State) (x : Codec) : (s.setCodec x).queue = s.queue := rfl
@[simp] theorem State.setCodec_share (s : State) (x : Codec) : (s.setCodec x).share = s.share := rfl
@[simp] theorem State.setCodec_link (s : State) (x : Codec) : (s.setCodec x).link = s.link := rfl
@[simp] theorem State.setCodec_dram (s : State) (x : Codec) : (s.setCodec x).dram = s.dram := rfl
@[simp] theorem State.setCodec_regul (s : State) (x : Codec) : (s.setCodec x).regul = s.regul := rfl
@[simp] theorem State.setCodec_pkg (s : State) (x : Codec) : (s.setCodec x).pkg = s.pkg := rfl
@[simp] theorem State.setCmp_pending (s : State) (x : Compute) : (s.setCmp x).pending = s.pending := rfl
@[simp] theorem State.setCmp_fresh (s : State) (x : Compute) : (s.setCmp x).fresh = s.fresh := rfl
@[simp] theorem State.setCmp_out (s : State) (x : Compute) : (s.setCmp x).out = s.out := rfl
@[simp] theorem State.setCmp_time (s : State) (x : Compute) : (s.setCmp x).time = s.time := rfl
@[simp] theorem State.setCmp_start (s : State) (x : Compute) : (s.setCmp x).start = s.start := rfl
@[simp] theorem State.setCmp_fuses (s : State) (x : Compute) : (s.setCmp x).fuses = s.fuses := rfl
@[simp] theorem State.setCmp_flash (s : State) (x : Compute) : (s.setCmp x).flash = s.flash := rfl
@[simp] theorem State.setCmp_sec (s : State) (x : Compute) : (s.setCmp x).sec = s.sec := rfl
@[simp] theorem State.setCmp_od (s : State) (x : Compute) : (s.setCmp x).od = s.od := rfl
@[simp] theorem State.setCmp_ctr (s : State) (x : Compute) : (s.setCmp x).ctr = s.ctr := rfl
@[simp] theorem State.setCmp_logs (s : State) (x : Compute) : (s.setCmp x).logs = s.logs := rfl
@[simp] theorem State.setCmp_tier (s : State) (x : Compute) : (s.setCmp x).tier = s.tier := rfl
@[simp] theorem State.setCmp_und (s : State) (x : Compute) : (s.setCmp x).und = s.und := rfl
@[simp] theorem State.setCmp_sess (s : State) (x : Compute) : (s.setCmp x).sess = s.sess := rfl
@[simp] theorem State.setCmp_codec (s : State) (x : Compute) : (s.setCmp x).codec = s.codec := rfl
@[simp] theorem State.setCmp_cmp (s : State) (x : Compute) : (s.setCmp x).cmp = x := rfl
@[simp] theorem State.setCmp_queue (s : State) (x : Compute) : (s.setCmp x).queue = s.queue := rfl
@[simp] theorem State.setCmp_share (s : State) (x : Compute) : (s.setCmp x).share = s.share := rfl
@[simp] theorem State.setCmp_link (s : State) (x : Compute) : (s.setCmp x).link = s.link := rfl
@[simp] theorem State.setCmp_dram (s : State) (x : Compute) : (s.setCmp x).dram = s.dram := rfl
@[simp] theorem State.setCmp_regul (s : State) (x : Compute) : (s.setCmp x).regul = s.regul := rfl
@[simp] theorem State.setCmp_pkg (s : State) (x : Compute) : (s.setCmp x).pkg = s.pkg := rfl
@[simp] theorem State.setQueue_pending (s : State) (x : Queues) : (s.setQueue x).pending = s.pending := rfl
@[simp] theorem State.setQueue_fresh (s : State) (x : Queues) : (s.setQueue x).fresh = s.fresh := rfl
@[simp] theorem State.setQueue_out (s : State) (x : Queues) : (s.setQueue x).out = s.out := rfl
@[simp] theorem State.setQueue_time (s : State) (x : Queues) : (s.setQueue x).time = s.time := rfl
@[simp] theorem State.setQueue_start (s : State) (x : Queues) : (s.setQueue x).start = s.start := rfl
@[simp] theorem State.setQueue_fuses (s : State) (x : Queues) : (s.setQueue x).fuses = s.fuses := rfl
@[simp] theorem State.setQueue_flash (s : State) (x : Queues) : (s.setQueue x).flash = s.flash := rfl
@[simp] theorem State.setQueue_sec (s : State) (x : Queues) : (s.setQueue x).sec = s.sec := rfl
@[simp] theorem State.setQueue_od (s : State) (x : Queues) : (s.setQueue x).od = s.od := rfl
@[simp] theorem State.setQueue_ctr (s : State) (x : Queues) : (s.setQueue x).ctr = s.ctr := rfl
@[simp] theorem State.setQueue_logs (s : State) (x : Queues) : (s.setQueue x).logs = s.logs := rfl
@[simp] theorem State.setQueue_tier (s : State) (x : Queues) : (s.setQueue x).tier = s.tier := rfl
@[simp] theorem State.setQueue_und (s : State) (x : Queues) : (s.setQueue x).und = s.und := rfl
@[simp] theorem State.setQueue_sess (s : State) (x : Queues) : (s.setQueue x).sess = s.sess := rfl
@[simp] theorem State.setQueue_codec (s : State) (x : Queues) : (s.setQueue x).codec = s.codec := rfl
@[simp] theorem State.setQueue_cmp (s : State) (x : Queues) : (s.setQueue x).cmp = s.cmp := rfl
@[simp] theorem State.setQueue_queue (s : State) (x : Queues) : (s.setQueue x).queue = x := rfl
@[simp] theorem State.setQueue_share (s : State) (x : Queues) : (s.setQueue x).share = s.share := rfl
@[simp] theorem State.setQueue_link (s : State) (x : Queues) : (s.setQueue x).link = s.link := rfl
@[simp] theorem State.setQueue_dram (s : State) (x : Queues) : (s.setQueue x).dram = s.dram := rfl
@[simp] theorem State.setQueue_regul (s : State) (x : Queues) : (s.setQueue x).regul = s.regul := rfl
@[simp] theorem State.setQueue_pkg (s : State) (x : Queues) : (s.setQueue x).pkg = s.pkg := rfl
@[simp] theorem State.setShare_pending (s : State) (x : Shares) : (s.setShare x).pending = s.pending := rfl
@[simp] theorem State.setShare_fresh (s : State) (x : Shares) : (s.setShare x).fresh = s.fresh := rfl
@[simp] theorem State.setShare_out (s : State) (x : Shares) : (s.setShare x).out = s.out := rfl
@[simp] theorem State.setShare_time (s : State) (x : Shares) : (s.setShare x).time = s.time := rfl
@[simp] theorem State.setShare_start (s : State) (x : Shares) : (s.setShare x).start = s.start := rfl
@[simp] theorem State.setShare_fuses (s : State) (x : Shares) : (s.setShare x).fuses = s.fuses := rfl
@[simp] theorem State.setShare_flash (s : State) (x : Shares) : (s.setShare x).flash = s.flash := rfl
@[simp] theorem State.setShare_sec (s : State) (x : Shares) : (s.setShare x).sec = s.sec := rfl
@[simp] theorem State.setShare_od (s : State) (x : Shares) : (s.setShare x).od = s.od := rfl
@[simp] theorem State.setShare_ctr (s : State) (x : Shares) : (s.setShare x).ctr = s.ctr := rfl
@[simp] theorem State.setShare_logs (s : State) (x : Shares) : (s.setShare x).logs = s.logs := rfl
@[simp] theorem State.setShare_tier (s : State) (x : Shares) : (s.setShare x).tier = s.tier := rfl
@[simp] theorem State.setShare_und (s : State) (x : Shares) : (s.setShare x).und = s.und := rfl
@[simp] theorem State.setShare_sess (s : State) (x : Shares) : (s.setShare x).sess = s.sess := rfl
@[simp] theorem State.setShare_codec (s : State) (x : Shares) : (s.setShare x).codec = s.codec := rfl
@[simp] theorem State.setShare_cmp (s : State) (x : Shares) : (s.setShare x).cmp = s.cmp := rfl
@[simp] theorem State.setShare_queue (s : State) (x : Shares) : (s.setShare x).queue = s.queue := rfl
@[simp] theorem State.setShare_share (s : State) (x : Shares) : (s.setShare x).share = x := rfl
@[simp] theorem State.setShare_link (s : State) (x : Shares) : (s.setShare x).link = s.link := rfl
@[simp] theorem State.setShare_dram (s : State) (x : Shares) : (s.setShare x).dram = s.dram := rfl
@[simp] theorem State.setShare_regul (s : State) (x : Shares) : (s.setShare x).regul = s.regul := rfl
@[simp] theorem State.setShare_pkg (s : State) (x : Shares) : (s.setShare x).pkg = s.pkg := rfl
@[simp] theorem State.setLink_pending (s : State) (x : Links) : (s.setLink x).pending = s.pending := rfl
@[simp] theorem State.setLink_fresh (s : State) (x : Links) : (s.setLink x).fresh = s.fresh := rfl
@[simp] theorem State.setLink_out (s : State) (x : Links) : (s.setLink x).out = s.out := rfl
@[simp] theorem State.setLink_time (s : State) (x : Links) : (s.setLink x).time = s.time := rfl
@[simp] theorem State.setLink_start (s : State) (x : Links) : (s.setLink x).start = s.start := rfl
@[simp] theorem State.setLink_fuses (s : State) (x : Links) : (s.setLink x).fuses = s.fuses := rfl
@[simp] theorem State.setLink_flash (s : State) (x : Links) : (s.setLink x).flash = s.flash := rfl
@[simp] theorem State.setLink_sec (s : State) (x : Links) : (s.setLink x).sec = s.sec := rfl
@[simp] theorem State.setLink_od (s : State) (x : Links) : (s.setLink x).od = s.od := rfl
@[simp] theorem State.setLink_ctr (s : State) (x : Links) : (s.setLink x).ctr = s.ctr := rfl
@[simp] theorem State.setLink_logs (s : State) (x : Links) : (s.setLink x).logs = s.logs := rfl
@[simp] theorem State.setLink_tier (s : State) (x : Links) : (s.setLink x).tier = s.tier := rfl
@[simp] theorem State.setLink_und (s : State) (x : Links) : (s.setLink x).und = s.und := rfl
@[simp] theorem State.setLink_sess (s : State) (x : Links) : (s.setLink x).sess = s.sess := rfl
@[simp] theorem State.setLink_codec (s : State) (x : Links) : (s.setLink x).codec = s.codec := rfl
@[simp] theorem State.setLink_cmp (s : State) (x : Links) : (s.setLink x).cmp = s.cmp := rfl
@[simp] theorem State.setLink_queue (s : State) (x : Links) : (s.setLink x).queue = s.queue := rfl
@[simp] theorem State.setLink_share (s : State) (x : Links) : (s.setLink x).share = s.share := rfl
@[simp] theorem State.setLink_link (s : State) (x : Links) : (s.setLink x).link = x := rfl
@[simp] theorem State.setLink_dram (s : State) (x : Links) : (s.setLink x).dram = s.dram := rfl
@[simp] theorem State.setLink_regul (s : State) (x : Links) : (s.setLink x).regul = s.regul := rfl
@[simp] theorem State.setLink_pkg (s : State) (x : Links) : (s.setLink x).pkg = s.pkg := rfl
@[simp] theorem State.setDram_pending (s : State) (x : Dram) : (s.setDram x).pending = s.pending := rfl
@[simp] theorem State.setDram_fresh (s : State) (x : Dram) : (s.setDram x).fresh = s.fresh := rfl
@[simp] theorem State.setDram_out (s : State) (x : Dram) : (s.setDram x).out = s.out := rfl
@[simp] theorem State.setDram_time (s : State) (x : Dram) : (s.setDram x).time = s.time := rfl
@[simp] theorem State.setDram_start (s : State) (x : Dram) : (s.setDram x).start = s.start := rfl
@[simp] theorem State.setDram_fuses (s : State) (x : Dram) : (s.setDram x).fuses = s.fuses := rfl
@[simp] theorem State.setDram_flash (s : State) (x : Dram) : (s.setDram x).flash = s.flash := rfl
@[simp] theorem State.setDram_sec (s : State) (x : Dram) : (s.setDram x).sec = s.sec := rfl
@[simp] theorem State.setDram_od (s : State) (x : Dram) : (s.setDram x).od = s.od := rfl
@[simp] theorem State.setDram_ctr (s : State) (x : Dram) : (s.setDram x).ctr = s.ctr := rfl
@[simp] theorem State.setDram_logs (s : State) (x : Dram) : (s.setDram x).logs = s.logs := rfl
@[simp] theorem State.setDram_tier (s : State) (x : Dram) : (s.setDram x).tier = s.tier := rfl
@[simp] theorem State.setDram_und (s : State) (x : Dram) : (s.setDram x).und = s.und := rfl
@[simp] theorem State.setDram_sess (s : State) (x : Dram) : (s.setDram x).sess = s.sess := rfl
@[simp] theorem State.setDram_codec (s : State) (x : Dram) : (s.setDram x).codec = s.codec := rfl
@[simp] theorem State.setDram_cmp (s : State) (x : Dram) : (s.setDram x).cmp = s.cmp := rfl
@[simp] theorem State.setDram_queue (s : State) (x : Dram) : (s.setDram x).queue = s.queue := rfl
@[simp] theorem State.setDram_share (s : State) (x : Dram) : (s.setDram x).share = s.share := rfl
@[simp] theorem State.setDram_link (s : State) (x : Dram) : (s.setDram x).link = s.link := rfl
@[simp] theorem State.setDram_dram (s : State) (x : Dram) : (s.setDram x).dram = x := rfl
@[simp] theorem State.setDram_regul (s : State) (x : Dram) : (s.setDram x).regul = s.regul := rfl
@[simp] theorem State.setDram_pkg (s : State) (x : Dram) : (s.setDram x).pkg = s.pkg := rfl
@[simp] theorem State.setRegul_pending (s : State) (x : Regulator) : (s.setRegul x).pending = s.pending := rfl
@[simp] theorem State.setRegul_fresh (s : State) (x : Regulator) : (s.setRegul x).fresh = s.fresh := rfl
@[simp] theorem State.setRegul_out (s : State) (x : Regulator) : (s.setRegul x).out = s.out := rfl
@[simp] theorem State.setRegul_time (s : State) (x : Regulator) : (s.setRegul x).time = s.time := rfl
@[simp] theorem State.setRegul_start (s : State) (x : Regulator) : (s.setRegul x).start = s.start := rfl
@[simp] theorem State.setRegul_fuses (s : State) (x : Regulator) : (s.setRegul x).fuses = s.fuses := rfl
@[simp] theorem State.setRegul_flash (s : State) (x : Regulator) : (s.setRegul x).flash = s.flash := rfl
@[simp] theorem State.setRegul_sec (s : State) (x : Regulator) : (s.setRegul x).sec = s.sec := rfl
@[simp] theorem State.setRegul_od (s : State) (x : Regulator) : (s.setRegul x).od = s.od := rfl
@[simp] theorem State.setRegul_ctr (s : State) (x : Regulator) : (s.setRegul x).ctr = s.ctr := rfl
@[simp] theorem State.setRegul_logs (s : State) (x : Regulator) : (s.setRegul x).logs = s.logs := rfl
@[simp] theorem State.setRegul_tier (s : State) (x : Regulator) : (s.setRegul x).tier = s.tier := rfl
@[simp] theorem State.setRegul_und (s : State) (x : Regulator) : (s.setRegul x).und = s.und := rfl
@[simp] theorem State.setRegul_sess (s : State) (x : Regulator) : (s.setRegul x).sess = s.sess := rfl
@[simp] theorem State.setRegul_codec (s : State) (x : Regulator) : (s.setRegul x).codec = s.codec := rfl
@[simp] theorem State.setRegul_cmp (s : State) (x : Regulator) : (s.setRegul x).cmp = s.cmp := rfl
@[simp] theorem State.setRegul_queue (s : State) (x : Regulator) : (s.setRegul x).queue = s.queue := rfl
@[simp] theorem State.setRegul_share (s : State) (x : Regulator) : (s.setRegul x).share = s.share := rfl
@[simp] theorem State.setRegul_link (s : State) (x : Regulator) : (s.setRegul x).link = s.link := rfl
@[simp] theorem State.setRegul_dram (s : State) (x : Regulator) : (s.setRegul x).dram = s.dram := rfl
@[simp] theorem State.setRegul_regul (s : State) (x : Regulator) : (s.setRegul x).regul = x := rfl
@[simp] theorem State.setRegul_pkg (s : State) (x : Regulator) : (s.setRegul x).pkg = s.pkg := rfl
@[simp] theorem State.setPkg_pending (s : State) (x : Package) : (s.setPkg x).pending = s.pending := rfl
@[simp] theorem State.setPkg_fresh (s : State) (x : Package) : (s.setPkg x).fresh = s.fresh := rfl
@[simp] theorem State.setPkg_out (s : State) (x : Package) : (s.setPkg x).out = s.out := rfl
@[simp] theorem State.setPkg_time (s : State) (x : Package) : (s.setPkg x).time = s.time := rfl
@[simp] theorem State.setPkg_start (s : State) (x : Package) : (s.setPkg x).start = s.start := rfl
@[simp] theorem State.setPkg_fuses (s : State) (x : Package) : (s.setPkg x).fuses = s.fuses := rfl
@[simp] theorem State.setPkg_flash (s : State) (x : Package) : (s.setPkg x).flash = s.flash := rfl
@[simp] theorem State.setPkg_sec (s : State) (x : Package) : (s.setPkg x).sec = s.sec := rfl
@[simp] theorem State.setPkg_od (s : State) (x : Package) : (s.setPkg x).od = s.od := rfl
@[simp] theorem State.setPkg_ctr (s : State) (x : Package) : (s.setPkg x).ctr = s.ctr := rfl
@[simp] theorem State.setPkg_logs (s : State) (x : Package) : (s.setPkg x).logs = s.logs := rfl
@[simp] theorem State.setPkg_tier (s : State) (x : Package) : (s.setPkg x).tier = s.tier := rfl
@[simp] theorem State.setPkg_und (s : State) (x : Package) : (s.setPkg x).und = s.und := rfl
@[simp] theorem State.setPkg_sess (s : State) (x : Package) : (s.setPkg x).sess = s.sess := rfl
@[simp] theorem State.setPkg_codec (s : State) (x : Package) : (s.setPkg x).codec = s.codec := rfl
@[simp] theorem State.setPkg_cmp (s : State) (x : Package) : (s.setPkg x).cmp = s.cmp := rfl
@[simp] theorem State.setPkg_queue (s : State) (x : Package) : (s.setPkg x).queue = s.queue := rfl
@[simp] theorem State.setPkg_share (s : State) (x : Package) : (s.setPkg x).share = s.share := rfl
@[simp] theorem State.setPkg_link (s : State) (x : Package) : (s.setPkg x).link = s.link := rfl
@[simp] theorem State.setPkg_dram (s : State) (x : Package) : (s.setPkg x).dram = s.dram := rfl
@[simp] theorem State.setPkg_regul (s : State) (x : Package) : (s.setPkg x).regul = s.regul := rfl
@[simp] theorem State.setPkg_pkg (s : State) (x : Package) : (s.setPkg x).pkg = x := rfl

end Sys2Proof.Machine
end

