-- ==== Sys2Proof/Laws/Ops.lean ====
section
/-! SUPPORT. What the shared operations can do, said once: events, counters, emissions, the ends of commands, and a rebuild. -/

namespace Sys2Proof.Machine

/-- A fold of operations that change the logs alone changes the logs alone. -/
theorem foldl_setLogs {α : Type} (f : State → α → State) (hf : ∀ s a, ∃ l, f s a = s.setLogs l) (xs : List α) (s : State) :
    ∃ l, xs.foldl f s = s.setLogs l := by
  induction xs generalizing s with
  | nil => exact ⟨s.logs, rfl⟩
  | cons x xs ih =>
    obtain ⟨l, hl⟩ := hf s x
    obtain ⟨l2, h2⟩ := ih (f s x)
    refine ⟨l2, ?_⟩
    rw [List.foldl_cons, h2, hl]
    rfl

/-- An event entered in a log changes the logs alone. -/
theorem enterLog_eq (key code : Nat) (part : Option Nat) (detail : Nat) (s : State) :
    ∃ l, enterLog key code part detail s = s.setLogs l := ⟨_, rfl⟩

/-- An event changes the logs alone. -/
theorem raise_eq (code : Nat) (part : Option Nat) (detail : Nat) (s : State) : ∃ l, raise code part detail s = s.setLogs l := by
  unfold raise
  split
  · dsimp only
    split <;> split <;> exact ⟨_, rfl⟩
  · dsimp only
    split
    · obtain ⟨l, h⟩ := foldl_setLogs (fun t p => enterLog p code none detail t) (fun s a => enterLog_eq a code none detail s)
        ((List.range 64).filter fun p => partState (enterLog 64 code none detail s) p != 0) (enterLog 64 code none detail s)
      exact ⟨l, h⟩
    · exact ⟨_, rfl⟩

@[simp] theorem raise_pending (code : Nat) (part : Option Nat) (detail : Nat) (s : State) : (raise code part detail s).pending = s.pending := by
  obtain ⟨l, h⟩ := raise_eq code part detail s; rw [h]; rfl
@[simp] theorem raise_fresh (code : Nat) (part : Option Nat) (detail : Nat) (s : State) : (raise code part detail s).fresh = s.fresh := by
  obtain ⟨l, h⟩ := raise_eq code part detail s; rw [h]; rfl
@[simp] theorem raise_out (code : Nat) (part : Option Nat) (detail : Nat) (s : State) : (raise code part detail s).out = s.out := by
  obtain ⟨l, h⟩ := raise_eq code part detail s; rw [h]; rfl
@[simp] theorem raise_time (code : Nat) (part : Option Nat) (detail : Nat) (s : State) : (raise code part detail s).time = s.time := by
  obtain ⟨l, h⟩ := raise_eq code part detail s; rw [h]; rfl
@[simp] theorem raise_start (code : Nat) (part : Option Nat) (detail : Nat) (s : State) : (raise code part detail s).start = s.start := by
  obtain ⟨l, h⟩ := raise_eq code part detail s; rw [h]; rfl
@[simp] theorem raise_fuses (code : Nat) (part : Option Nat) (detail : Nat) (s : State) : (raise code part detail s).fuses = s.fuses := by
  obtain ⟨l, h⟩ := raise_eq code part detail s; rw [h]; rfl
@[simp] theorem raise_flash (code : Nat) (part : Option Nat) (detail : Nat) (s : State) : (raise code part detail s).flash = s.flash := by
  obtain ⟨l, h⟩ := raise_eq code part detail s; rw [h]; rfl
@[simp] theorem raise_sec (code : Nat) (part : Option Nat) (detail : Nat) (s : State) : (raise code part detail s).sec = s.sec := by
  obtain ⟨l, h⟩ := raise_eq code part detail s; rw [h]; rfl
@[simp] theorem raise_od (code : Nat) (part : Option Nat) (detail : Nat) (s : State) : (raise code part detail s).od = s.od := by
  obtain ⟨l, h⟩ := raise_eq code part detail s; rw [h]; rfl
@[simp] theorem raise_ctr (code : Nat) (part : Option Nat) (detail : Nat) (s : State) : (raise code part detail s).ctr = s.ctr := by
  obtain ⟨l, h⟩ := raise_eq code part detail s; rw [h]; rfl
@[simp] theorem raise_tier (code : Nat) (part : Option Nat) (detail : Nat) (s : State) : (raise code part detail s).tier = s.tier := by
  obtain ⟨l, h⟩ := raise_eq code part detail s; rw [h]; rfl
@[simp] theorem raise_und (code : Nat) (part : Option Nat) (detail : Nat) (s : State) : (raise code part detail s).und = s.und := by
  obtain ⟨l, h⟩ := raise_eq code part detail s; rw [h]; rfl
@[simp] theorem raise_sess (code : Nat) (part : Option Nat) (detail : Nat) (s : State) : (raise code part detail s).sess = s.sess := by
  obtain ⟨l, h⟩ := raise_eq code part detail s; rw [h]; rfl
@[simp] theorem raise_codec (code : Nat) (part : Option Nat) (detail : Nat) (s : State) : (raise code part detail s).codec = s.codec := by
  obtain ⟨l, h⟩ := raise_eq code part detail s; rw [h]; rfl
@[simp] theorem raise_cmp (code : Nat) (part : Option Nat) (detail : Nat) (s : State) : (raise code part detail s).cmp = s.cmp := by
  obtain ⟨l, h⟩ := raise_eq code part detail s; rw [h]; rfl
@[simp] theorem raise_queue (code : Nat) (part : Option Nat) (detail : Nat) (s : State) : (raise code part detail s).queue = s.queue := by
  obtain ⟨l, h⟩ := raise_eq code part detail s; rw [h]; rfl
@[simp] theorem raise_share (code : Nat) (part : Option Nat) (detail : Nat) (s : State) : (raise code part detail s).share = s.share := by
  obtain ⟨l, h⟩ := raise_eq code part detail s; rw [h]; rfl
@[simp] theorem raise_link (code : Nat) (part : Option Nat) (detail : Nat) (s : State) : (raise code part detail s).link = s.link := by
  obtain ⟨l, h⟩ := raise_eq code part detail s; rw [h]; rfl
@[simp] theorem raise_dram (code : Nat) (part : Option Nat) (detail : Nat) (s : State) : (raise code part detail s).dram = s.dram := by
  obtain ⟨l, h⟩ := raise_eq code part detail s; rw [h]; rfl
@[simp] theorem raise_regul (code : Nat) (part : Option Nat) (detail : Nat) (s : State) : (raise code part detail s).regul = s.regul := by
  obtain ⟨l, h⟩ := raise_eq code part detail s; rw [h]; rfl
@[simp] theorem raise_pkg (code : Nat) (part : Option Nat) (detail : Nat) (s : State) : (raise code part detail s).pkg = s.pkg := by
  obtain ⟨l, h⟩ := raise_eq code part detail s; rw [h]; rfl

@[simp] theorem countBy_pending (index sub n : Nat) (s : State) : (countBy index sub n s).pending = s.pending := rfl
@[simp] theorem count_pending (index sub : Nat) (s : State) : (count index sub s).pending = s.pending := rfl
@[simp] theorem countBy_fresh (index sub n : Nat) (s : State) : (countBy index sub n s).fresh = s.fresh := rfl
@[simp] theorem count_fresh (index sub : Nat) (s : State) : (count index sub s).fresh = s.fresh := rfl
@[simp] theorem countBy_out (index sub n : Nat) (s : State) : (countBy index sub n s).out = s.out := rfl
@[simp] theorem count_out (index sub : Nat) (s : State) : (count index sub s).out = s.out := rfl
@[simp] theorem countBy_time (index sub n : Nat) (s : State) : (countBy index sub n s).time = s.time := rfl
@[simp] theorem count_time (index sub : Nat) (s : State) : (count index sub s).time = s.time := rfl
@[simp] theorem countBy_start (index sub n : Nat) (s : State) : (countBy index sub n s).start = s.start := rfl
@[simp] theorem count_start (index sub : Nat) (s : State) : (count index sub s).start = s.start := rfl
@[simp] theorem countBy_fuses (index sub n : Nat) (s : State) : (countBy index sub n s).fuses = s.fuses := rfl
@[simp] theorem count_fuses (index sub : Nat) (s : State) : (count index sub s).fuses = s.fuses := rfl
@[simp] theorem countBy_flash (index sub n : Nat) (s : State) : (countBy index sub n s).flash = s.flash := rfl
@[simp] theorem count_flash (index sub : Nat) (s : State) : (count index sub s).flash = s.flash := rfl
@[simp] theorem countBy_sec (index sub n : Nat) (s : State) : (countBy index sub n s).sec = s.sec := rfl
@[simp] theorem count_sec (index sub : Nat) (s : State) : (count index sub s).sec = s.sec := rfl
@[simp] theorem countBy_od (index sub n : Nat) (s : State) : (countBy index sub n s).od = s.od := rfl
@[simp] theorem count_od (index sub : Nat) (s : State) : (count index sub s).od = s.od := rfl
@[simp] theorem countBy_logs (index sub n : Nat) (s : State) : (countBy index sub n s).logs = s.logs := rfl
@[simp] theorem count_logs (index sub : Nat) (s : State) : (count index sub s).logs = s.logs := rfl
@[simp] theorem countBy_tier (index sub n : Nat) (s : State) : (countBy index sub n s).tier = s.tier := rfl
@[simp] theorem count_tier (index sub : Nat) (s : State) : (count index sub s).tier = s.tier := rfl
@[simp] theorem countBy_und (index sub n : Nat) (s : State) : (countBy index sub n s).und = s.und := rfl
@[simp] theorem count_und (index sub : Nat) (s : State) : (count index sub s).und = s.und := rfl
@[simp] theorem countBy_sess (index sub n : Nat) (s : State) : (countBy index sub n s).sess = s.sess := rfl
@[simp] theorem count_sess (index sub : Nat) (s : State) : (count index sub s).sess = s.sess := rfl
@[simp] theorem countBy_codec (index sub n : Nat) (s : State) : (countBy index sub n s).codec = s.codec := rfl
@[simp] theorem count_codec (index sub : Nat) (s : State) : (count index sub s).codec = s.codec := rfl
@[simp] theorem countBy_cmp (index sub n : Nat) (s : State) : (countBy index sub n s).cmp = s.cmp := rfl
@[simp] theorem count_cmp (index sub : Nat) (s : State) : (count index sub s).cmp = s.cmp := rfl
@[simp] theorem countBy_queue (index sub n : Nat) (s : State) : (countBy index sub n s).queue = s.queue := rfl
@[simp] theorem count_queue (index sub : Nat) (s : State) : (count index sub s).queue = s.queue := rfl
@[simp] theorem countBy_share (index sub n : Nat) (s : State) : (countBy index sub n s).share = s.share := rfl
@[simp] theorem count_share (index sub : Nat) (s : State) : (count index sub s).share = s.share := rfl
@[simp] theorem countBy_link (index sub n : Nat) (s : State) : (countBy index sub n s).link = s.link := rfl
@[simp] theorem count_link (index sub : Nat) (s : State) : (count index sub s).link = s.link := rfl
@[simp] theorem countBy_dram (index sub n : Nat) (s : State) : (countBy index sub n s).dram = s.dram := rfl
@[simp] theorem count_dram (index sub : Nat) (s : State) : (count index sub s).dram = s.dram := rfl
@[simp] theorem countBy_regul (index sub n : Nat) (s : State) : (countBy index sub n s).regul = s.regul := rfl
@[simp] theorem count_regul (index sub : Nat) (s : State) : (count index sub s).regul = s.regul := rfl
@[simp] theorem countBy_pkg (index sub n : Nat) (s : State) : (countBy index sub n s).pkg = s.pkg := rfl
@[simp] theorem count_pkg (index sub : Nat) (s : State) : (count index sub s).pkg = s.pkg := rfl
@[simp] theorem emit_pending (k : Out) (args : List Nat) (data : List Byte) (s : State) : (emit k args data s).pending = s.pending := rfl
@[simp] theorem emit_fresh (k : Out) (args : List Nat) (data : List Byte) (s : State) : (emit k args data s).fresh = s.fresh := rfl
@[simp] theorem emit_time (k : Out) (args : List Nat) (data : List Byte) (s : State) : (emit k args data s).time = s.time := rfl
@[simp] theorem emit_start (k : Out) (args : List Nat) (data : List Byte) (s : State) : (emit k args data s).start = s.start := rfl
@[simp] theorem emit_fuses (k : Out) (args : List Nat) (data : List Byte) (s : State) : (emit k args data s).fuses = s.fuses := rfl
@[simp] theorem emit_flash (k : Out) (args : List Nat) (data : List Byte) (s : State) : (emit k args data s).flash = s.flash := rfl
@[simp] theorem emit_sec (k : Out) (args : List Nat) (data : List Byte) (s : State) : (emit k args data s).sec = s.sec := rfl
@[simp] theorem emit_od (k : Out) (args : List Nat) (data : List Byte) (s : State) : (emit k args data s).od = s.od := rfl
@[simp] theorem emit_ctr (k : Out) (args : List Nat) (data : List Byte) (s : State) : (emit k args data s).ctr = s.ctr := rfl
@[simp] theorem emit_logs (k : Out) (args : List Nat) (data : List Byte) (s : State) : (emit k args data s).logs = s.logs := rfl
@[simp] theorem emit_tier (k : Out) (args : List Nat) (data : List Byte) (s : State) : (emit k args data s).tier = s.tier := rfl
@[simp] theorem emit_und (k : Out) (args : List Nat) (data : List Byte) (s : State) : (emit k args data s).und = s.und := rfl
@[simp] theorem emit_sess (k : Out) (args : List Nat) (data : List Byte) (s : State) : (emit k args data s).sess = s.sess := rfl
@[simp] theorem emit_codec (k : Out) (args : List Nat) (data : List Byte) (s : State) : (emit k args data s).codec = s.codec := rfl
@[simp] theorem emit_cmp (k : Out) (args : List Nat) (data : List Byte) (s : State) : (emit k args data s).cmp = s.cmp := rfl
@[simp] theorem emit_queue (k : Out) (args : List Nat) (data : List Byte) (s : State) : (emit k args data s).queue = s.queue := rfl
@[simp] theorem emit_share (k : Out) (args : List Nat) (data : List Byte) (s : State) : (emit k args data s).share = s.share := rfl
@[simp] theorem emit_link (k : Out) (args : List Nat) (data : List Byte) (s : State) : (emit k args data s).link = s.link := rfl
@[simp] theorem emit_dram (k : Out) (args : List Nat) (data : List Byte) (s : State) : (emit k args data s).dram = s.dram := rfl
@[simp] theorem emit_regul (k : Out) (args : List Nat) (data : List Byte) (s : State) : (emit k args data s).regul = s.regul := rfl
@[simp] theorem emit_pkg (k : Out) (args : List Nat) (data : List Byte) (s : State) : (emit k args data s).pkg = s.pkg := rfl
@[simp] theorem emit_out (k : Out) (args : List Nat) (data : List Byte) (s : State) : (emit k args data s).out = ⟨k, args, data⟩ :: s.out := rfl

/-! ### The ends of commands -/

@[simp] theorem leaving_pending (s t : State) : (leaving s t).pending = s.pending := rfl
@[simp] theorem leaving_fresh (s t : State) : (leaving s t).fresh = t.fresh := rfl
@[simp] theorem leaving_out (s t : State) : (leaving s t).out = t.out := rfl
@[simp] theorem leaving_time (s t : State) : (leaving s t).time = t.time := rfl
@[simp] theorem leaving_start (s t : State) : (leaving s t).start = t.start := rfl
@[simp] theorem leaving_fuses (s t : State) : (leaving s t).fuses = s.fuses := rfl
@[simp] theorem leaving_flash (s t : State) : (leaving s t).flash = t.flash := rfl
@[simp] theorem leaving_sec (s t : State) : (leaving s t).sec = t.sec := rfl
@[simp] theorem leaving_od (s t : State) : (leaving s t).od = t.od := rfl
@[simp] theorem leaving_ctr (s t : State) : (leaving s t).ctr = t.ctr := rfl
@[simp] theorem leaving_logs (s t : State) : (leaving s t).logs = t.logs := rfl
@[simp] theorem leaving_tier (s t : State) : (leaving s t).tier = t.tier := rfl
@[simp] theorem leaving_und (s t : State) : (leaving s t).und = t.und := rfl
@[simp] theorem leaving_sess (s t : State) : (leaving s t).sess = t.sess := rfl
@[simp] theorem leaving_codec (s t : State) : (leaving s t).codec = t.codec := rfl
@[simp] theorem leaving_cmp (s t : State) : (leaving s t).cmp = t.cmp := rfl
@[simp] theorem leaving_queue (s t : State) : (leaving s t).queue = t.queue := rfl
@[simp] theorem leaving_share (s t : State) : (leaving s t).share = t.share := rfl
@[simp] theorem leaving_link (s t : State) : (leaving s t).link = t.link := rfl
@[simp] theorem leaving_dram (s t : State) : (leaving s t).dram = t.dram := rfl
@[simp] theorem leaving_regul (s t : State) : (leaving s t).regul = t.regul := rfl
@[simp] theorem leaving_pkg (s t : State) : (leaving s t).pkg = t.pkg := rfl

/-- Coming to rest burns no fuse. -/
@[simp] theorem settle_fuses (s : State) : (settle s).fuses = s.fuses := by
  unfold settle
  exact State.setFuses_fuses _ _

/-- What `atRest` can do to the queue and the fuses. -/
theorem atRest_keeps {s t u : State} (h : atRest s t = .next u) : u.pending = s.pending ∧ u.fuses = s.fuses := by
  unfold atRest at h
  injection h with h
  subst h
  exact ⟨leaving_pending _ _, leaving_fuses _ _⟩

/-- What `quick` can do: everything but the queue and the fuses is the effect's. -/
theorem quick_keeps {s t u : State} (h : quick s t = .next u) : u.pending = s.pending ∧ u.fuses = s.fuses := by
  simp only [quick, Host.Outcome.next.injEq] at h
  subst h
  exact ⟨rfl, rfl⟩

/-- What `overOd` can do to the queue; fuses change as the message burns them. -/
theorem overOd_keeps {s t u : State} (h : overOd s t = .next u) : u.pending = s.pending ∧ u.fuses = t.fuses := by
  unfold overOd at h
  injection h with h
  subst h
  rw [State.setPending_pending, State.setPending_fuses, settle_fuses]
  exact ⟨rfl, rfl⟩

/-- What `overSec` leaves alone. -/
theorem overSec_keeps {s t u : State} (h : overSec s t = .next u) :
    u.pending = s.pending ∧ u.fuses = s.fuses ∧ u.tier = s.tier ∧ u.und = s.und ∧ u.sess = s.sess ∧ u.codec = s.codec
      ∧ u.cmp = s.cmp ∧ u.queue = s.queue ∧ u.share = s.share ∧ u.dram = s.dram ∧ u.regul = s.regul ∧ u.od = s.od
      ∧ u.start = s.start ∧ u.pkg = s.pkg ∧ u.time = s.time := by
  simp only [overSec, Host.Outcome.next.injEq] at h
  subst h
  exact ⟨rfl, rfl, rfl, rfl, rfl, rfl, rfl, rfl, rfl, rfl, rfl, rfl, rfl, rfl, rfl⟩

/-- What `overRead` leaves alone. -/
theorem overRead_keeps {s t u : State} (h : overRead s t = .next u) :
    u = { s with out := t.out, link := t.link, fresh := t.fresh } := by
  simp only [overRead, Host.Outcome.next.injEq] at h
  exact h.symm

/-- What `overStep` leaves alone. -/
theorem overStep_keeps {s t u : State} (h : overStep s t = .next u) :
    u.pending = s.pending ∧ u.fuses = s.fuses ∧ u.und = s.und ∧ u.flash = s.flash ∧ u.start = s.start ∧ u.dram = s.dram
      ∧ u.pkg = s.pkg ∧ u.od = s.od ∧ u.tier.mem = s.tier.mem ∧ u.tier.poison = s.tier.poison ∧ u.tier.exts = s.tier.exts := by
  simp only [overStep, Host.Outcome.next.injEq] at h
  subst h
  exact ⟨rfl, rfl, rfl, rfl, rfl, rfl, rfl, rfl, rfl, rfl, rfl⟩

/-- A chunk of a row holds one codeword of data. -/
theorem chunkBytes_length (s : State) (sb row j : Nat) : (chunkBytes s sb row j).length = 2048 := by
  simp only [chunkBytes]
  split
  · rename_i q _
    simp only [slice, List.length_append, List.length_take, List.length_drop, List.length_replicate]
    omega
  · simp

/-- What a rebuild computes is the data of the codeword that it stands for (R401, R412). -/
theorem rebuiltBytes_eq (s : State) (sb row w d : Nat) (hd : d < rowChunks (sbOf s sb) / 8) :
    rebuiltBytes s sb row w d = chunkBytes s sb row (rowChunks (sbOf s sb) / 8 * w + d) := by
  have hl : d < (stripeData s sb row w).length := by simpa [stripeData] using hd
  have h := xorAll_eraseIdx 2048 (stripeData s sb row w)
    (fun a ha => by obtain ⟨i, -, rfl⟩ := List.mem_map.1 ha; exact chunkBytes_length s sb row _) d hl
  simpa [rebuiltBytes, parityBytes, stripeData] using h

end Sys2Proof.Machine
end

