-- ==== Sys2Proof/Tests/States.lean ====
section
/-! SUPPORT. Small states on which the tests and the witnesses run. -/

namespace Sys2Proof.Tests

open Sys2Proof Sys2Proof.Machine Sys2Proof.Safety

theorem with_snd {α β : Type} {p : α × β} {a : α} (h : p.1 = a) : p = (a, p.2) := by rw [← h]

/-- A DIMM of the reference kind: 64 GiB, two ranks, no 3DS. -/
def aDimm : Dimm :=
  { giB := 64, ranks := 2, dies := 1, width := 4, gbit := 16, registered := true, ecc := true, needsHelp := false, rate := 4400 }

/-- A NAND part that R396 accepts. -/
def aPart : NandPart :=
  { id := 1, rates := [1600, 2400, 3200], width := 8, luns := 2, planes := 4, pageBytes := 16384, spareBytes := 2048
    pagesPerBlock := 1024, blocksPerPlane := 512, slow := false, giB := 64 }

/-- A board that populates nothing but its stacks. -/
def bare : Population :=
  { dimms := List.replicate 16 [], trained := 0, banks := List.replicate 8 48, nand := List.replicate 16 [], framesFailed := 0 }

/-- A device in S4 with nothing on its ports. -/
def lit : State := modStart (fun b => { b with stage := .lit, phase := 4 }) State.reset

/-- A device in S4: port 0 is in L0 with its LDs, LD 0 belongs to partition 0, and SPID 0 may use CXL.mem and CXL.io. -/
def board : State :=
  let s1 := lit.setLink { lit.link with
    ports := [(0, { up := true, mld := true })]
    lds := [(0, { bme := true, memEnable := true, decoders := [(0, ⟨0, 2 ^ 28, 0, 0, 8, false⟩)] })] }
  let s2 := setPart 0 1 0 1 s1
  setTableRow 0x2110 0 (1 + 2 ^ 26 + 2 ^ 27) s2

/-- The board with one MD, whose DPA extent 0 of partition 0 is device extent 0, in Batten. -/
def tiles : State :=
  let s1 := setTableRow 0x2120 0 (1 + 4 + 8 + 2 ^ 96) board
  s1.setTier { s1.tier with
    k := 1, dirMds := [0], mapEntries := 256, battenTiles := [8192], battenReserve := [2]
    exts := [(0, { kind := 1 })]
    tdes := (List.range 32).map fun n => (n, { tier := .batten, homeSlot := n })
    slots := (List.range 32).map fun n => (slotKey .batten 0 n, .home n)
    groups := [(0, 0)] }

/-- A command of partition 0 on ring 0 of port 0's LD 0. -/
def cmd (desc : Nat) : Cmd :=
  { ring := 0, part := 0, desc := desc, slot := 0, fetchUs := 0, expiry := none, started := false, begun := false, met := []
    result0 := 0, result1 := 0, todo := [], session := none, order := 0, discard := false }

/-- The state s with command 1 in flight. -/
def withCmd (c : Cmd) (s : State) : State := s.setQueue { s.queue with cmds := [(1, c)], nextCmd := 2 }

/-- The board with session 0 and prefix 0 of partition 0, and one command in flight. -/
def flying (desc : Nat) : State :=
  withCmd (cmd desc) (board.setSess { board.sess with recs := [(0, {})], prefixes := [(0, {})] })

theorem ready_flying (desc op : Nat) (form : Cmd → Bool) (h : (cmd desc).op = op) (hf : form (cmd desc) = true)
    (ho : namedNow (taken 1 (flying desc)) (cmd desc) = 0) (hu : heldNow (taken 1 (flying desc)) (cmd desc) = false) :
    Ready (flying desc) 1 op form (cmd desc) :=
  ⟨rfl, h, hf, rfl, by simp [fenced, flying, withCmd, cmd, State.setQueue], .inr fun _ he => (by cases he), ho, hu⟩

/-- An extent request of the background master. -/
def extReq (ext : Nat) : ExtReq :=
  { ext := ext, act := 1, master := 0, tier := .ridge, md := none, cd := none, hint := 0, touched := 0, waiters := []
    admitted := true }

/-- A running move of tile 0 of extent 0 to Ridge slot 0. -/
def moving (window : Bool) : State :=
  tiles.setTier { tiles.tier with moves := [
    { key := 0, kind := .plain, tier := .ridge, md := 0, slot := 0, pass := 1, window := window, sinceUs := 0, master := 0
      ready := false, dirty := [], snapshot := [], sheet := none, coded := [], waiters := [] }] }

/-- A running park of extent 0. -/
def parking (window : Bool) : State :=
  tiles.setTier { tiles.tier with parks := [
    { ext := 0, pass := 1, window := window, sinceUs := 0, master := 0, committing := false, epr := 0, dirty := []
      snapshot := [], coded := [], waiters := [] }] }

/-- A host access that is held. -/
def heldAccess (onPark onSlot : Bool) (store : Option (BitVec 64 × List Byte × Bool)) : Held :=
  { key := 0, sector := 0, req := ⟨0, 0, 7, 0, 0⟩, store := store, onPark := onPark, onSlot := onSlot }

def holding (h : Held) : State := tiles.setTier { tiles.tier with held := [h] }

end Sys2Proof.Tests
end

