-- ==== Sys2Proof/Tests/Slice0.lean ====
section
/-! SUPPORT. Tests: the well-formedness checks, and results that the manual works out. -/

namespace Sys2Proof.Tests

open Sys2Proof Sys2Proof.Machine Sys2Proof.Safety

/-! ### Well-formedness: for each check a term that only it refuses, and a term of each checked command that passes -/

theorem test_ill_formed_0 : ∀ i ∈ ([
    .purlinFrame 0 false [] (2 ^ 32), .cxlMemRead 0 0 4096 0 0, .cxlMemRead 0 0 0 65536 0, .cxlMemRead 0 0 0 0 (2 ^ 64),
    .cxlMemWrite 0 0 0 0 0 0 (List.replicate 63 0) false, .cxlMemWrite 0 0 4096 0 0 0 (List.replicate 64 0) false,
    .cxlMemWrite 0 0 0 65536 0 0 (List.replicate 64 0) false, .cxlMemWrite 0 0 0 0 (2 ^ 64) 0 (List.replicate 64 0) false,
    .copyPassEnd (2 ^ 28) 0, .flipWindowClear (2 ^ 28) 0, .flipWindowTimeout (2 ^ 28) 0,
    .freePendingSlotReturn false 0 (2 ^ 28), .damagedHoldTimeout (2 ^ 28) 0 0, .noSlotWaitTimeout (2 ^ 28) 0,
    .heatHalfLifeWrite .i3c (2 ^ 128), .parkPassEnd (2 ^ 28), .parkWindowClear (2 ^ 28), .tileLanded (2 ^ 28) 0 false,
    .unparkLoadTimeout (2 ^ 28) 0 0, .unparkLoadTimeout 0 0 65536, .unparkStoreTimeout (2 ^ 28) 0 0,
    .unparkStoreTimeout 0 0 65536, .sessionScanVisit false 262144, .calendarSecondsWrite .i3c (2 ^ 128),
    .decodeDone 0 (List.replicate 4097 0), .stepCompleted 0 0 2097152, .loadTilePoisonRetry 0 0 2097152, .register .i3c 256,
    .unregister .i3c 256, .reload .i3c 256] : List Instr), i.wf = false := by decide +kernel

theorem test_ill_formed_1 : ∀ i ∈ ([
    .ringEnable 0 0 4096 0, .ringDisable 0 0 4096 0, .sqTailDoorbell 0 0 4096 0 [1], .sqTailDoorbell 0 0 0 0 [],
    .cqHeadWrite 0 0 4096 0 [1], .cqHeadWrite 0 0 0 0 [], .partitionAssign .i3c 0 (2 ^ 128), .partitionLdAdd .i3c 0 (2 ^ 128),
    .partitionReassign .i3c 0 (2 ^ 128), .declareFailed .i3c (2 ^ 128), .linkL0Reached 0 (3 + 1) 0 false false false,
    .linkL0Reached 0 0 (16 + 1) false false false, .portQuiesce .i3c (2 ^ 128), .portQuiesceCancel .i3c (2 ^ 128),
    .hdmDecoderCommit 0 0 4096 0 0 0 0 ⟨true, false, 1, 256⟩, .hdmDecoderCommit 0 0 0 0 (2 ^ 64) 0 0 ⟨true, false, 1, 256⟩,
    .hdmDecoderCommit 0 0 0 0 0 (2 ^ 64) 0 ⟨true, false, 1, 256⟩, .hdmDecoderCommit 0 0 0 0 0 0 (2 ^ 52) ⟨true, false, 1, 256⟩,
    .configRequest (.pf0 0) false .memEnable (2 ^ 128), .registerWrite (.pf0 0) 0 0 5 (.write 0 false),
    .registerWrite (.pf0 0) 0 (2 ^ 20) 8 (.write 0 false), .registerWrite (.pf0 0) 4096 0 8 (.write 0 false),
    .registerWrite (.pf0 0) 0 0 8 (.write (2 ^ 128) false), .msixUnmask 0 ⟨0, 4096⟩ 0, .identify ⟨.pf0 0, 4096⟩,
    .getSupportedLogs ⟨.pf0 0, 4096⟩, .getLog ⟨.pf0 0, 4096⟩, .identifyMemoryDevice ⟨.pf0 0, 4096⟩, .getPartitionInfo ⟨.pf0 0, 4096⟩,
    .getHealthInfo ⟨.pf0 0, 4096⟩, .completionReceived 0 16384 .success false [], .completionTimeout 0 16384,
    .tagQuarantineEnd 0 16384, .getCertificate .i3c (2 ^ 28) 0 0, .challenge .i3c 8 (List.replicate 32 0),
    .challenge .i3c 0 (List.replicate 31 0), .getMeasurements .i3c 256 false (List.replicate 32 0),
    .getMeasurements .i3c 0 false (List.replicate 31 0)] : List Instr), i.wf = false := by decide +kernel

theorem test_ill_formed_2 : ∀ i ∈ ([
    .keyExchange .i3c 0 (List.replicate 1567 0), .keyExchange .i3c 65536 (List.replicate 1568 0),
    .keyProg 0 0 false false 0 (List.replicate 31 0), .svnCommit .i3c false (2 ^ 128) false, .debugClose .i3c false (2 ^ 128),
    .calibrationDue .ddrZq ⟨.ddr 0, 64⟩, .refreshDue ⟨.ddr 0, 32⟩ 0 false false, .refreshDue ⟨.ddr 0, 0⟩ 1024 false false,
    .dramRequest (.ddr 0) .host false (2 ^ 34) 0, .fusePhaseDone [⟨.siliconRev, 16, 1⟩],
    .fusePhaseDone [⟨.deviceId, 0, 1⟩, ⟨.deviceId, 0, 2⟩], .trainPhaseDone { bare with dimms := [] },
    .trainPhaseDone { bare with dimms := List.replicate 16 [aDimm, aDimm, aDimm] }, .trainPhaseDone { bare with banks := [] },
    .trainPhaseDone { bare with nand := [] }, .trainPhaseDone { bare with nand := List.replicate 16 (List.replicate 9 aPart) },
    .sectorReadReturn (.host 0) false (List.replicate 67 0), .scrubReserve .i3c (2 ^ 128),
    .nandOperationDone 0 .read (2 ^ 24) 0 0 .clean, .nandOperationDone 0 .read 0 65536 0 .clean,
    .nandOperationDone 0 .read 0 0 120 .clean, .rowCloseTimeout (2 ^ 24), .retentionAgeReached (2 ^ 24),
    .readLimitReached (2 ^ 24), .underlayFormat .i3c (2 ^ 128), .restart .i3c (2 ^ 128), .phaseBudgetExpired 16,
    .referenceSelectRclk .i3c (2 ^ 128), .referenceSelectLosc .i3c (2 ^ 128), .frameClockEnable .i3c (2 ^ 128),
    .memoryClockEnable .i3c 0 (2 ^ 128), .thermalSample (List.replicate 23 0) 0 (List.replicate 11 0),
    .thermalSample (List.replicate 24 0) 0 (List.replicate 10 0), .sensorTimeout 0 9, .read .i3c 256 0 0 0 0 0,
    .read .i3c 0 65536 0 0 0 0, .read .i3c 0 0 256 0 0 0, .read .i3c 0 0 0 256 0 0, .read .i3c 0 0 0 0 (2 ^ 32) 0] : List Instr), i.wf = false := by decide +kernel

theorem test_ill_formed_3 : ∀ i ∈ ([
    .read .i3c 0 0 0 0 0 65536, .write .i3c false 256 0 0 0 [], .write .i3c false 0 65536 0 0 [],
    .write .i3c false 0 0 256 0 [], .write .i3c false 0 0 0 256 [], .write .i3c false 0 0 0 0 (List.replicate 1025 0),
    .describe .i3c 256 0 0, .describe .i3c 0 65536 0, .describe .i3c 0 0 256, .xferOpen .i3c 256 0 0 0,
    .xferOpen .i3c 0 65536 0 0, .xferOpen .i3c 0 0 256 0, .xferOpen .i3c 0 0 0 (2 ^ 32), .xferData .i3c 256 0 0 [],
    .xferData .i3c 0 256 0 [], .xferData .i3c 0 0 (2 ^ 32) [], .xferData .i3c 0 0 0 (List.replicate 1025 0),
    .xferCommit .i3c 256 0, .xferCommit .i3c 0 256, .xferAbort .i3c 256 0, .xferAbort .i3c 0 256, .eventSwap .i3c (2 ^ 128),
    .lmEnable .i3c (2 ^ 128), .lmSwap .i3c (2 ^ 128), .encodeDone 0 (List.replicate 4097 0)] : List Instr), i.wf = false := by decide +kernel

theorem test_well_formed_0 : ∀ i ∈ ([
    .purlinFrame 0 false [] 0, .cxlMemRead 0 0 0 0 0, .cxlMemWrite 0 0 0 0 0 0 (List.replicate 64 0) false, .copyPassEnd 0 0,
    .flipWindowClear 0 0, .flipWindowTimeout 0 0, .freePendingSlotReturn false 0 0, .damagedHoldTimeout 0 0 0,
    .noSlotWaitTimeout 0 0, .heatHalfLifeWrite .i3c 0, .parkPassEnd 0, .parkWindowClear 0, .tileLanded 0 0 false,
    .unparkLoadTimeout 0 0 0, .unparkStoreTimeout 0 0 0, .sessionScanVisit false 0, .calendarSecondsWrite .i3c 0,
    .decodeDone 0 [], .stepCompleted 0 0 0, .loadTilePoisonRetry 0 0 0, .register .i3c 0, .unregister .i3c 0, .reload .i3c 0,
    .ringEnable 0 0 0 0, .ringDisable 0 0 0 0, .sqTailDoorbell 0 0 0 0 [1], .cqHeadWrite 0 0 0 0 [1],
    .partitionAssign .i3c 0 0, .partitionLdAdd .i3c 0 0, .partitionReassign .i3c 0 0] : List Instr), i.wf = true := by decide +kernel

theorem test_well_formed_1 : ∀ i ∈ ([
    .declareFailed .i3c 0, .linkL0Reached 0 0 0 false false false, .portQuiesce .i3c 0, .portQuiesceCancel .i3c 0,
    .hdmDecoderCommit 0 0 0 0 0 0 0 ⟨true, false, 1, 256⟩, .configRequest (.pf0 0) false .memEnable 0,
    .registerWrite (.pf0 0) 0 0 8 (.write 0 false), .msixUnmask 0 ⟨0, 0⟩ 0, .identify ⟨.pf0 0, 0⟩, .getSupportedLogs ⟨.pf0 0, 0⟩,
    .getLog ⟨.pf0 0, 0⟩, .identifyMemoryDevice ⟨.pf0 0, 0⟩, .getPartitionInfo ⟨.pf0 0, 0⟩, .getHealthInfo ⟨.pf0 0, 0⟩,
    .completionReceived 0 0 .success false [], .completionTimeout 0 0, .tagQuarantineEnd 0 0, .getCertificate .i3c 0 0 0,
    .challenge .i3c 0 (List.replicate 32 0), .getMeasurements .i3c 0 false (List.replicate 32 0),
    .keyExchange .i3c 0 (List.replicate 1568 0), .keyProg 0 0 false false 0 (List.replicate 32 0),
    .svnCommit .i3c false 0 false, .debugClose .i3c false 0, .calibrationDue .ddrZq ⟨.ddr 0, 0⟩,
    .refreshDue ⟨.ddr 0, 0⟩ 0 false false, .dramRequest (.ddr 0) .host false 0 0, .fusePhaseDone [⟨.siliconRev, 15, 1⟩],
    .trainPhaseDone bare, .sectorReadReturn (.host 0) false (List.replicate 80 0), .scrubReserve .i3c 0,
    .nandOperationDone 0 .read 0 0 0 .clean, .rowCloseTimeout 0, .retentionAgeReached 0, .readLimitReached 0,
    .underlayFormat .i3c 0, .restart .i3c 0, .phaseBudgetExpired 0, .referenceSelectRclk .i3c 0, .referenceSelectLosc .i3c 0] : List Instr), i.wf = true := by decide +kernel

theorem test_well_formed_2 : ∀ i ∈ ([
    .frameClockEnable .i3c 0, .memoryClockEnable .i3c 0 0, .thermalSample (List.replicate 24 0) 0 (List.replicate 11 0),
    .sensorTimeout 0 0, .read .i3c 0 0 0 0 0 0, .write .i3c false 0 0 0 0 [], .describe .i3c 0 0 0, .xferOpen .i3c 0 0 0 0,
    .xferData .i3c 0 0 0 [], .xferCommit .i3c 0 0, .xferAbort .i3c 0 0, .eventSwap .i3c 0, .lmEnable .i3c 0, .lmSwap .i3c 0,
    .encodeDone 0 []] : List Instr), i.wf = true := by decide +kernel

/-! ### Results that the manual works out -/

/-- The state after a command. -/
def after (c : Instr) (s : State) : State :=
  match exec c s with
  | .next t => t
  | _ => s

/-- Chapter 2's example: PT05's load from DPA 0x402A71C48 goes to device extent 1,048,597, whose directory is MD5's. -/
def routed : State :=
  let s := setTableRow 0x2120 0 (13 + 5 * 2 ^ 17 + 8192 * 2 ^ 32 + 1048576 * 2 ^ 64 + 4096 * 2 ^ 96) lit
  s.setTier { s.tier with k := 8, dirMds := [0, 1, 2, 3, 4, 5, 6, 7] }
theorem test_route : devOf routed 5 (0x402A71C48 / 2097152) = some 1048597 ∧ dirMd routed 1048597 = 5
    ∧ 0x402A71C48 / 65536 % 32 = 7 := by decide

/-- Chapter 9's example of R334: two ways of 4 KiB. -/
theorem test_decoder : decoderMap ⟨2 ^ 44, 2 ^ 40, 0, 1, 12, false⟩ 0 0x1008054E3C48 = 0x402A71C48 := by decide

/-- Chapter 4's sub-stream worked through: entry 0, entry 42 and a literal begin 01 A8 82 F7. -/
theorem test_sub_stream :
    (encodeSub 10 8 (0 :: (List.range 41).map (· + 5) ++ [0x3C3C3C3C3C3C3C3C]) [0, 0x3C3C3C3C3C3C3C3C, 0x0123456789ABCDEF]).take 4
      = [0x01, 0xA8, 0x82, 0xF7] := by decide +kernel

/-- Chapter 7's examples of R291: an INT8 SUM saturates, and an E4M3 SUM of 448 and 448 follows SAT. -/
theorem test_int_sum : intReduce 0x01 8 100 50 = 127 := by decide
theorem test_e4m3_sum : packElem (codePoints lit) (.float ⟨4, 3, 7, 1⟩) true true 0 (ofF32 0x44600000) = 0x7E
    ∧ packElem (codePoints lit) (.float ⟨4, 3, 7, 1⟩) true false 0 (ofF32 0x44600000) % 128 = 0x7F := by decide +kernel

/-- Chapter 10's example: byte 0x1C48 of slot 1,730,112 of MD3 lies in BCH7. -/
def twoChannels : State := lit.setDram { lit.dram with ctls := [(6, { state := 1 }), (7, { state := 1 })] }
theorem test_channel : channelAt twoChannels 3 (1730112 * 65536 + 0x1C48) = 7 := by decide

/-- Chapter 11's example: row 38 of superblock 1,203 has its parity on UCH9, and its chunks 37, 44, 54 and 60 lie on UCH1, UCH8,
UCH3 and UCH10; row 37's header chunk lies on UCH9. -/
theorem test_chunks : parityChannel lit 1203 38 = 9 ∧ chunkChannel lit 1203 38 37 = 1 ∧ chunkChannel lit 1203 38 44 = 8
    ∧ chunkChannel lit 1203 38 54 = 3 ∧ chunkChannel lit 1203 38 60 = 10 ∧ chunkChannel lit 1203 37 0 = 9 := by decide

/-- Chapter 16's example of R559: 99.0 °C on a CD gives 800 ‰, 97.5 °C on a stack 900 ‰, 80.0 °C on a DIMM 1,000 ‰. -/
theorem test_fractions : fraction lit 0x5080 false 990 = 800 ∧ fraction lit 0x5081 false 975 = 900
    ∧ fraction lit 0x5082 false 800 = 1000 := by decide

/-- Chapter 7's example of R267: of two stores between two samplings the later counts, and one is counted as overtaken. -/
def ringOn : State := board.setQueue { board.queue with rings := [(2, { sqLog2 := 12, cqLog2 := 12, state := 1 })] }
theorem test_doorbell : (ringOf (after (.sqTailDoorbell 0 0 0 2 [18, 19]) ringOn) 2).sqTail = 19
    ∧ counter (after (.sqTailDoorbell 0 0 0 2 [18, 19]) ringOn) 0x3070 2 = 1 := by decide +kernel
theorem test_doorbell_faults : (ringOf (after (.sqTailDoorbell 0 0 0 2 [4096]) ringOn) 2).fault = 1
    ∧ ringState (after (.cqHeadWrite 0 0 0 2 [1]) ringOn) 2 = 3 := by decide +kernel

/-- Chapter 14's start: the oscillator's delay is followed by its judgement (Table 14-11). -/
theorem test_start : (after .oscDelayExpired State.reset).start.stage = .judging := by decide +kernel

/-- R448: one copy that disagrees fails the start. -/
theorem test_fuse_read : (after (.fusePhaseDone [⟨.authorityHssPub, 3, 2⟩]) (modStart (fun b => { b with stage := .fuses }) State.reset)).start.lastFail
    = 5 := by decide +kernel

/-- R458: a record reads back, and one whose CRC fails is none. -/
theorem test_counter_record : counterIn (counterBytes ⟨3, 700416, 9⟩) = some ⟨3, 700416, 9⟩
    ∧ counterIn ((counterBytes ⟨3, 700416, 9⟩).set 4 7) = none := by decide +kernel

/-- R372: four postponed intervals are made up together. -/
def late4 : State := lit.setDram { lit.dram with ctls := [(0, { state := 1, postponed := [(1, 4)] })] }
theorem test_refresh : (ctlOf (after (.refreshDue ⟨.ddr 0, 1⟩ 0 false true) late4) 0).refreshes = 5 := by decide +kernel

/-- R297: an LD that another partition holds cannot be taken. -/
theorem test_mask_clash : partState (after (.partitionAssign .i3c 1 (1 + 2 ^ 64)) board) 1 = 0
    ∧ partState (after (.partitionAssign .i3c 1 (1 + 2 ^ 65)) board) 1 = 1 := by decide +kernel

/-- R562: 115.0 °C on a die trips the device, 114.9 °C does not. -/
theorem test_trip : (after (.thermalSample (List.replicate 24 1150) 300 (List.replicate 11 0)) board).start.stage = .tripped
    ∧ (after (.thermalSample (List.replicate 24 1149) 300 (List.replicate 11 0)) board).start.stage = .lit := by decide +kernel

/-- R333, R338: Bus Master Enable as configuration space shows it. -/
theorem test_bme : (ldOf (after (.busMasterDisable 0 0 false) board) 0).bme = false := by decide +kernel

/-- R563: IDCODE is captured. -/
theorem test_idcode : ((after (.jtagInstruction .idcode) board).out.map (·.kind)) = [.tdo] := by decide +kernel

/-- A step runs the front of the queue and leaves the rest (log entry 2). -/
theorem test_queue : (match step (board.setPending [.resetPulseIgnored, .lmSample]) with
    | .next t => t.pending
    | _ => []) = [.lmSample] := by decide +kernel

end Sys2Proof.Tests
end

