-- ==== Sys2Proof/Tests/WitnessDict.lean ====
section
/-! SUPPORT. Witnesses: states and operands that meet the hypotheses of the statements about the object dictionary. -/

namespace Sys2Proof.Tests

open Sys2Proof Sys2Proof.Machine Sys2Proof.Safety

/-- A road may write a value to an object that satisfies p. -/
def mayWriteIf (s : State) (road : Road) (index sub size v : Nat) (p : OdObj → Bool) : Bool :=
  roadOpen s road && ! roadBusy s road && ! roleless (arrived road s) road && match present (arrived road s) index sub with
    | .error _ => false
    | .ok o => writeAllowed (arrived road s) road false o index sub == 0 && o.size == size && decide (size ≤ 1024) && o.type != 0x12
        && decide (v < 256 ^ size) && valueStatus (arrived road s) o index sub v == 0 && p o

theorem may_write {s : State} {road : Road} {index sub size v : Nat} {p : OdObj → Bool}
    (h : mayWriteIf s road index sub size v p = true) : ∃ o, MayWrite s road index sub size v o ∧ p o = true := by
  unfold mayWriteIf at h
  simp only [Bool.and_eq_true, Bool.not_eq_true'] at h
  obtain ⟨⟨⟨h1, h2⟩, h3⟩, h4⟩ := h
  cases h5 : present (arrived road s) index sub with
  | error e => rw [h5] at h4; cases h4
  | ok o =>
    rw [h5] at h4
    simp only [Bool.and_eq_true, beq_iff_eq, decide_eq_true_eq, bne_iff_ne, ne_eq] at h4
    obtain ⟨⟨⟨⟨⟨⟨a, b⟩, c⟩, d⟩, e⟩, f⟩, g⟩ := h4
    exact ⟨o, ⟨⟨h1, h2⟩, h3, h5, a, ⟨b, c, d⟩, e, f⟩, g⟩

/-- Writes over I3C that the board accepts: an object, its size, and values at the ends of its range. -/
theorem witness_ActingWritesTakeEffect_plain :
    ∀ q ∈ [(0x1200, 1, 8, 0), (0x1200, 1, 8, 4294967296), (0x2100, 5, 1, 0), (0x2100, 5, 1, 63), (0x2900, 0x0A, 1, 0),
        (0x2900, 0x0A, 1, 3), (0x2900, 0x0A, 1, 0x80), (0x2900, 0x0A, 1, 0x83), (0x2600, 0x0D, 1, 1), (0x2700, 0x0B, 4, 0x464D5431),
        (0x1800, 0x0B, 4, 0x52535452), (0x2010, 1, 8, 0), (0x2010, 1, 8, 68719476735), (0x2011, 1, 2, 65535), (0x2011, 2, 2, 65535),
        (0x2011, 3, 1, 255), (0x3900, 2, 1, 1), (0x3800, 5, 1, 1)],
      mayWriteIf board .i3c q.1 q.2.1 q.2.2.1 q.2.2.2 (fun _ => true) = true := by decide

theorem witness_ActingWritesTakeEffect_partition :
    (mayWriteIf board .i3c 0x2101 64 16 (1 + 2 ^ 127) (fun _ => true) = true ∧ partState board 63 = 0
      ∧ field (1 + 2 ^ 127) 127 64 ≠ 0 ∧ maskFree board 63 (field (1 + 2 ^ 127) 127 64) = true)
    ∧ (mayWriteIf board .i3c 0x2101 1 16 (1 + 3 * 2 ^ 64) (fun _ => true) = true ∧ partState board 0 = 1
      ∧ field (1 + 3 * 2 ^ 64) 127 64 ≠ ldMask board 0
      ∧ field (1 + 3 * 2 ^ 64) 127 64 &&& ldMask board 0 = ldMask board 0 ∧ maskFree board 0 (field (1 + 3 * 2 ^ 64) 127 64) = true)
    ∧ (mayWriteIf board .i3c 0x2101 1 16 (2 + 2 ^ 64) (fun _ => true) = true ∧ field (2 + 2 ^ 64) 127 64 = ldMask board 0
      ∧ ∀ q ∈ sharesIn board, field q.2 6 1 ≠ 0) := by decide

/-- The repeat of an entry, and a write that is none of R297's transitions. -/
theorem witness_PartitionTransitionsFollowTheirRule :
    (mayWriteIf board .i3c 0x2101 1 16 (1 + 2 ^ 64) (fun _ => true) = true ∧ field (1 + 2 ^ 64) 1 0 = partState board 0
      ∧ field (1 + 2 ^ 64) 127 64 = ldMask board 0)
    ∧ mayWriteIf board .i3c 0x2101 1 16 0 (fun _ => true) = true ∧ ¬ (field 0 1 0 = partState board 0) := by decide

theorem witness_ActingWritesTakeEffect_more :
    board.dram.reserveScrub ≠ 1 ∧ mayFormat (board.setUnd { board.und with state := 5 }) = true := by decide

/-- Writes that are kept, with a value that differs and a record that fits. -/
def keptIf (index sub size v access : Nat) : Bool :=
  mayWriteIf board .i3c index sub size v fun o => o.access == access && (access != 3 || (scalar board index sub o.dflt != v
    && recordFits board { index := index, sub := sub, type := o.type, bytes := toBytes size v, seq := 0 }))

theorem witness_KeptWritesTakeEffect :
    keptIf 0x2200 6 4 100 3 = true ∧ keptIf 0x3800 1 1 1 2 = true
    ∧ (∃ v, keptIf 0x2000 1 1 v 3 = true ∧ v ≠ 0) ∧ mayWriteIf (board.setOd { board.od with vals := MapOps.insert 0x200001 1 board.od.vals })
      .i3c 0x2000 1 1 0 (fun o => o.access == 3) = true := ⟨by decide, by decide, ⟨1, by decide⟩, by decide⟩

/-! ### Registration -/

/-- Partition 0 asks to register weight set 7 of extent 0. -/
def asked : State := setRegObj 0 5 64 (setRegObj 0 2 7 (setRegObj 0 1 1 tiles))
def weights (state : Nat) : RegEntry := { state := state, kind := 1, part := 0, number := 7, first := 0, extents := 1, length := 64 }
def held (state : Nat) : State := asked.setCmp { asked.cmp with registry := [(regKey 1 7, weights state)] }

set_option maxRecDepth 8000 in
theorem witness_RegistrationWritesTakeEffect_register :
    mayWriteIf asked (.ld 0 0) 0x2A10 7 1 1 (fun _ => true) = true ∧ (roadPart asked (.ld 0 0)).getD 63 = 0 ∧ regStatus asked 0 ≠ 1
    ∧ (regStart 0 asked).cmp.regJobs.length = asked.cmp.regJobs.length + 1 := by decide

theorem witness_RegistrationWritesTakeEffect_rest :
    mayWriteIf (held 1) (.ld 0 0) 0x2A10 7 1 2 (fun _ => true) = true ∧ mayWriteIf (held 1) (.ld 0 0) 0x2A10 7 1 3 (fun _ => true) = true
    ∧ regStatus (held 1) 0 ≠ 1 ∧ MapOps.get? (regKey (regObj (held 1) 0 1 0) (regObj (held 1) 0 2 0)) (held 1).cmp.registry = some (weights 1)
    ∧ regInUse (held 1) 0 (regObj (held 1) 0 1 0) (regObj (held 1) 0 2 0) = false
    ∧ MapOps.get? (weightKey (regObj (held 1) 0 2 0)) (held 1).cmp.registry = some (weights 1)
    ∧ regObj (held 1) 0 1 0 = 1 ∧ (weights 1).part = 0 ∧ (weights 1).state = 1 := by decide

/-! ### Secured sessions -/

def secured : State := board.setSec { board.sec with
  challenge := some [], sessions := [(1, { at_ := .i3c, secret := [], keyGen := 0, seq := 0, established := true })] }

theorem witness_SecureWritesTakeEffect :
    roadOpen secured .i3c = true ∧ roadBusy secured .i3c = false ∧ roleless secured .i3c = false ∧ roadFm .i3c = true
    ∧ roadPlace .i3c ≠ none ∧ roadSecured secured .i3c = true ∧ isPresent secured 0x2800 7 = true
    ∧ (match present secured 0x2800 0x0F with
        | .ok o => o.access == 5 && o.type == 4 && o.size == 4 && o.lo == 0 && o.hi == 4294967295
        | .error _ => false) = true
    ∧ isPresent secured 0x6000 2 = true ∧ secured.sec.challenge = some [] := by decide

/-! ### Messages -/

theorem exists_ok {s : State} {index sub : Nat} {p : OdObj → Bool}
    (h : (match present s index sub with | .ok o => p o | .error _ => false) = true) :
    ∃ o, present s index sub = .ok o ∧ p o = true := by
  cases h5 : present s index sub with
  | error e => rw [h5] at h; cases h
  | ok o => exact ⟨o, rfl, by rw [h5] at h; exact h⟩

theorem witness_ObjectMessagesTakeEffect_read : ∃ o data t, RoadReady board (.ld 0 0) ∧ roleless board (.ld 0 0) = false
    ∧ present (dropSnapshot (.ld 0 0) board) 0x1200 1 = .ok o
    ∧ readObject (.ld 0 0) o 0x1200 1 0 0 8 (dropSnapshot (.ld 0 0) board) = (0, data, t) := by
  obtain ⟨o, h, g⟩ := exists_ok (s := dropSnapshot (.ld 0 0) board) (index := 0x1200) (sub := 1)
    (p := fun o => (readObject (.ld 0 0) o 0x1200 1 0 0 8 (dropSnapshot (.ld 0 0) board)).1 == 0) (by decide)
  exact ⟨o, _, _, ⟨by decide, by decide⟩, by decide, h, Prod.ext (by simpa using g) rfl⟩

theorem witness_ObjectMessagesTakeEffect_write : unreserved 0x3800 1 (ofBytes [1]) = 1
    ∧ mayWriteIf board .i3c 0x3800 1 [1].length (ofBytes [1]) (fun o => ! persisted o 0x3800 1) = true ∧ isDiag 0x3800 1 = false
    ∧ writeAction (roadPart board .i3c) 0x3800 1 0 (ofBytes [1]) board = none := ⟨rfl, by decide, by decide, rfl⟩

/-- The board with one transfer over I3C. -/
def xfer (index : Nat) (verifying : Option Nat) : Xfer :=
  { road := .i3c, index := index, total := 0, version := 0, rows := [], image := [], erasing := false, verifying := verifying }
def transferring (x : Xfer) : State := board.setOd { board.od with xfers := [(255, x)] }

theorem witness_TransferMessagesTakeEffect_open :
    RoadReady board .i3c ∧ roleless board .i3c = false
    ∧ (∃ o, present board 0x2110 0 = .ok o ∧ (openStatus board .i3c o 0x2110 0 == 0) = true)
    ∧ (∃ o, present board 0x1010 0 = .ok o ∧ (openStatus board .i3c o 0x1010 16777216 == 0) = true)
    ∧ board.od.xfers = [] :=
  ⟨⟨by decide, by decide⟩, by decide, exists_ok (p := fun o => openStatus board .i3c o 0x2110 0 == 0) (by decide),
    exists_ok (p := fun o => openStatus board .i3c o 0x1010 16777216 == 0) (by decide), rfl⟩

theorem witness_TransferMessagesTakeEffect_go :
    roadBusy (transferring (xfer 0x2110 none)) .i3c = false
    ∧ MapOps.get? 255 (transferring (xfer 0x2110 none)).od.xfers = some (xfer 0x2110 none)
    ∧ imageSlot 0x2110 = none ∧ 32760 + [(1 : Byte), 0, 0, 0, 0, 0, 0, 0].length ≤ tableSize (tableOf (transferring (xfer 0x2110 none)) 0x2110) := by
  decide

theorem committing_ok : (replaceRows (xfer 0x2130 none) (endXfer 255 (transferring (xfer 0x2130 none)))).1 = 0 := by decide
theorem witness_TransferMessagesTakeEffect_commit : ∃ t,
    MapOps.get? 255 (transferring (xfer 0x2130 none)).od.xfers = some (xfer 0x2130 none)
    ∧ (tableOf (transferring (xfer 0x2130 none)) 0x2130).version = (xfer 0x2130 none).version
    ∧ (tableOf (transferring (xfer 0x2130 none)) 0x2130).access ≠ 3
    ∧ replaceRows (xfer 0x2130 none) (endXfer 255 (transferring (xfer 0x2130 none))) = (0, t) :=
  ⟨_, by decide, by decide, by decide, with_snd committing_ok⟩

def persistJob : PersistJob :=
  { road := .i3c, op := 2, tag := 1, index := 0x2200, sub := 6, xfer := 0, answers := true
    rec_ := { index := 0x2200, sub := 6, type := 4, bytes := zeros 4, seq := 0 } }
theorem witness_TransferMessagesTakeEffect_ends :
    (board.setOd { board.od with persisting := [persistJob] }).od.persisting = [persistJob] ∧ persistJob.answers = true
    ∧ (xfer 0x2110 none).verifying = none
    ∧ (transferring (xfer 0x1011 (some 9))).od.xfers.find? (fun q => imageSlot q.2.index == some 1 && q.2.verifying.isSome)
      = some (255, xfer 0x1011 (some 9))
    ∧ scalar (endXfer 255 (transferring (xfer 0x1010 (some 9)))) 0x2800 6 0 = 0 := by decide

end Sys2Proof.Tests
end

