-- ==== Sys2Proof/Tests/WitnessLinks.lean ====
section
/-! SUPPORT. Witnesses: states and operands that meet the hypotheses of the statements about links, functions, requests and
security messages. -/

namespace Sys2Proof.Tests

open Sys2Proof Sys2Proof.Machine Sys2Proof.Safety

/-- The board with port 3 as given. -/
def portWith (p : Port) : State := board.setLink { board.link with ports := [(0, { up := true, mld := true }), (3, p)] }

theorem witness_LinkRowsTakeEffect :
    ((portWith {}).start.stage = .lit ∧ (portOf (portWith {}) 3).perst = false ∧ (portOf (portWith {}) 3).up = false
      ∧ portsRun (portWith {}) = true)
    ∧ ((portOf (portWith { up := true }) 3).up = true ∧ (portOf (portWith { up := true }) 3).mark = false
      ∧ served (portWith { up := true }) = true ∧ (portOf (portWith { up := true }) 3).perst = false
      ∧ portsRun (portWith { up := true }) = true ∧ (portOf (leaveL0 3 (portWith { up := true })) 3).up = true)
    ∧ (causeOf .uncorrectableInternal ≠ 0 ∧ ErrKind.uncorrectableInternal ≠ .cxlRasUncorrectable)
    ∧ ((portOf (portWith { up := true, cause := 4 }) 3).cause ≠ 0 ∧ (portOf (portWith { up := true, cause := 4 }) 3).cause ≠ 5
      ∧ (portOf (portWith { up := true, cause := 4 }) 3).up = true)
    ∧ ((portOf (portWith { up := true, mark := true }) 3).up = true ∧ (portOf (portWith { up := true, mark := true }) 3).mark = true)
    ∧ errIndex .replayNumRollover < 5
    ∧ ((portOf (portWith { perst := true }) 3).perst = true ∧ portsRun (portWith { perst := true }) = true) := by decide

/-- Port 3 as it stands in each case of R355. -/
theorem witness_ContainmentReleaseFollowsItsRule :
    (served (portWith {}) = true ∧ (portOf (portWith {}) 3).cause = 0)
    ∧ ((portOf (portWith { cause := 1 }) 3).cause ≠ 0 ∧ (portOf (portWith { cause := 1 }) 3).up = false)
    ∧ ((portOf (portWith { up := true, cause := 5 }) 3).cause = 5 ∧ (portOf (portWith { up := true, cause := 5 }) 3).up = true) := by
  decide

theorem bar_ready_board : BarReady board 0 0 := ⟨by decide, by decide, by decide, by decide⟩
theorem bar_reaches_board : barReaches board (.pf0 0) 0 ∧ barReaches board (.ld 0 0) 0 :=
  ⟨⟨by decide, by decide, by decide⟩, bar_ready_board⟩

theorem witness_DeviceFunctionRowsTakeEffect :
    (ldNo 0 0 = 0 ∧ ldServed board 0 = true ∧ (ldOf board 0).flr = false ∧ contained board (0 / 16) = false ∧ barOpen board 0 0 = true)
    ∧ ((ldOf (modLd 0 (fun l => { l with flr := true }) board) 0).flr = true ∧ board.cmp.runs = [])
    ∧ served board = true ∧ presented board (.pf0 0) = true ∧ presented board (.ld 0 15) = true
      ∧ (ldOf board 15).flr = false := by decide

def aTag (quarantined : Bool) : Tag := { ld := 0, part := 0, use := .poll 1 0, remaining := 4, quarantined := quarantined }
def tagged (quarantined : Bool) : State := portWith { up := true, tags := [(16383, aTag quarantined)] }

theorem witness_MasteredRequestRowsTakeEffect :
    (MapOps.get? 16383 (portOf (tagged false) 3).tags = some (aTag false) ∧ (portOf (tagged false) 3).up = true
      ∧ ([0, 0, 0, 0] : List Byte).length = (aTag false).remaining ∧ CplStatus.unsupportedRequest ≠ .success)
    ∧ (MapOps.get? 16383 (portOf (tagged true) 3).tags = some (aTag true) ∧ (aTag true).quarantined = true)
    ∧ ((portOf (portWith { up := true, l1Enable := true }) 3).l1Enable = true ∧ (portOf (portWith { up := true, l1Enable := true }) 3).l1 = false
      ∧ 2 ≤ ltrState (portWith { up := true, l1Enable := true }) 3) := by decide

theorem witness_ManagementRequestsAreAnswered :
    roadOpen board .i3c = true ∧ fmPorts .i3c ≠ []
    ∧ fmPorts (.pf0 0) ≠ [] ∧ roadOpen board (.pf0 0) = true ∧ doeOpen board (.ld 0 0) = true := by decide

/-! ### Security -/

def ready : Responder := { version := true, capabilities := true, algorithms := true, hss := true, mlkem := true }
def place : SpdmAt := .doe (.pf0 0)
def keyed : State := (board.setSec { board.sec with responders := [(placeCode place, ready)] }).setFlash
  { board.flash with chain := [1, 2, 3] }

theorem witness_SpdmRequestsAreAnswered :
    spdmOpen keyed place = true ∧ responderOf keyed place = ready ∧ 2 < keyed.flash.chain.length ∧ placeBound keyed place = true
    ∧ sessionsAt keyed place < 2 ∧ sessionsAll keyed < 64 := by decide

theorem witness_SpdmRequestsAreAnswered_measure :
    (∃ bs, measurementRecord keyed place 0 = some bs) ∧ ∃ bs, measurementRecord keyed place 0xFF = some bs := ⟨⟨_, rfl⟩, ⟨_, rfl⟩⟩

def aSession (established : Bool) : SecSession :=
  { at_ := place, secret := [], keyGen := 0, seq := 0, established := established }
def talking (established : Bool) : State := board.setSec { board.sec with
  sessions := [(9, aSession established)]
  ide := [(ideKey 0 true true, { key0 := some [], key1 := some [], active := some 1 })] }

theorem witness_SessionMessagesTakeEffect :
    secSession (talking false) 9 = some (aSession false) ∧ spdmOpen (talking false) place = true
    ∧ secSession (talking true) 9 = some (aSession true) ∧ onPf0 (aSession true) 0 = true ∧ (portOf (talking true) 0).up = true
    ∧ (zeros 32).length = 32 ∧ (ideOf (talking true) (ideKey 0 true true)).key0.isSome = true
    ∧ (ideOf (talking true) (ideKey 0 true true)).key1.isSome = true
    ∧ (ideOf (talking true) (ideKey 0 true true)).active = some 1 := by decide

theorem witness_SignerRowsTakeEffect :
    (board.setSec { board.sec with reserving := true }).sec.reserving = true
    ∧ (board.setSec { board.sec with opening := some 1023 }).sec.opening = some 1023 ∧ debugBurned board = false := by decide

theorem witness_SignerKeepsToItsReservation :
    (board.setSec { board.sec with q := 256, reservedTo := 256 }).sec.q ≤ (board.setSec { board.sec with q := 256, reservedTo := 256 }).sec.reservedTo
    ∧ isSecurity .signRateRefill = true := by decide

end Sys2Proof.Tests
end

