-- ==== Sys2Proof/Tests/WitnessQueues.lean ====
section
/-! SUPPORT. Witnesses: states and operands that meet the hypotheses of the statements about rings, commands, exposures, claims
and revokes. -/

namespace Sys2Proof.Tests

open Sys2Proof Sys2Proof.Machine Sys2Proof.Safety

/-- The tiles with ring 63 of LD 0. -/
def ringed (r : Ring) (s : State) : State := s.setQueue { s.queue with rings := [(63, r)] }
def idleRing : Ring := { sqLog2 := 6, cqLog2 := 16, irqMode := 2, sqBase := 2097152 - 4096 }
def activeRing : Ring := { sqLog2 := 6, cqLog2 := 16, state := 1, sqTail := 1, cqTail := 5 }

theorem bar_ready_tiles (r : Ring) : BarReady (ringed r tiles) (ldNo 0 0) 0 :=
  ⟨(by decide : ldServed tiles 0 = true), (by decide : (ldOf tiles 0).flr = false), (by decide : contained tiles 0 = false),
    (by decide : barOpen tiles 0 0 = true)⟩

theorem witness_RingRegistersTakeEffect_enable :
    ldPart (ringed idleRing tiles) 0 0 = some 0 ∧ (ringOf (ringed idleRing tiles) 63) = idleRing
    ∧ ringsEnabled (ringed idleRing tiles) 0 < 64
    ∧ ∀ k < (idleRing.sqBase + 64 * 2 ^ idleRing.sqLog2 + 2097151) / 2097152 - idleRing.sqBase / 2097152,
      canWrite (ringed idleRing tiles) 0 (idleRing.sqBase / 2097152 + k) = true := by decide

theorem witness_RingRegistersTakeEffect_stores :
    (ringOf (ringed activeRing tiles) 63).state ≠ 0
    ∧ (∃ t, coalesced 63 [63] (ringed activeRing tiles) = some (63, t) ∧ 63 < 2 ^ (ringOf t 63).sqLog2)
    ∧ ∃ t, coalesced 63 [9, 5] (ringed activeRing tiles) = some (5, t) ∧ 5 < 2 ^ (ringOf t 63).cqLog2
      ∧ (5 + 2 ^ (ringOf t 63).cqLog2 - (ringOf t 63).cqHead) % 2 ^ (ringOf t 63).cqLog2
        ≤ ((ringOf t 63).cqTail + 2 ^ (ringOf t 63).cqLog2 - (ringOf t 63).cqHead) % 2 ^ (ringOf t 63).cqLog2 :=
  ⟨by decide, ⟨_, rfl, by decide⟩, ⟨_, rfl, by decide, by decide⟩⟩

/-- R267's cases: a ring that is not ACTIVE; values at and below the sizes 2^6; a CQ_HEAD at the written records and one beyond. -/
def smallRing : Ring := { activeRing with cqLog2 := 6 }
theorem witness_DoorbellsFollowTheirRule :
    BarReady (ringed smallRing tiles) (ldNo 0 0) 0 ∧ ringState (ringed idleRing tiles) 63 ≠ 1
    ∧ ringState (ringed smallRing tiles) 63 = 1 ∧ [(1 : BitVec 16), 64].getLast? = some 64
    ∧ 2 ^ (ringOf (ringed smallRing tiles) 63).sqLog2 ≤ (64 : BitVec 16).toNat
    ∧ (63 : BitVec 16).toNat < 2 ^ (ringOf (ringed smallRing tiles) 63).sqLog2
    ∧ 2 ^ (ringOf (ringed smallRing tiles) 63).cqLog2 ≤ (64 : BitVec 16).toNat
    ∧ (smallRing.cqTail + 64 - smallRing.cqHead) % 64 < ((6 : BitVec 16).toNat + 64 - smallRing.cqHead) % 64
    ∧ ((5 : BitVec 16).toNat + 64 - smallRing.cqHead) % 64 ≤ (smallRing.cqTail + 64 - smallRing.cqHead) % 64 :=
  ⟨bar_ready_tiles _, by decide⟩

/-- Entry 0 of the ring holds an EXPOSE OPEN. -/
def fetching : State :=
  ringed activeRing (tiles.setTier { tiles.tier with mem := [(sectorNo (slotKey .batten 0 0) 0 * 64, 0x33)] })
def fetched : Option (List Byte × Bool) × State :=
  listSector [5, 63] 0 ((ringOf fetching 63).sqBase + 64 * (ringOf fetching 63).sqHead) fetching
/-- It is served as ring 63's descriptor. -/
def served1 : State := serveTurn 63 1 (forgetReads (· == [5, 63]) fetched.2)
theorem fetched_bytes : fetched.1 = some (0x33 :: zeros 63, false) := by decide
theorem witness_CommandFlowTakesEffect_fetch : ∃ t0 t, ldPart fetching 0 0 = some 0 ∧ mayFetch fetching (ldNo 0 0) 63 0 = true
    ∧ servedRing fetching = some (ldNo 0 0 * 64 + 63) ∧ (ringOf fetching (ldNo 0 0 * 64 + 63)).fetch ≤ 1
    ∧ listSector [5, ldNo 0 0 * 64 + 63] 0 ((ringOf fetching (ldNo 0 0 * 64 + 63)).sqBase + 64 * (ringOf fetching (ldNo 0 0 * 64 + 63)).sqHead) fetching
      = (some (0x33 :: zeros 63, false), t0)
    ∧ serveTurn (ldNo 0 0 * 64 + 63) 1 (forgetReads (· == [5, ldNo 0 0 * 64 + 63]) t0) = t
    ∧ sessionFull t 0 (ofBytes (0x33 :: zeros 63)) = false ∧ fetchStatus t 0 (ofBytes (0x33 :: zeros 63)) = 0 :=
  ⟨fetched.2, served1, by decide, by decide, by decide, by decide, with_snd fetched_bytes, rfl, by decide, by decide⟩

theorem witness_CommandFlowTakesEffect_gather :
    (ringOf (ringed { activeRing with gathering := true } tiles) (ringId 0 0 63)).gathering = true
    ∧ ldFrozen (ringed { activeRing with gathering := true } tiles) (ringId 0 0 63 / 64) = false := by decide

/-- A command whose expiry instant is now. -/
def late : Cmd := { cmd 2 with expiry := some 0 }
theorem witness_CommandFlowTakesEffect_late : ∃ u, cmdOf (withCmd late tiles) 1 = some late
    ∧ forget (.cmd 1) (withdraw (.cmd 1) (withCmd late tiles)) = u ∧ late.started = false
    ∧ late.expiry.any (fun e => decide (e ≤ nowUs (withCmd late tiles))) = true
    ∧ u.cmp.runs = [] ∧ u.share.expos = [] ∧ u.sess.parks = [] ∧ u.sess.wakes = [] ∧ u.sess.attendWaits = [] :=
  ⟨_, rfl, rfl, by decide, by decide, by decide, by decide, by decide, by decide, by decide⟩

def filling : Cmd := { cmd 0x20 with begun := true, started := true, todo := [2 ^ 60] }
theorem witness_CommandFlowTakesEffect_near : ∃ d, cmdOf (withCmd filling tiles) 1 = some filling ∧ filling.begun = true
    ∧ filling.discard = false ∧ 0x20 ≤ filling.op ∧ filling.op ≤ 0x23 ∧ cmdOf (nearRun 1 false (withCmd filling tiles)) 1 = some d
    ∧ nearTotal d ≤ d.todo.headD 0 := ⟨filling, by decide⟩

def aPass : Scrub := { cmd := 1, part := 0, first := 0, length := 64, summary := 0, pos := 0 }
def scrubbing : State :=
  let s := withCmd { cmd 0x24 with begun := true, started := true } tiles
  s.setDram { s.dram with scrubs := [aPass] }
theorem witness_CommandFlowTakesEffect_pass : cmdOf scrubbing 1 = some { cmd 0x24 with begun := true, started := true }
    ∧ scrubOf scrubbing 1 = some aPass ∧ aPass.failed = false ∧ contained scrubbing (0 / 64 / 16) = false
    ∧ scrubMay scrubbing aPass = true
    ∧ canMaster (scrubTo (aPass.first + aPass.length) (scrubFuel aPass) aPass scrubbing).2 (0 / 64) = true := by decide

/-! ### Exposures, claims and revokes -/

/-- An exposure at a stage, with answers. -/
def anExpo (stage : Nat) (answers : List (Participant × Nat)) : Expo :=
  { part := 0, ld := 0, actions := [], stage := stage, publish := false, cmd := none, tries := 0, answers := answers, applied := []
    rows := [], waitsRow := false, touchedUs := 0 }
def exposing (e : Expo) : State := tiles.setShare { tiles.share with expos := [(255, e)] }

/-- A PUBLISH of a tile that another partition has claimed. -/
def aPublish : Expo := { anExpo 2 [(.dirMd 0, 0)] with actions := [{ opcode := 0x32, body := 0, tiles := [], region := [0], fills := [] }] }
def publishing : State := (exposing aPublish).setTier { tiles.tier with tdes := [(0, { claimed := true })] }

theorem witness_CommitRowsTakeEffect :
    (expoOf (exposing (anExpo 2 [(.dirMd 7, 0)])) 255 = some (anExpo 2 [(.dirMd 7, 0)])
      ∧ (anExpo 2 [(.dirMd 7, 0)]).answers.contains (.dirMd 7, 0) = true
      ∧ prepareAnswer (exposing (anExpo 2 [(.dirMd 7, 0)])) (anExpo 2 [(.dirMd 7, 0)]) (.dirMd 7) ≠ 2)
    ∧ (expoOf publishing 255 = some aPublish ∧ prepareAnswer publishing aPublish (.dirMd 0) = 2 ∧ aPublish.refused = none
      ∧ aPublish.answers.contains (.dirMd 0, 0) = true)
    ∧ (expoOf (exposing (anExpo 2 [(.dirMd 7, 1)])) 255 = some (anExpo 2 [(.dirMd 7, 1)])
      ∧ ∀ q ∈ (anExpo 2 [(.dirMd 7, 1)]).answers, q.2 = 1)
    ∧ (expoOf (exposing (anExpo 4 [])) 255 = some (anExpo 4 []))
    ∧ (let e := anExpo 3 [(.dirMd 7, 1), (.iod 3, 1)]
      expoOf (exposing e) 255 = some e ∧ e.answers.any (fun q => q.1 == .iod 3) = true ∧ Participant.iod 3 ∉ e.applied
        ∧ e.answers.all (fun q => (e.applied ++ [Participant.iod 3]).contains q.1) = false
        ∧ e.answers.any (fun q => q.1 == .dirMd 7) = true)
    ∧ expoOf (exposing (anExpo 1 [])) 255 = some (anExpo 1 []) ∧ (anExpo 1 []).publish = false := by decide

def aClaim (dying : List Nat) : Claim := { part := 0, ld := 0, tiles := [0, 1], dying := some dying }
def claiming (dying : List Nat) : State := tiles.setShare { tiles.share with claims := [(0, aClaim dying)] }

theorem witness_RevokeRowsTakeEffect_claim :
    MapOps.get? 0 (claiming []).share.claims = some (aClaim [])
    ∧ MapOps.get? 0 (claiming [0, 1]).share.claims = some (aClaim [0, 1])
    ∧ (poisonClaimed 0 0 (claiming [0, 1])).2 = true := by decide

def revoking : State := tiles.setShare { tiles.share with
  revokes := [(0, { part := 0, reassign := true, rows := [], scrub := [], stage := 2 })] }
theorem witness_RevokeRowsTakeEffect_scrub :
    scrubMayEnd (setPart 63 2 0 0 revoking) 63 = true ∧ (MapOps.get? 0 revoking.share.revokes).isSome = true := by decide

end Sys2Proof.Tests
end

