-- ==== Sys2Proof/Tests/WitnessRuns.lean ====
section
/-! SUPPORT. Witnesses: states and operands that meet the hypotheses of the statements about runs, their steps and registrations. -/

namespace Sys2Proof.Tests

open Sys2Proof Sys2Proof.Machine Sys2Proof.Safety

/-- A run of program 1 on frame 0. -/
def aRun : Run :=
  { id := 1, cmd := none, part := 0, port := 0, ld := 0, program := 1, kind := 0, session := none, args := [], tokens := []
    seqs := [{ frame := 0 }], framesWanted := 1, oneCd := false, stallLimitUs := 1000, expiry := none, granted := true, grantUs := 0
    carriedPoison := false, stopping := none, stallNs := 0, scratch := none, attend := none, appending := false, copies := []
    toCopy := 0 }

def withRun (r : Run) (w : Nat) (s : State) : State :=
  s.setCmp { s.cmp with
    frames := [(0, { owner := some 0 })], runs := [r]
    registry := [(1, { state := 1, number := 1, streams := [[w]] })] }

/-- A run that stands at a step with this word; BF16 is enabled. -/
def stepping (w : Nat) : State := withRun aRun w (setTableRow 0x5050 6 1 tiles)

theorem ready_step (w : Nat) (pick : Nat → Bool) (hp : pick w = true) (hr : regulated (stepping w) aRun { frame := 0 } w = false)
    (hi : mayIssue { frame := 0 } w = true) : StepReady (stepping w) 1 0 pick aRun { frame := 0 } w :=
  ⟨rfl, rfl, rfl, rfl, hp, rfl, hr, hi⟩

def isDone : StepEnd → Bool
  | .done _ _ => true
  | _ => false

theorem exists_done {e : StepEnd} (h : isDone e = true) : ∃ q t, e = .done q t := by
  cases e <;> first | exact ⟨_, _, rfl⟩ | cases h

def isWorks : UnitEnd → Bool
  | .works _ => true
  | _ => false

theorem exists_works {e : UnitEnd} (h : isWorks e = true) : ∃ d, e = .works d := by
  cases e <;> first | exact ⟨_, rfl⟩ | cases h

/-- A VEC operation's word. -/
def vecWord (op : Nat) : Nat := 0x20 + 2 ^ 32 + op * 2 ^ 48

theorem witness_VectorOperationsTakeEffect :
    ∀ k ∈ [0x01, 0x02, 0x03, 0x04, 0x05, 0x06, 0x07, 0x08, 0x09, 0x0A, 0x0B, 0x10, 0x11, 0x12, 0x13, 0x14, 0x15, 0x16, 0x17, 0x18,
        0x19, 0x20, 0x21, 0x22, 0x30, 0x31, 0x32],
      StepReady (stepping (vecWord k)) 1 0 (vecIs 1) aRun { frame := 0 } (vecWord k) ∧ field (vecWord k) 55 48 = k := by
  intro k hk
  fin_cases hk <;> exact ⟨ready_step _ _ (by decide) (by decide) (by decide), by decide⟩

/-- A RUN step's word, of a mode. -/
def teWord (mode : Nat) : Nat := 0x10 + mode * 2 ^ 32 + 6 * 2 ^ 40 + 6 * 2 ^ 48 + 6 * 2 ^ 56

theorem witness_UnitStepsTakeEffect_te : ∀ k ∈ [0, 1, 2],
    StepReady (stepping (teWord k)) 1 0 (teIs k) aRun { frame := 0 } (teWord k)
      ∧ ∃ d, teWork (stepping (teWord k)) (teWord k) (seen { frame := 0 } (teWord k) (stepping (teWord k))) = .works d := by
  intro k hk
  fin_cases hk <;> exact ⟨ready_step _ _ (by decide) (by decide) (by decide), exists_works (by decide)⟩

/-- A VEC load (0) or store (2) in BF16. -/
def vecMove (kind : Nat) : Nat := 0x20 + kind * 2 ^ 32 + 6 * 2 ^ 40

theorem witness_UnitStepsTakeEffect_vec :
    (StepReady (stepping (vecMove 0)) 1 0 (vecIs 0) aRun { frame := 0 } (vecMove 0)
      ∧ ∃ d, vecLoad (stepping (vecMove 0)) (vecMove 0) (vecTray { frame := 0 } (vecMove 0))
        (seen { frame := 0 } (vecMove 0) (stepping (vecMove 0))) = .works d)
    ∧ StepReady (stepping (vecMove 2)) 1 0 (vecIs 2) aRun { frame := 0 } (vecMove 2)
      ∧ ∃ d, vecStore (stepping (vecMove 2)) (vecMove 2) (vecTray { frame := 0 } (vecMove 2))
        (seen { frame := 0 } (vecMove 2) (stepping (vecMove 2))) = .works d :=
  ⟨⟨ready_step _ _ (by decide) (by decide) (by decide), exists_works (by decide)⟩,
    ready_step _ _ (by decide) (by decide) (by decide), exists_works (by decide)⟩

/-- WAIT on a device word at DPA 0. -/
def waitWord (mode : Nat) : Nat := 0x30 + mode * 2 ^ 32

set_option maxRecDepth 8000 in
theorem witness_DataStepsTakeEffect :
    (StepReady (stepping 1) 1 0 (opIs 1) aRun { frame := 0 } 1 ∧ ∃ q t, loadStep aRun { frame := 0 } 1 (stepping 1) = .done q t)
    ∧ (StepReady (stepping 2) 1 0 (opIs 2) aRun { frame := 0 } 2 ∧ ∃ q t, storeStep aRun { frame := 0 } 2 (stepping 2) = .done q t)
    ∧ (StepReady (stepping (3 + 2 ^ 112)) 1 0 (opIs 3) aRun { frame := 0 } (3 + 2 ^ 112)
      ∧ ∃ q t, hintStep aRun { frame := 0 } (3 + 2 ^ 112) (stepping (3 + 2 ^ 112)) = .done q t)
    ∧ (StepReady (stepping 0x40) 1 0 (opIs 0x40) aRun { frame := 0 } 0x40
      ∧ ∃ q t, remoteWriteStep aRun { frame := 0 } 0x40 (stepping 0x40) = .done q t)
    ∧ (StepReady (stepping 0x41) 1 0 (opIs 0x41) aRun { frame := 0 } 0x41
      ∧ ∃ q t, remoteReadStep aRun 0 { frame := 0 } 0x41 (stepping 0x41) = .done q t)
    ∧ (StepReady (stepping (waitWord 1)) 1 0 (waitIs 1) aRun { frame := 0 } (waitWord 1)
      ∧ ∃ q t, deviceWait aRun { frame := 0 } (waitWord 1) (stepping (waitWord 1)) = .done q t)
    ∧ (StepReady (stepping (waitWord 2)) 1 0 (waitIs 2) aRun { frame := 0 } (waitWord 2)
      ∧ canMaster (stepping (waitWord 2)) (aRun.port * 16 + aRun.ld) = true)
    ∧ StepReady (stepping 0x5F) 1 0 (opIs 0x5F) aRun { frame := 0 } 0x5F :=
  ⟨⟨ready_step _ _ (by decide) (by decide) (by decide), exists_done (by decide)⟩,
    ⟨ready_step _ _ (by decide) (by decide) (by decide), exists_done (by decide)⟩,
    ⟨ready_step _ _ (by decide) (by decide) (by decide), exists_done (by decide)⟩,
    ⟨ready_step _ _ (by decide) (by decide) (by decide), exists_done (by decide)⟩,
    ⟨ready_step _ _ (by decide) (by decide) (by decide), exists_done (by decide)⟩,
    ⟨ready_step _ _ (by decide) (by decide) (by decide), exists_done (by decide)⟩,
    ⟨ready_step _ _ (by decide) (by decide) (by decide), by decide⟩,
    ready_step _ _ (by decide) (by decide) (by decide)⟩

def waitingRun : Run := { aRun with seqs := [{ frame := 0, wordWait := some (1, 0) }] }
def waitingState : State := withRun waitingRun (waitWord 1) tiles

set_option maxRecDepth 8000 in
theorem witness_DataStepsTakeEffect_poll : ∃ r q w, runOf waitingState 1 = some r ∧ seqOf r 0 = some q ∧ stepAt waitingState r 0 q = some w
    ∧ running waitingState r q = true ∧ regulated waitingState r q w = false ∧ polling waitingState r 0 = false ∧ q.wordWait = some (1, wordAddr r w)
    ∧ ∃ q1 t, deviceWait r q w waitingState = .done q1 t :=
  ⟨_, _, _, rfl, rfl, rfl, by decide, by decide, by decide, by decide, exists_done (by decide)⟩

theorem witness_ControlStepsTakeEffect :
    StepReady (stepping 0) 1 0 (opIs 0) aRun { frame := 0 } 0
    ∧ (StepReady (stepping (waitWord 0)) 1 0 (waitIs 0) aRun { frame := 0 } (waitWord 0)
      ∧ reached (tokenOf aRun (field (waitWord 0) 39 34)) (waitValue { frame := 0 } (waitWord 0)) = true)
    ∧ StepReady (stepping 0x31) 1 0 (signalIs false) aRun { frame := 0 } 0x31
    ∧ StepReady (stepping (0x31 + 2 ^ 32)) 1 0 (signalIs true) aRun { frame := 0 } (0x31 + 2 ^ 32)
    ∧ (StepReady (stepping 0x50) 1 0 (opIs 0x50) aRun { frame := 0 } 0x50 ∧ bitAt 0x50 34 = false)
    ∧ (StepReady (stepping (0x50 + 2 ^ 34 + 2 ^ 64)) 1 0 (opIs 0x50) { aRun with args := [] } { frame := 0 } (0x50 + 2 ^ 34 + 2 ^ 64)
      ∧ loopCount aRun (0x50 + 2 ^ 34 + 2 ^ 64) ≤ 16777215) :=
  ⟨ready_step _ _ (by decide) (by decide) (by decide),
    ⟨ready_step _ _ (by decide) (by decide) (by decide), by decide⟩,
    ready_step _ _ (by decide) (by decide) (by decide), ready_step _ _ (by decide) (by decide) (by decide),
    ⟨ready_step _ _ (by decide) (by decide) (by decide), by decide⟩,
    ⟨ready_step _ _ (by decide) (by decide) (by decide), by decide⟩⟩

theorem witness_TokensCountModulo : runOf (stepping 0) 1 = some aRun ∧ aRun.id = 1 ∧ (63 : Nat) ≠ 0 ∧ (2 : Nat) ≠ 1
    ∧ 4294967295 < 2 ^ 32 ∧ reached ((4294967295 + 2147483647) % 2 ^ 32) 4294967295 = true
    ∧ reached ((4294967295 + 2147483648) % 2 ^ 32) 4294967295 = false := ⟨rfl, by decide⟩

/-! ### Ends of steps and runs -/

def anIssued (poisoned : Bool) : Issued :=
  { step := 4, word := 1, waiting := [], arrival := none, poisoned := poisoned, key := 0, toCome := 0 }
def issuedRun : Run := { aRun with seqs := [{ frame := 0, issued := [anIssued true] }] }

theorem witness_RunEndsTakeEffect_step : ∃ r q t p, runOf (withRun issuedRun 1 tiles) 1 = some r ∧ seqOf r 0 = some q
    ∧ (q.issued.filter fun i => i.step == 4 && ! i.waiting.isEmpty && ! i.poisoned).foldl (fun u i => retryStep 1 0 i u)
      (withRun issuedRun 1 tiles) = t
    ∧ (issuesOf t 1 0 4).find? (fun p => workDone p.1 p.2) = some p ∧ p.2.poisoned = true :=
  ⟨_, _, _, _, rfl, rfl, rfl, rfl, rfl⟩

/-- A run whose frame has stalled since power-on, for as long as its limit. -/
def stalledRun : Run := { aRun with seqs := [{ frame := 0, stalledSince := some 0 }] }
def stalled : State := (withRun stalledRun 1 tiles).setTime { tiles.time with us := 1000 }
theorem witness_RunEndsTakeEffect_stall : ∃ r q, runOf stalled 1 = some r ∧ seqOf r 0 = some q
    ∧ q.stalledSince = some 0 ∧ 0 + r.stallLimitUs ≤ nowUs stalled ∧ r.stopping = none ∧ r.granted = true :=
  ⟨_, _, rfl, rfl, by decide, by decide, by decide, by decide⟩

theorem witness_RunEndsTakeEffect_stop : ∃ r, runOf (withRun { aRun with stopping := some 0 } 1 tiles) 1 = some r
    ∧ r.stopping = some 0 := ⟨_, rfl, by decide⟩

def appender : Run :=
  { aRun with attend := some (0, 1, true, 0), session := some 5, appending := true, copies := [(0, zeros 64, false)] }
theorem appender_done : (appendPass appender (withRun appender 1 tiles)).1 = [] := by decide
theorem witness_RunEndsTakeEffect_append : ∃ r t, runOf (withRun appender 1 tiles) 1 = some r ∧ r.attend = some (0, 1, true, 0)
    ∧ r.session = some 5 ∧ r.appending = true ∧ r.toCopy = 0 ∧ r.copies ≠ []
    ∧ heldMaster (withRun appender 1 tiles) (64 + r.part) = false ∧ appendStatus (withRun appender 1 tiles) r = 0
    ∧ appendPass r (withRun appender 1 tiles) = ([], t) ∧ r.copyBad = false ∧ ∀ c ∈ r.copies, c.2.2 = false :=
  ⟨appender, _, rfl, rfl, rfl, rfl, rfl, by decide, by decide, by decide, Prod.ext appender_done rfl, rfl, by decide⟩

/-! ### Grants and registrations -/

def waiter : Run := { aRun with granted := false, seqs := [{ frame := noFrame }] }
def granting : State := tiles.setCmp { tiles.cmp with runs := [waiter] }

theorem witness_GrantAndRegistrationTakeEffect_grant :
    (granting.cmp.runs.filter fun q => q.part == 0 && q.granted && q.stopping.isNone).foldl (fun u q => refillFrames q u) granting
      = granting
    ∧ waitingHead granting 0 = some waiter ∧ waiter.expiry = none ∧ grantFor granting waiter = some [0]
    ∧ turnOf granting 0 = true := ⟨rfl, by decide, by decide, by decide, by decide⟩

def switching (dst : Option Nat) : State := tiles.setCmp { tiles.cmp with frames := [(35, { switching := some dst })] }
theorem witness_GrantAndRegistrationTakeEffect_switch :
    (frameOf (switching (some 63)) 35).switching = some (some 63) ∧ (frameOf (switching none) 35).switching = some none
    ∧ (frameOf (switching none) 35).run = none := by decide

def regJob : RegJob :=
  { part := 0, kind := 1, number := 5, first := 0, extents := 1, length := 64, digest := sha256 (zeros 64), reload := false }
def registering : State := tiles.setCmp { tiles.cmp with regJobs := [regJob] }

set_option maxRecDepth 20000 in
theorem registering_bytes : (regBytes 0 0 1 64 registering).1 = some (zeros 64) := by decide
set_option maxRecDepth 20000 in
theorem registering_keeps : (regBytes 0 0 1 64 registering).2.cmp.registry = [] := by rfl

set_option maxRecDepth 20000 in
theorem witness_GrantAndRegistrationTakeEffect_register : ∃ t, registering.cmp.regJobs.find? (·.part == 0) = some regJob
    ∧ regJob.reload = false ∧ heldMaster registering 64 = false ∧ regBytes 0 regJob.first regJob.extents regJob.length registering = (some (zeros 64), t)
    ∧ (zeros 64).length = regJob.length ∧ sha256 (zeros 64) = regJob.digest
    ∧ (if regJob.kind == 0 then parseImage t (zeros 64) else some ⟨3, 0, false, 0, []⟩) = some ⟨3, 0, false, 0, []⟩
    ∧ (if regJob.number == 0 then regFree t regJob.kind else some regJob.number) = some 5
    ∧ MapOps.get? (regKey regJob.kind 5) t.cmp.registry = none :=
  ⟨(regBytes 0 0 1 64 registering).2, rfl, rfl, by decide, with_snd registering_bytes, rfl, rfl, rfl, rfl, by rw [registering_keeps]; rfl⟩

end Sys2Proof.Tests
end

