-- ==== Sys2Proof/Tests/WitnessStart.lean ====
section
/-! SUPPORT. Witnesses: states and operands that meet the hypotheses of the statements about memory controllers, Underlay, budgets,
start, clocks and instruments, and of those about rules, frames and invariants. -/

namespace Sys2Proof.Tests

open Sys2Proof Sys2Proof.Machine Sys2Proof.Safety

/-! ### Memory controllers -/

/-- The tiles with controllers 15 (BCH15) and 23 (HS7) as given. -/
def ctls (a b : DramCtl) : State :=
  tiles.setDram { tiles.dram with dpc := 1, ranks := 2, dimmGiB := 64, ctls := [(15, a), (23, b)] }

theorem witness_ControllerRowsTakeEffect :
    (ctlNo (.ddr 15) = 15 ∧ ctlUp (ctls { state := 1 } { state := 1 }) 15 = true ∧ ctlNo (.hbm 7) = 23
      ∧ ctlUp (ctls { state := 1 } { state := 1 }) 23 = true)
    ∧ queueRoom (ctlOf (ctls { state := 1 } { state := 1 }) 15) 15 true = true
    ∧ 2 ^ 30 - 1 < ctlSectors (ctls {} {}) 15 ∧ (ctlOf (ctls { state := 1 } { state := 1 }) 15).alert = false
    ∧ ((ctlOf (ctls { state := 1, alert := true, episode := 6 } {}) 15).alert = true
      ∧ (ctlOf (ctls { state := 1, alert := true, episode := 6 } {}) 15).episode < 7)
    ∧ itemOf (ctls {} {}) .ddrZq 15 0 = true ∧ itemOf (ctls {} {}) .hbmTiming 23 31 = true ∧ (ctlOf (ctls { state := 1 } {}) 15).selfRefresh = false := by decide

theorem witness_ReplayLimitFailsTheMemory :
    (ctlOf (ctls { state := 1, alert := true, episode := 7 } {}) 15).alert = true
    ∧ 7 ≤ (ctlOf (ctls { state := 1, alert := true, episode := 7 } {}) 15).episode
    ∧ (ctlOf (ctls { state := 1, alert := true, episode := 7 } {}) 15).state = 1 := by decide

theorem witness_RefreshesAreNeverSkipped : ctlNo (.ddr 15) = 15 ∧ ctlUp (ctls { state := 1, postponed := [(0, 4)] } {}) 15 = true
    ∧ MapOps.getD 0 0 (ctlOf (ctls { state := 1, postponed := [(0, 4)] } {}) 15).postponed ≤ 4
    ∧ ∃ t, exec (.refreshDue ⟨.ddr 15, 0⟩ 0 false true) (ctls { state := 1, postponed := [(0, 4)] } {}) = .next t :=
  ⟨by decide, by decide, by decide, ⟨_, rfl⟩⟩

def aReq : DramReq :=
  { id := 0, port := .host, isWrite := false, sector := 0, place := 0, bank := 0, row := 0, data := [], got := none, starved := false }
def oneRead : FwdRead :=
  { id := 6, req := ⟨0, 0, 7, 0, 0⟩, key := 0, sector := 0, tier := .ridge, md := 7, slot := 0, len := 0, sheetSlot := 0
    sheetGen := 0, sinceUs := 0 }
def reading : State := (ctls {} { state := 1 }).setTier { tiles.tier with reads := [oneRead] }

/-- Tile 0 lies in the Ridge of stack 7, which is up. -/
def homed : State := (ctls {} { state := 1 }).setTier { tiles.tier with tdes := [(0, { tier := .ridge, homeMd := 7 })] }

theorem witness_MemoryIdleAndReadRowsTakeEffect :
    (ctlUp (ctls { state := 1 } {}) 15 = true ∧ scalar (ctls { state := 1 } {}) 0x2600 4 200 ≠ 0)
    ∧ ((ctlOf (ctls { state := 1, selfRefresh := true, queue := [aReq] } {}) 15).selfRefresh = true
      ∧ (ctlOf (ctls { state := 1, selfRefresh := true, queue := [aReq] } {}) 15).queue ≠ [])
    ∧ (ctlUp (ctls {} { state := 1, queue := [aReq] }) (16 + 7) = true
      ∧ ∀ r ∈ (ctlOf (ctls {} { state := 1, queue := [aReq] }) (16 + 7)).queue, r.place ≠ 31)
    ∧ (reading.tier.reads.find? (·.id == 6) = some oneRead ∧ (reading.codec.decodes.any fun j => j.use == .host 6) = false
      ∧ ctlUp reading (ctlAt reading oneRead.tier oneRead.md oneRead.slot oneRead.sector) = true)
    ∧ (isHome (tdeOf homed 0).tier = true
      ∧ ctlUp homed (ctlAt homed (tdeOf homed 0).tier (tdeOf homed 0).homeMd (tdeOf homed 0).homeSlot 1023) = true)
    ∧ (tiles.setDram { tiles.dram with reserveScrub := 1, reserveGo := true }).dram.reserveScrub = 1
    ∧ (tiles.setDram { tiles.dram with reserveScrub := 1, reserveGo := true }).dram.reserveGo = true := by decide

/-! ### Underlay and budgets -/

/-- A record of the release of EPR 0. -/
def aRecord : LogRec := { body := .release 0 }
def nand : State := tiles.setUnd { tiles.und with
  state := 2, channels := [(15, 1)], ces := 1, luns := 1, planes := 1, pages := 1024, blocks := 1000
  superblocks := [(0, { use := 1 }), (1, { use := 2, firstProgram := some 0, reads := [(15 * 16, 2 ^ 40)] })]
  forming := [aRecord], programming := [] }

set_option maxRecDepth 20000 in
theorem witness_UnderlayAndBudgetRowsTakeEffect :
    (MapOps.getD 15 0 nand.und.channels = 1 ∧ nand.start.stage ≠ .train ∧ underlayUp nand = true ∧ (sbOf nand 1).use ≠ 0
      ∧ rowPage nand 0 < nand.und.pages
      ∧ (∃ j : Fin 120, chunkChannel nand 1 0 j.val = 15 ∧ j.val < rowChunks (sbOf nand 1)) ∧ 1 ≠ sbTotal nand ∧ (sbOf nand 1).use = 2
      ∧ (sbOf nand 1).valid = 0)
    ∧ (∃ row : Fin 64, parityChannel nand 1 row.val = 15 ∧ rowPage nand row.val < nand.und.pages
      ∧ chunkChannel nand 1 row.val 0 ≠ 15)
    ∧ (sbOf nand 0).use = 1
    ∧ (nand.und.programming = [] ∧ nand.und.forming ≠ [] ∧ underlayUp nand = true)
    ∧ (nand.setUnd { nand.und with programming := [aRecord] }).und.programming ≠ [] ∧ isLit nand = true := by decide

/-- The same device once superblock 1 has reached its age and one of its blocks its read limit. -/
def aged (s : State) : State := s.setUnd { s.und with
  h := ageLimit s (sbOf s 1) * 86400000
  superblocks := [(1, { use := 2, firstProgram := some 0, reads := [(240, Config.flashReadLimit (flashPolicy s))] })] }

theorem aged_limit (s : State) (h : sbWear s (sbOf (aged s) 1) = sbWear s (sbOf s 1)) :
    ageLimit (aged s) (sbOf (aged s) 1) * 86400000 ≤ retention (aged s) := by
  have e : ageLimit (aged s) (sbOf (aged s) 1) = ageLimit s (sbOf s 1) := by
    show min _ (Config.flashRetentionDays (flashPolicy s) (sbWear s (sbOf (aged s) 1) / _)) = _
    rw [h]
    rfl
  rw [e]
  unfold retention
  exact Nat.le_trans (Nat.le_trans (Nat.le_add_right _ _) (Nat.le_max_right _ _)) (Nat.le_max_right _ _)

theorem witness_UnderlayAndBudgetRowsTakeEffect_aged : (sbOf (aged nand) 1).use ≠ 0 ∧ underlayUp (aged nand) = true
    ∧ (sbOf (aged nand) 1).firstProgram = some 0
    ∧ 0 + ageLimit (aged nand) (sbOf (aged nand) 1) * 86400000 ≤ retention (aged nand)
    ∧ ∃ p ∈ (sbOf (aged nand) 1).reads, Config.flashReadLimit (flashPolicy (aged nand)) ≤ p.2 :=
  ⟨by decide, by decide, rfl, by rw [Nat.zero_add]; exact aged_limit nand rfl,
    ⟨(240, Config.flashReadLimit (flashPolicy nand)), List.mem_singleton.2 rfl, Nat.le_refl _⟩⟩

theorem witness_UnderlayAndBudgetRowsTakeEffect_checkpoint :
    underlayUp nand = true ∧ ∀ r ∈ nand.und.forming ++ nand.und.programming, ∀ q, r.body ≠ .checkpoint q := by
  refine ⟨by decide, fun r h q => ?_⟩
  simp only [nand, State.setUnd, List.append_nil, List.mem_singleton] at h
  rw [h]
  exact fun e => by cases e

/-- The device at a stage of its start. -/
def at_ (g : Stage) : State := modStart (fun b => { b with stage := g }) State.reset

theorem witness_UnderlayAndBudgetRowsTakeEffect_mount :
    ((at_ .train).setUnd { (at_ .train).und with formatted := true, state := 1 }).start.stage = .train
    ∧ ((at_ .train).setUnd { (at_ .train).und with formatted := true, state := 1 }).und.mount = none
    ∧ ((at_ .train).setUnd { (at_ .train).und with formatted := true, state := 1 }).und.formatted = true
    ∧ ((at_ .train).setUnd { (at_ .train).und with formatted := true, state := 1 }).und.state = 1 := by decide

/-! ### Start -/

theorem witness_StartRowsTakeEffect :
    (at_ .off).start.stage = .off
    ∧ (((at_ .held).setPkg { (at_ .held).pkg with grst := true }).pkg.grst = true
      ∧ ((at_ .held).setPkg { (at_ .held).pkg with grst := true }).start.stage = .held ∧ (at_ .held).pkg.railsBad = [])
    ∧ (State.reset.start.stage ≠ .off ∧ State.reset.start.stage ≠ .tripped ∧ State.reset.start.stage = .oscDelay)
    ∧ ((at_ .judging).start.stage = .judging ∧ loscGood 1250 1251 = true)
    ∧ ((at_ .fuses).start.stage = .fuses ∧ storedScalar (at_ .fuses) 0x1800 5 0 ≤ (at_ .fuses).start.failures)
    ∧ ((at_ .image).start.stage = .image ∧ storedScalar (at_ .image) 0x2800 6 0 % 2 = 0)
    ∧ ((at_ .train).start.stage = .train ∧ (ctlOf (at_ .train) 15).state ≠ 2)
    ∧ (mountOver bare (at_ .train) = true ∧ ∀ t ∈ (at_ .train).pkg.temps.take 16, t < 1050)
    ∧ ((at_ .retry).start.stage = .retry ∧ (at_ .retry).pkg.railsBad = [])
    ∧ inS0 State.reset = false ∧ (10 : Fin 11) ≠ 0
    ∧ (((at_ .held).setPkg { (at_ .held).pkg with railsBad := [10] }).pkg.grst = false
      ∧ ((at_ .held).setPkg { (at_ .held).pkg with railsBad := [10] }).pkg.railsBad ≠ []) := by decide

/-! ### Clocks and instruments -/

theorem witness_ClockRowsTakeEffect :
    ((modStart (fun b => { b with candidate := some 3 }) board).start.candidate = some 3 ∧ (-40000 : Int).natAbs ≤ 40000)
    ∧ ((modStart (fun b => { b with refInUse := 2, losc := true }) board).start.refInUse = 2
      ∧ (modStart (fun b => { b with refInUse := 2, losc := true }) board).start.losc = true
      ∧ (modStart (fun b => { b with refInUse := 2, losc := true }) board).start.stage = .lit)
    ∧ ((modStart (fun b => { b with ddrEnable := 0 }) board).start.ddrEnable.getLsbD 15 = false ∧ 15 ∉ board.start.gatesClosed)
    ∧ ((modStart (fun b => { b with frameEnable := 0 }) board).start.frameEnable.getLsbD 35 = false
      ∧ board.start.frameOpen.getLsbD 35 = true ∧ (frameOf board 35).run = none ∧ (frameOf board 35).switching = none) := by decide

/-- The state that a sample of these die temperatures gives before the device acts on it. -/
def sampled (t : Int) : State :=
  countBands (board.setPkg { board.pkg with temps := (List.replicate 24 t).take 24, dimm := 300, rails := (List.replicate 11 0).take 11 })

set_option maxRecDepth 20000 in
theorem witness_InstrumentRowsTakeEffect :
    (dieAbove (sampled 1149) 1150 = none ∧ isLit (sampled 1149) = true ∧ dieAbove (sampled 1150) 1150 = some 0)
    ∧ (isLit board = true ∧ 0 < sensorsOf 23 ∧ (23 : Fin 24).val * 16 + 0 ∉ board.pkg.sensorsFailed)
    ∧ ((board.setPkg { board.pkg with derating := true }).pkg.derating = true
      ∧ slowed (board.setPkg { board.pkg with derating := true }).pkg = false)
    ∧ inS0 board = false ∧ (board.start.stage ≠ .off ∧ 1 ∉ board.pkg.railsBad)
    ∧ scalar (setScalar 0x3800 1 1 board) 0x3800 1 0 = 1 ∧ board.start.stage = .lit ∧ roadOpen board .i3c = true := by decide

/-! ### Rules, frames and invariants -/

theorem judge_same {s : State} (h : (judge s).regul.congested = s.regul.congested) : judge s = s :=
  congrArg (fun l => s.setRegul { s.regul with congested := l }) h

theorem witness_QuietDeviceStaysAtRest : Quiet lit := by
  constructor <;> first | exact judge_same (by decide) | decide

theorem witness_SecurityAndRequestFrames : isSecurity .debugChallenge = true ∧ isRequest (.identify ⟨.pf0 0, 0⟩) = true
    ∧ (∃ t, exec .debugChallenge board = .next t) ∧ ∃ t, exec (.identify ⟨.pf0 0, 0⟩) board = .next t := ⟨rfl, rfl, ⟨_, rfl⟩, ⟨_, rfl⟩⟩

theorem witness_UnitStepFrames : isUnitStep (.nop 1 0) = true ∧ ∃ t, exec (.nop 1 0) board = .next t := ⟨rfl, ⟨_, rfl⟩⟩

theorem witness_ControllerFrames : isController .reserveScrubDone = true ∧ ∃ t, exec .reserveScrubDone board = .next t :=
  ⟨rfl, ⟨_, rfl⟩⟩

theorem witness_FusesOnlyBurn : burnedIn board.fuses board.fuses ∧ ∃ t, step board = .next t :=
  ⟨⟨fun _ _ h => h, fun _ _ h => h, fun _ h => h⟩, ⟨_, rfl⟩⟩

theorem encodeBlock_some {slot gen size : Nat} {wide : Bool} {entries : List Nat} {raw : List Byte}
    (h : 16 + ((encodeSubs size wide entries raw).map List.length).sum ≤ 4080) :
    ∃ b, encodeBlock slot gen size wide entries raw = some b := by
  unfold encodeBlock
  simp only
  rw [if_pos (by simpa [codedHeader, toBytes_length, List.length_flatten] using h)]
  exact ⟨_, rfl⟩

/-- A block of zeros, with 0 as the sheet's one entry, is coded. -/
theorem witness_CodedBlocksDecodeToTheirBytes : (63 : Nat) < 64 ∧ (1023 : Nat) < 1024 ∧ ([0] : List Nat).length ≤ classSize 0
    ∧ (zeros 4096).length = 4096 ∧ ∃ b, encodeBlock 63 1023 0 true [0] (zeros 4096) = some b :=
  ⟨by decide, by decide, by decide, List.length_replicate, encodeBlock_some (by decide +kernel)⟩

theorem witness_RolloverClearsOneMaster : (2 : Nat) < 3 ∧ (130 : Nat) ≠ 129 := by decide

def anEvent : Event := { code := 0x0201, part := none, seq := 0, calendar := 0, detail := 0 }
theorem witness_EventBanksFollowTheirRule :
    (List.replicate 1023 anEvent).length < 1024 ∧ 1024 ≤ (List.replicate 1024 anEvent).length
    ∧ ({ lostNow := 3 } : EventLog).lostNow ≠ 0 := ⟨by rw [List.length_replicate]; decide, by rw [List.length_replicate], by decide⟩

theorem witness_DebugCloseIsFinal :
    board.fuses.debugClose.length = 3 ∧ debugBurned (burnDebug board) = true ∧ (burnDebug board).sec.debug = 2
    ∧ (burnDebug board).start.stage ≠ .off ∧ 1 ∉ (burnDebug board).pkg.railsBad := by decide

theorem witness_MaskedMessagesStayPending :
    MapOps.getD 0 (0, 0, true) (ldOf board 0).msixTable = (0, 0, true)
    ∧ (let s := modLd 0 (fun l => { l with msixEnable := true, msixTable := [(2047, (64, 1, false))] }) board
      MapOps.getD 2047 (0, 0, true) (ldOf s 0).msixTable = (64, 1, false) ∧ (ldOf s 0).functionMask = false
        ∧ (ldOf s 0).msixEnable = true) := by decide

end Sys2Proof.Tests
end

