-- ==== Sys2Proof/Tests/WitnessTiers.lean ====
section
/-! SUPPORT. Witnesses: states and operands that meet the hypotheses of the statements about commands in flight, moves, parks,
held accesses, the codec and accesses. -/

namespace Sys2Proof.Tests

open Sys2Proof Sys2Proof.Machine Sys2Proof.Safety

theorem witness_IdleStepTicks : board.pending = [] := rfl
theorem witness_IdleStepTicks_off : (modStart (fun b => { b with stage := .off }) lit).start.stage = .off
    ∧ (modStart (fun b => { b with stage := .off }) lit).pending = [] := ⟨rfl, rfl⟩

theorem witness_ExtentCommandsTakeEffect :
    (∀ k ∈ [1, 2, 3, 4, 5], Ready (flying (2 + k * 2 ^ 147)) 1 2 (hintForm k) (cmd (2 + k * 2 ^ 147))
      ∧ hintBehind (flying (2 + k * 2 ^ 147)) 1 = false)
    ∧ Ready (flying 1) 1 1 (fun _ => true) (cmd 1)
    ∧ ∀ k ∈ [3, 4, 5], Ready (flying k) 1 k extForm (cmd k) :=
  ⟨fun k hk => ⟨ready_flying _ _ _ (by fin_cases hk <;> decide) (by fin_cases hk <;> decide) (by fin_cases hk <;> decide)
      (by fin_cases hk <;> decide), by fin_cases hk <;> decide⟩, ready_flying _ _ _ (by decide) rfl (by decide) (by decide),
    fun k hk => ready_flying _ _ _ (by fin_cases hk <;> decide) (by fin_cases hk <;> decide) (by fin_cases hk <;> decide)
      (by fin_cases hk <;> decide)⟩

theorem witness_SessionCommandsTakeEffect :
    (∀ k ∈ [1, 2, 3, 4, 5], Ready (flying (2 + 2 ^ 146 + k * 2 ^ 147)) 1 2 (sessHint k) (cmd (2 + 2 ^ 146 + k * 2 ^ 147))
      ∧ hintBehind (flying (2 + 2 ^ 146 + k * 2 ^ 147)) 1 = false)
    ∧ (∀ k ∈ [3, 4, 5], Ready (flying (k + 2 ^ 146)) 1 k sessForm (cmd (k + 2 ^ 146)))
    ∧ (∀ k ∈ [0, 1, 2, 3], Ready (flying (0x10 + k * 2 ^ 146)) 1 0x10 (bindForm k) (cmd (0x10 + k * 2 ^ 146)))
    ∧ Ready (flying 0x11) 1 0x11 (fun q => ! bitAt q.desc 147) (cmd 0x11)
    ∧ Ready (flying (0x11 + 2 ^ 147)) 1 0x11 (fun q => bitAt q.desc 147) (cmd (0x11 + 2 ^ 147)) :=
  ⟨fun k hk => ⟨ready_flying _ _ _ (by fin_cases hk <;> decide) (by fin_cases hk <;> decide) (by fin_cases hk <;> decide)
      (by fin_cases hk <;> decide), by fin_cases hk <;> decide⟩,
    fun k hk => ready_flying _ _ _ (by fin_cases hk <;> decide) (by fin_cases hk <;> decide) (by fin_cases hk <;> decide)
      (by fin_cases hk <;> decide),
    fun k hk => ready_flying _ _ _ (by fin_cases hk <;> decide) (by fin_cases hk <;> decide) (by fin_cases hk <;> decide)
      (by fin_cases hk <;> decide),
    ready_flying _ _ _ (by decide) (by decide) (by decide) (by decide),
    ready_flying _ _ _ (by decide) (by decide) (by decide) (by decide)⟩

theorem witness_NearMemoryCommandsTakeEffect :
    (∀ k ∈ [0x20, 0x21, 0x22, 0x24, 0x25], Ready (flying k) 1 k (fun _ => true) (cmd k))
    ∧ ∀ k ∈ [0x01, 0x05, 0x06, 0x30, 0x31, 0x32],
      Ready (flying (0x23 + k * 2 ^ 368)) 1 0x23 (reduceIs k) (cmd (0x23 + k * 2 ^ 368)) :=
  ⟨fun k hk => ready_flying _ _ _ (by fin_cases hk <;> decide) rfl (by fin_cases hk <;> decide) (by fin_cases hk <;> decide),
    fun k hk => ready_flying _ _ _ (by fin_cases hk <;> decide) (by fin_cases hk <;> decide) (by fin_cases hk <;> decide)
      (by fin_cases hk <;> decide)⟩

theorem witness_RunAndShareCommandsTakeEffect :
    (∀ k ∈ [0x12, 0x13, 0x14, 0x30, 0x31, 0x32, 0x40], Ready (flying k) 1 k (fun _ => true) (cmd k))
    ∧ ∀ k ∈ [0, 1, 2, 3], Ready (flying (0x33 + k * 2 ^ 128)) 1 0x33 (exposeIs k) (cmd (0x33 + k * 2 ^ 128)) :=
  ⟨fun k hk => ready_flying _ _ _ (by fin_cases hk <;> decide) rfl (by fin_cases hk <;> decide) (by fin_cases hk <;> decide),
    fun k hk => ready_flying _ _ _ (by fin_cases hk <;> decide) (by fin_cases hk <;> decide) (by fin_cases hk <;> decide)
      (by fin_cases hk <;> decide)⟩

def askedMove : MoveReq :=
  { key := 0, tier := .ridge, md := 0, kind := .plain, hint := 0, master := 0, evict := none, waiters := []
    admitted := true }
def moveAsked : State := tiles.setTier { tiles.tier with moveQueue := [askedMove] }

theorem witness_MoveEngineCommandsTakeEffect_start :
    movesAt moveAsked 0 < 64 ∧ moveAsked.tier.moveQueue.find? (moveMay moveAsked 0) = some askedMove := by decide

theorem witness_MoveEngineCommandsTakeEffect_run :
    (∃ m, moveOf (moving false) (tileKey 0 0) = some m ∧ m.window = false ∧ m.ready = false ∧ coding (moving false) m.key false = false
      ∧ moveUp (moving false) m = true)
    ∧ ∃ m, moveOf (moving true) (tileKey 0 0) = some m ∧ m.window = true ∧ moveUp (moving true) m = true :=
  ⟨⟨_, rfl, by decide, by decide, by decide, by decide⟩, ⟨_, rfl, by decide, by decide⟩⟩

def pendingSlots : State := tiles.setTier { tiles.tier with
  slots := [(slotKey .ridge 7 5, .freePending 0), (slotKey .batten 0 5, .freePending 0)] }
theorem witness_MoveEngineCommandsTakeEffect_slot :
    MapOps.get? (slotKey (if true then .batten else .ridge) 0 5) pendingSlots.tier.slots = some (.freePending 0)
    ∧ MapOps.get? (slotKey (if false then .batten else .ridge) 7 5) pendingSlots.tier.slots = some (.freePending 0) := by decide

/-- A write of the device itself waits for a slot for tile 0. -/
def aWait : SlotWait := { key := 0, who := [1, 1] }
def slotWaiting : State := tiles.setTier { tiles.tier with slotWaits := [aWait] }

theorem witness_HoldLimitCommandsTakeEffect :
    ((holding (heldAccess false true none)).tier.held.find? (fun q => q.key == tileKey 0 0 && q.onSlot)
      = some (heldAccess false true none))
    ∧ (((slotWaiting.tier.held.any fun q => q.key == tileKey 0 0 && q.onSlot) = false
      ∧ slotWaitOf slotWaiting (tileKey 0 0) = some aWait))
    ∧ ((holding (heldAccess true false none)).tier.held.find?
        (fun q => q.key == tileKey 0 0 && q.onPark && q.store.isNone && q.req.tag == 7) = some (heldAccess true false none))
    ∧ ((holding (heldAccess true false (some (1, [], false)))).tier.held.find?
        (fun q => q.key == tileKey 0 0 && q.onPark && q.store.isSome && ! q.lost && q.req.tag == 7)
      = some (heldAccess true false (some (1, [], false)))) := by decide

def parkAsked : State :=
  (tiles.setTier { tiles.tier with parkQueue := [extReq 0] }).setUnd { tiles.und with state := 2 }
theorem witness_ParkEngineCommandsTakeEffect_start :
    underlayParks parkAsked = true ∧ parkAsked.tier.parkQueue.find? (parkMay parkAsked 0) = some (extReq 0)
    ∧ extHeld parkAsked (extReq 0).ext = false ∧ progHolds parkAsked (extReq 0).ext = false := by decide

theorem witness_ParkEngineCommandsTakeEffect_run :
    (∃ p, parkOf (parking false) 0 = some p ∧ p.window = false ∧ p.committing = false
      ∧ (tilesOf 0).any (fun k => coding (parking false) k true) = false ∧ parkUp (parking false) 0 = true)
    ∧ ∃ p, parkOf (parking true) 0 = some p ∧ p.window = true ∧ p.committing = false ∧ parkUp (parking true) 0 = true
      ∧ moveOf (parking true) (tileKey 0 0) = none :=
  ⟨⟨_, rfl, by decide, by decide, by decide, by decide⟩, ⟨_, rfl, by decide, by decide, by decide, by decide⟩⟩

def unparkAsked : State :=
  (tiles.setTier { tiles.tier with unparkQueue := [extReq 1], exts := [(0, { kind := 1 }), (1, { kind := 2, link := 3 })] }).setUnd
    { tiles.und with state := 2, eprs := [(3, { ext := 1 })] }
/-- The same device once the MD has read the record. -/
def unparkReady : State := unparkAsked.setUnd { unparkAsked.und with cached := [(0, [3]), (1, [3]), (2, [3]), (3, [3])] }
theorem allocGroup_some {s : State} {ext : Nat}
    (h : (groupCount s (dirMd s ext) - (groupsUsed s (dirMd s ext)).length == 0 || bitAt s.tier.battenDown.toNat (dirMd s ext))
      = false) : ∃ g t, allocGroup s ext = some (g, t) := by
  unfold allocGroup
  simp only
  rw [if_neg (by rw [h]; simp)]
  exact ⟨_, _, rfl⟩

theorem witness_ParkEngineCommandsTakeEffect_unpark :
    unparksAt unparkAsked 0 < 32 ∧ unparkAsked.tier.unparks.length < 256 ∧ unparkAsked.und.state ≠ 1
    ∧ unparkAsked.tier.unparkQueue.find? (unparkMay unparkAsked 0) = some (extReq 1) ∧ (entryOf unparkAsked 1).link = 3
    ∧ noUnderlay unparkAsked = false ∧ imageOf unparkAsked 1 = some 3
    ∧ eprCached unparkAsked 3 = false ∧ pageUnreadable unparkAsked (2 * 3) = false := by decide

theorem witness_ParkEngineCommandsTakeEffect_begin :
    unparksAt unparkReady 0 < 32 ∧ unparkReady.tier.unparks.length < 256 ∧ unparkReady.und.state ≠ 1
    ∧ unparkReady.tier.unparkQueue.find? (unparkMay unparkReady 0) = some (extReq 1) ∧ (entryOf unparkReady 1).link = 3
    ∧ noUnderlay unparkReady = false ∧ imageOf unparkReady 1 = some 3 ∧ eprCached unparkReady 3 = true
    ∧ unparkReady.tier.unparkQueue.filter (·.ext == (extReq 1).ext) = [extReq 1]
    ∧ ([extReq 1].drop 1).foldl mergeUnpark ([extReq 1].headD (extReq 1)) = extReq 1
    ∧ ∃ g t, allocGroup (unparkReady.setTier { unparkReady.tier with
        unparkQueue := unparkReady.tier.unparkQueue.filter (·.ext != (extReq 1).ext) }) (extReq 1).ext = some (g, t) :=
  ⟨by decide, by decide, by decide, by decide, by decide, by decide, by decide, by decide, by decide, rfl,
    allocGroup_some (by decide)⟩

def landing : State := tiles.setTier { tiles.tier with unparks := [⟨extReq 1, 3, [tileKey 1 0], [], [], [], 0⟩] }
theorem witness_ParkEngineCommandsTakeEffect_land :
    landing.tier.unparks.find? (fun q => q.req.ext == 1 && q.remaining.contains (tileKey 1 0)) = some ⟨extReq 1, 3, [32], [], [], [], 0⟩
    ∧ readNow landing ⟨extReq 1, 3, [32], [], [], [], 0⟩ (tileKey 1 0) = true := by decide

def recorded : State := board.setSess { board.sess with recs := [(5, { state := 1 })], prefixes := [(9, {})] }
theorem witness_ParkEngineCommandsTakeEffect_visit :
    isLit recorded = true ∧ (MapOps.get? 5 recorded.sess.recs).isSome = true
      ∧ (MapOps.get? 9 recorded.sess.prefixes).isSome = true := by decide

/-! ### Codec -/

def aStrip : Strip :=
  { cmd := 1, slot := 8, bank := 0, part := 0, first := 0, last := 1, wide := false, size := 0, sampleBytes := 65536, stage := 0
    ratio := 0, sampledBlocks := [], winners := [] }
def stripping : State := board.setCodec { board.codec with strips := [aStrip] }
def verifyJob : DecodeJob :=
  { id := 4, md := 0, key := 0, block := 0, sheetSlot := 1, sheetGen := 2, bytes := [1], use := .verify false 0 [2], stage := 2 }
def hostJob : DecodeJob := { verifyJob with id := 5, use := .host 6 }
def aRead : FwdRead :=
  { id := 6, req := ⟨0, 0, 7, 0, 0⟩, key := 0, sector := 0, tier := .batten, md := 0, slot := 0, len := 100, sheetSlot := 1
    sheetGen := 2, sinceUs := 0 }
def encodeJob : EncodeJob :=
  { id := 7, md := 0, encoder := 0, key := 0, block := 0, sheetSlot := 1, sheetGen := 2, isPark := false, raw := [] }
def coder : State :=
  (tiles.setTier { tiles.tier with reads := [aRead] }).setCodec { tiles.codec with
    decodes := [verifyJob, hostJob], encodes := [encodeJob] }

theorem witness_CodecCommandsTakeEffect :
    (stripBusy stripping 0 = false ∧ stripping.codec.strips.find? (fun q => q.stage == 0 && q.slot % 8 == 0) = some aStrip)
    ∧ (coder.codec.decodes.find? (·.id == 4) = some verifyJob ∧ verifyJob.use = .verify false 0 [2]
      ∧ verifyJob.stage = 2 ∧ codecUp coder verifyJob.md verifyJob.key = true)
    ∧ (coder.codec.decodes.find? (·.id == 5) = some hostJob ∧ hostJob.use = .host 6 ∧ hostJob.stage = 2 ∧ codecUp coder hostJob.md hostJob.key = true
      ∧ coder.tier.reads.find? (·.id == 6) = some aRead)
    ∧ coder.codec.encodes.find? (·.id == 7) = some encodeJob ∧ codecUp coder encodeJob.md encodeJob.key = true := by decide

/-! ### Accesses -/

theorem witness_AccessCommandsTakeEffect_mem :
    memServed tiles 0 = true ∧ contained tiles 0 = false ∧ ideRefuses tiles 0 1 = false ∧ requester tiles 0 0 0 true = some 0
    ∧ heldMaster tiles 0 = false ∧ hpaToDpa tiles 0 2097151 = some 2097151 ∧ (ldOf tiles 0).memEnable = true
    ∧ tiles.tier.k ≠ 0 ∧ devOf tiles 0 (2097151 / 2097152) = some 0 ∧ canRead tiles 0 (2097151 / 2097152) = true
    ∧ canWrite tiles 0 (2097151 / 2097152) = true := by decide

theorem witness_AccessCommandsTakeEffect_link :
    (15 : Nat) ∉ board.link.failed ∧ lanesUsed board = true ∧ crc32 [] = 0 ∧ (MapOps.getD (2 * 15 + ofBool true) {} board.link.purlins).replay = [] := by
  decide

end Sys2Proof.Tests
end

section
/-! PROOFS. CXL.mem requests and purlin frames: what the shared operations do in the cases that obligation O11 names,
and the obligation itself. -/

namespace Sys2Proof.Machine

open Sys2Proof Sys2Proof.Safety

/-! ### Ends of commands -/

/-- A command whose outcome is its effect brought to rest completes with that effect. -/
theorem rests_of_exec_eq_atRest {c : Instr} {s u : State} (h : exec c s = atRest s u) : Rests c s u := h

/-! ### CXL.mem requests (R23, R304, R437) -/

/-- What the checks at the I/O die find of a request that they pass: port and LD take it, the requester is partition p, and the address is
dpa, which p maps to device extent e (R23 steps 1 to 3, R304 steps 1 to 3). -/
structure MemAddressed (s : State) (port ld spid hpa dpa p e : Nat) : Prop where
  uncontained : contained s port = false
  encrypted : ideRefuses s port 1 = false
  known : requester s port ld spid true = some p
  decoded : hpaToDpa s (16 * port + ld) hpa = some dpa
  enabled : (ldOf s (16 * port + ld)).memEnable = true
  inRange : dpa < 2 ^ 52
  extents : s.tier.k ≠ 0
  mapped : devOf s p (dpa / 2097152) = some e

/-- An addressed request that its range table row allows (R304 step 4) reaches the directory MD, whether it reads or stores. -/
theorem hostRequest_eq_hostAccess {s : State} {port ld spid hpa dpa p e : Nat} (tag : Nat)
    {store : Option (BitVec 64 × List Byte × Bool)} (h : MemAddressed s port ld spid hpa dpa p e)
    (allowed : (if store.isSome then canWrite s p (dpa / 2097152) else canRead s p (dpa / 2097152)) = true) :
    hostRequest port ld spid tag hpa store s = hostAccess
      { key := tileKey e (dpa / 65536 % 32), sector := dpa / 64 % 1024, req := ⟨port, ld, tag, p, dpa⟩
        store := store, onPark := false, onSlot := false } s := by
  have hpassed : (! (ldOf s (16 * port + ld)).memEnable || 2 ^ 52 ≤ dpa || s.tier.k == 0) = false := by
    simpa [h.enabled, h.extents] using h.inRange
  simp only [hostRequest, h.uncontained, h.encrypted, h.known, h.decoded, hpassed, allowed, h.mapped, Bool.not_true,
    Bool.false_eq_true, if_false]

/-- A request whose master no admission point holds runs at once (R437). -/
theorem admitReq_of_not_held {s : State} {port ld spid p : Nat} (c : Instr) (run : State → State)
    (hp : requester s port ld spid true = some p) (hm : heldMaster s p = false) :
    admitReq c port ld spid run s = run s := by
  simp [admitReq, hp, hm]

/-- A served read that no budget holds has the effect of its request. -/
theorem cxlMemRead_rests {s : State} {port : Fin 4} {ld : Fin 16} {spid p : Nat} (tag hpa : Nat)
    (hs : memServed s port.val = true) (hp : requester s port.val ld.val spid true = some p) (hm : heldMaster s p = false) :
    Rests (.cxlMemRead port ld spid tag hpa) s (hostRequest port.val ld.val spid tag hpa none s) := by
  apply rests_of_exec_eq_atRest
  show execCxlMemRead port ld spid tag hpa s = _
  rw [execCxlMemRead, if_pos hs, admitReq_of_not_held _ _ hp hm]

/-- A served write that no budget holds has the effect of its request. -/
theorem cxlMemWrite_rests {s : State} {port : Fin 4} {ld : Fin 16} {spid p : Nat} (tag hpa : Nat) (enables : BitVec 64)
    (bytes : List Byte) (poison : Bool)
    (hs : memServed s port.val = true) (hp : requester s port.val ld.val spid true = some p) (hm : heldMaster s p = false) :
    Rests (.cxlMemWrite port ld spid tag hpa enables bytes poison) s
      (hostRequest port.val ld.val spid tag hpa (some (enables, bytes, poison)) s) := by
  apply rests_of_exec_eq_atRest
  show execCxlMemWrite port ld spid tag hpa enables bytes poison s = _
  rw [execCxlMemWrite, if_pos hs, admitReq_of_not_held _ _ hp hm]

/-! ### Purlin frames (R18, R20) -/

/-- A bridge that has not failed, while the lanes are in use, is not cut off. -/
theorem purlin_not_cut {s : State} {bridge : Nat} (hf : bridge ∉ s.link.failed) (hl : lanesUsed s = true) :
    (s.link.failed.contains bridge || ! lanesUsed s) = false := by
  simp [hf, hl]

/-- An intact frame over a link in use that has nothing to replay is acknowledged and counted, and no error is logged. -/
theorem purlinArrives_intact {s : State} {bridge crc : Nat} {up : Bool} {bytes : List Byte} (hf : bridge ∉ s.link.failed)
    (hl : lanesUsed s = true) (hcrc : crc32 bytes = crc)
    (hreplay : (MapOps.getD (2 * bridge + ofBool up) {} s.link.purlins).replay = []) :
    purlinArrives bridge up bytes crc s = emit .purlinAck [bridge, ofBool up] [] (s.setLink { s.link with
      purlins := MapOps.put (2 * bridge + ofBool up) {}
        { replay := [], fails := 0, taken := (MapOps.getD (2 * bridge + ofBool up) {} s.link.purlins).taken + 1 }
        s.link.purlins }) := by
  simp only [purlinArrives, purlin_not_cut hf hl, hcrc, hreplay, beq_self_eq_true, List.isEmpty_nil, Bool.false_eq_true,
    if_false, if_true]

/-- A link in use that is declared failed contains every port. -/
theorem purlinFails_contains {s : State} {bridge : Nat} (hf : bridge ∉ s.link.failed) (hl : lanesUsed s = true) :
    purlinFails bridge s = (List.range 4).foldl (fun u p => contain p 5 (logPort p .uncorrectableInternal u))
      (raise 0x1001 none bridge (s.setLink { s.link with failed := setInsert bridge s.link.failed })) := by
  simp only [purlinFails, purlin_not_cut hf hl, Bool.false_eq_true, if_false]

/-! ### The obligation -/

/-- Settles O11: an addressed request goes through to the directory MD, and each purlin command has the effect of its operation on a link
in use. -/
theorem accessCommandsTakeEffect : Obligations.AccessCommandsTakeEffect := by
  unfold Obligations.AccessCommandsTakeEffect
  refine ⟨?mem, ?frame, ?failed⟩
  case mem =>
    intro s port ld spid tag hpa dpa p e hserved hcontained hide hpart hheld hdpa henabled hrange hk hdev
    have haddr : MemAddressed s port.val ld.val spid hpa dpa p e := ⟨hcontained, hide, hpart, hdpa, henabled, hrange, hk, hdev⟩
    constructor
    · intro hread
      rw [← hostRequest_eq_hostAccess tag (store := none) haddr hread]
      exact cxlMemRead_rests tag hpa hserved hpart hheld
    · intro enables bytes poison hwrite
      rw [← hostRequest_eq_hostAccess tag (store := some (enables, bytes, poison)) haddr hwrite]
      exact cxlMemWrite_rests tag hpa enables bytes poison hserved hpart hheld
  case frame =>
    intro s bridge up bytes crc hf hl hcrc hreplay
    apply rests_of_exec_eq_atRest
    rw [← purlinArrives_intact hf hl hcrc hreplay]
    rfl
  case failed =>
    intro s bridge hf hl
    apply rests_of_exec_eq_atRest
    rw [← purlinFails_contains hf hl]
    rfl

end Sys2Proof.Machine
end

section
/-! PROOFS. What the memory of Ridge and Batten holds after bytes are stored in it (obligation O50). -/

namespace Sys2Proof.Machine

open Sys2Proof Sys2Proof.Safety

/-! ### Reading lists of cells -/

/-- The first part of a joined map that has the key gives its value. -/
theorem MapOps.get?_append {α : Type} (k : Nat) (m n : Map α) :
    MapOps.get? k (m ++ n) = (MapOps.get? k m).or (MapOps.get? k n) := by
  induction m with
  | nil => rfl
  | cons p m ih =>
    simp only [List.cons_append, MapOps.get?, ih]
    split <;> rfl

/-- Memory below an address holds what lies there, and nothing else. -/
theorem get?_memBelow (m : List Host.Cell) (a x : Nat) :
    MapOps.get? x (memBelow m a) = if x < a then MapOps.get? x m else none := by
  split
  case isTrue h => exact MapOps.get?_filter (fun k => decide (k < a)) (decide_eq_true h) m
  case isFalse h => exact MapOps.get?_filter_none (fun k => decide (k < a)) (decide_eq_false h) m

/-- Memory from an address on holds what lies there, and nothing else. -/
theorem get?_memFrom (m : List Host.Cell) (a x : Nat) :
    MapOps.get? x (memFrom m a) = if a ≤ x then MapOps.get? x m else none := by
  split
  case isTrue h => exact MapOps.get?_filter (fun k => decide (a ≤ k)) (decide_eq_true h) m
  case isFalse h => exact MapOps.get?_filter_none (fun k => decide (a ≤ k)) (decide_eq_false h) m

/-- Past its first byte, the cells of a string are those of its rest. -/
theorem get?_cellsOf_cons_ne {a x : Nat} (h : a ≠ x) (b : Byte) (bs : List Byte) :
    MapOps.get? x (cellsOf a (b :: bs)) = MapOps.get? x (cellsOf (a + 1) bs) := by
  simp only [cellsOf]
  split
  · rfl
  · simp [MapOps.get?, h]

/-- An address outside the bytes stored has no cell among theirs. -/
theorem get?_cellsOf_outside {a x : Nat} {bs : List Byte} (h : ¬ (a ≤ x ∧ x < a + bs.length)) :
    MapOps.get? x (cellsOf a bs) = none := by
  induction bs generalizing a with
  | nil => rfl
  | cons b bs ih =>
    by_cases hfirst : a = x
    · simp [hfirst] at h
    · rw [List.length_cons] at h
      rw [get?_cellsOf_cons_ne hfirst]
      exact ih (by omega)

/-- The cells that bytes need give each of them back, a zero byte by having none. -/
theorem memAt_cellsOf (a : Nat) (bs : List Byte) (i : Nat) : memAt (cellsOf a bs) (a + i) = bs.getD i 0 := by
  induction bs generalizing a i with
  | nil => rfl
  | cons b bs ih =>
    cases i with
    | zero =>
      have hrest : MapOps.get? a (cellsOf (a + 1) bs) = none := get?_cellsOf_outside (by omega)
      simp only [cellsOf]
      split
      case isTrue hzero => simp [memAt, MapOps.getD, hrest, eq_of_beq hzero]
      case isFalse => simp [memAt, MapOps.getD, MapOps.get?]
    | succ i =>
      have hnext : a + (i + 1) = a + 1 + i := by omega
      rw [List.getD_cons_succ, ← ih (a + 1) i, ← hnext]
      exact congrArg (Option.getD · 0) (get?_cellsOf_cons_ne (by omega) b bs)

/-! ### Stores and reads -/

/-- A byte after a store: one of those stored where it lies among them, and otherwise what was there. -/
theorem memAt_memStore (m : List Host.Cell) (a : Nat) (bs : List Byte) (x : Nat) :
    memAt (memStore m a bs) x = if a ≤ x ∧ x < a + bs.length then bs.getD (x - a) 0 else memAt m x := by
  unfold memAt MapOps.getD memStore
  rw [MapOps.get?_append, MapOps.get?_append, get?_memBelow, get?_memFrom]
  by_cases hin : a ≤ x ∧ x < a + bs.length
  · obtain ⟨i, rfl⟩ := Nat.exists_eq_add_of_le hin.1
    rw [if_pos hin, if_neg (by omega), if_neg (by omega), Option.none_or, Option.or_none, Nat.add_sub_cancel_left]
    exact memAt_cellsOf a bs i
  · rw [if_neg hin, get?_cellsOf_outside hin, Option.none_or]
    by_cases hlow : x < a
    · rw [if_pos hlow, if_neg (by omega), Option.or_none]
    · rw [if_neg hlow, if_pos (by omega), Option.none_or]

/-- A read gives the bytes of its range one by one. -/
theorem memRead_eq (m : List Host.Cell) (a n : Nat) : memRead m a n = (List.range n).map fun i => memAt m (a + i) := by
  refine List.map_congr_left fun i hi => ?_
  have hin : decide (a ≤ a + i ∧ a + i < a + n) = true := by simpa using List.mem_range.mp hi
  exact congrArg (Option.getD · 0) (MapOps.get?_filter (fun k => decide (a ≤ k ∧ k < a + n)) hin m)

@[simp] theorem memRead_length (m : List Host.Cell) (a n : Nat) : (memRead m a n).length = n := by
  simp [memRead_eq]

/-- Two memories that agree on a range read alike there. -/
theorem memRead_congr {m m' : List Host.Cell} {a n : Nat} (h : ∀ i < n, memAt m (a + i) = memAt m' (a + i)) :
    memRead m a n = memRead m' a n := by
  rw [memRead_eq, memRead_eq]
  exact List.map_congr_left fun i hi => h i (List.mem_range.mp hi)

/-- Bytes stored are read back. -/
theorem memRead_memStore_same (m : List Host.Cell) (a : Nat) (bs : List Byte) : memRead (memStore m a bs) a bs.length = bs := by
  refine List.ext_getElem (memRead_length _ _ _) fun i _ hi => ?_
  simp [memRead_eq, memAt_memStore, hi]

/-- A range apart from the bytes stored reads as before. -/
theorem memRead_memStore_apart (m : List Host.Cell) {a c n : Nat} {bs : List Byte} (h : c + n ≤ a ∨ a + bs.length ≤ c) :
    memRead (memStore m a bs) c n = memRead m c n := by
  refine memRead_congr fun i hi => ?_
  rw [memAt_memStore, if_neg (by omega)]

/-- Settles O50: a store changes the bytes of its own range and no other, so that a read of the range gives what was stored and a
read apart from it what was there. -/
theorem storedBytesAreReadBack : Obligations.StoredBytesAreReadBack := by
  unfold Obligations.StoredBytesAreReadBack
  intro m a bs
  exact ⟨memAt_memStore m a bs, memRead_memStore_same m a bs, fun _ _ h => memRead_memStore_apart m h⟩

end Sys2Proof.Machine
end

section
/-! PROOFS. Moves, the time limits of held accesses, parks, unparks, heat and session visits: what each operation does in the case that
obligations O7, O8 and O9 name, and the obligations themselves. -/

namespace Sys2Proof.Machine

open Sys2Proof Sys2Proof.Safety

/-! ### Effects of commands -/

/-- A command that brings t to rest completes with effect t, under every description of t. -/
theorem rests_of_effect_eq {c : Instr} {s t u : State} (hexec : exec c s = atRest s t) (heffect : t = u) : Rests c s u :=
  rests_of_exec_eq_atRest (heffect ▸ hexec)

/-! ### Moves (R44 to R46) -/

/-- With fewer than 64 moves running, the oldest request that may start does (Table 2-5). -/
theorem moveStart_of_find {s : State} {md : Nat} {r : MoveReq} (hroom : movesAt s md < 64)
    (hfind : s.tier.moveQueue.find? (moveMay s md) = some r) :
    moveStart md s = startMove r (s.setTier { s.tier with moveQueue := s.tier.moveQueue.erase r }) := by
  rw [moveStart, if_neg (Nat.not_le_of_lt hroom), hfind]

/-- What goes on with a tile's move goes on with the move that runs. -/
theorem onMove_of_moveOf {s : State} {key : Nat} {m : Move} (f : Move → State → State) (hm : moveOf s key = some m) :
    onMove key f s = f m s := by
  rw [onMove, hm]

/-- A flip window that reaches 2 µs leaves its tile dirty (R45). -/
theorem windowTimeout_of_move {s : State} {ext key : Nat} {m : Move} (hm : moveOf s key = some m) (hwindow : m.window = true)
    (hup : moveUp s m = true) : windowTimeout ext key s = windowDirty m (countMax 0x3020 6 2000 s) := by
  simp [windowTimeout, hm, hwindow, hup]

/-- A flip window of a park that reaches 2 µs leaves its extent dirty (R45, R72). -/
theorem windowTimeout_of_park {s : State} {ext key : Nat} {p : Park} (hm : moveOf s key = none) (hp : parkOf s ext = some p)
    (hwindow : p.window = true) (hcommit : p.committing = false) (hup : parkUp s ext = true) :
    windowTimeout ext key s = parkDirty p (countMax 0x3020 6 2000 s) := by
  simp [windowTimeout, hm, hp, hwindow, hcommit, hup]

/-- A slot whose last forwarded read has returned is freed (R46). -/
theorem slotReturns_of_freePending {s : State} {k : Nat} (h : MapOps.get? k s.tier.slots = some (.freePending 0)) :
    slotReturns k s = freeSlot k s := by
  simp only [slotReturns, h]

/-- Settles O7: each command of the move engine has the effect of its operation on the request, move or slot that it finds. -/
theorem moveEngineCommandsTakeEffect : Obligations.MoveEngineCommandsTakeEffect := by
  unfold Obligations.MoveEngineCommandsTakeEffect
  refine ⟨?start, ?run, ?slot⟩
  case start =>
    intro s md r hroom hfind
    exact rests_of_effect_eq rfl (moveStart_of_find hroom hfind)
  case run =>
    intro s ext tile m hm
    refine ⟨fun hclosed hready hcoded hup => ?_, fun hwindow hup => ?_, fun hwindow hup => ?_⟩
    · refine rests_of_effect_eq rfl ((onMove_of_moveOf _ hm).trans ?_)
      simp [hclosed, hready, hcoded, hup]
    · refine rests_of_effect_eq rfl ((onMove_of_moveOf _ hm).trans ?_)
      simp [hwindow, hup]
    · exact rests_of_effect_eq rfl (windowTimeout_of_move hm hwindow hup)
  case slot =>
    intro s batten md slot hslot
    exact rests_of_effect_eq rfl (slotReturns_of_freePending hslot)

/-! ### Time limits of held accesses (R43, R64, R79, R80) -/

/-- The first held access that a test picks is taken out of those held and worked on. -/
theorem takeHeld_of_find {s : State} {f : Held → Bool} {h : Held} (g : Held → State → State) (hfind : s.tier.held.find? f = some h) :
    takeHeld f g s = g h (s.setTier { s.tier with held := s.tier.held.erase h }) := by
  rw [takeHeld, hfind]

/-- A host's write that found no slot is answered, and its tile is late (R64). -/
theorem noSlot_of_held {s : State} {key : Nat} {h : Held}
    (hfind : s.tier.held.find? (fun q => q.key == key && q.onSlot) = some h) :
    noSlot key s = answerWrite h.req 1 (slotLate key (s.setTier { s.tier with held := s.tier.held.erase h })) := by
  have hpick := List.find?_some hfind
  have hany : (s.tier.held.any fun q => q.key == key && q.onSlot) = true :=
    List.any_eq_true.mpr ⟨h, List.mem_of_find?_eq_some hfind, hpick⟩
  rw [noSlot, if_pos hany, takeHeld_of_find _ hfind]

/-- Where no host's write waits for a slot, the oldest wait of the device's own ends, and its tile is late (R64). -/
theorem noSlot_of_slotWait {s : State} {key : Nat} {w : SlotWait}
    (hnone : (s.tier.held.any fun q => q.key == key && q.onSlot) = false) (hwait : slotWaitOf s key = some w) :
    noSlot key s = slotLate key (endSlotWait w s) := by
  rw [noSlot, if_neg (by simp [hnone]), hwait]

/-- A store that waited for a PARKED tile in vain is lost (R80). -/
theorem storeLate_of_find {s : State} {key tag : Nat} {h : Held}
    (hfind : s.tier.held.find? (fun q => q.key == key && q.onPark && q.store.isSome && ! q.lost && q.req.tag == tag) = some h) :
    storeLate key tag s = loseHeld h s := by
  rw [storeLate, hfind]

/-- Settles O8: each time limit has the effect of its rule on the held access, or the device's own wait, that it finds. -/
theorem holdLimitCommandsTakeEffect : Obligations.HoldLimitCommandsTakeEffect := by
  unfold Obligations.HoldLimitCommandsTakeEffect
  refine ⟨?damaged, ?hostSlot, ?ownSlot, ?load, ?store⟩
  case damaged =>
    intro s ext tile block
    exact rests_of_exec_eq_atRest rfl
  case hostSlot =>
    intro s ext tile h hfind
    exact rests_of_effect_eq rfl (noSlot_of_held hfind)
  case ownSlot =>
    intro s ext tile w hnone hwait
    exact rests_of_effect_eq rfl (noSlot_of_slotWait hnone hwait)
  case load =>
    intro s ext tile tag h hfind
    exact rests_of_effect_eq rfl (takeHeld_of_find _ hfind)
  case store =>
    intro s ext tile tag h hfind
    exact rests_of_effect_eq rfl (storeLate_of_find hfind)

/-! ### Parks and unparks (R71 to R75, R405, R567) -/

/-- Where Underlay takes parks, the first park that may begin does, with all that asked for it, unless its extent is held or carries a
program (R71, R230, R317). -/
theorem parkStart_of_find {s : State} {md : Nat} {r : ExtReq} (hund : underlayParks s = true)
    (hfind : s.tier.parkQueue.find? (parkMay s md) = some r) (hheld : extHeld s r.ext = false) (hprog : progHolds s r.ext = false) :
    parkStart md s = beginPark
      { r with waiters := (s.tier.parkQueue.filter (·.ext == r.ext)).flatMap (·.waiters)
               hint := if (s.tier.parkQueue.filter (·.ext == r.ext)).any (·.hint == 4) then 4 else 0 }
      (s.setTier { s.tier with parkQueue := s.tier.parkQueue.filter (·.ext != r.ext) }) := by
  simp only [parkStart, hund, hfind, hheld, hprog, Bool.not_true, Bool.or_false, Bool.false_eq_true, if_false]

/-- What goes on with an extent's park goes on with the park that runs. -/
theorem onPark_of_parkOf {s : State} {ext : Nat} {p : Park} (f : Park → State → State) (hp : parkOf s ext = some p) :
    onPark ext f s = f p s := by
  rw [onPark, hp]

/-- What UNPARK_START finds at a directory MD that has room for an unpark: the first request that may start, whose extent's map entry
names park record n, and an Underlay that holds that record (R74, R567). -/
structure UnparkFound (s : State) (md : Nat) (r : ExtReq) (n : Nat) : Prop where
  room : unparksAt s md < 32
  roomInAll : s.tier.unparks.length < 256
  mounted : s.und.state ≠ 1
  first : s.tier.unparkQueue.find? (unparkMay s md) = some r
  link : (entryOf s r.ext).link = n
  usable : noUnderlay s = false
  image : imageOf s r.ext = some n

/-- An MD with room for an unpark, while Underlay is not being mounted, looks at its queue. -/
theorem UnparkFound.not_full {s : State} {md n : Nat} {r : ExtReq} (h : UnparkFound s md r n) :
    ¬ (unparksAt s md ≥ 32 || s.tier.unparks.length ≥ 256 || s.und.state == 1) = true := by
  simp [h.room, h.roomInAll, h.mounted]

/-- A record that no MD keeps has its page read first (R405). -/
theorem unparkStart_of_uncached {s : State} {md n : Nat} {r : ExtReq} (h : UnparkFound s md r n) (hcached : eprCached s n = false)
    (hpage : pageUnreadable s (2 * n) = false) :
    unparkStart md s = s.setUnd { s.und with eprReads := setInsert n s.und.eprReads } := by
  rw [unparkStart, if_neg h.not_full]
  simp [h.first, h.link, h.usable, h.image, hcached, hpage]

/-- A record that an MD keeps is unparked into a new group, for all that asked for its extent (R74, R75). -/
theorem unparkStart_of_cached {s t : State} {md n g : Nat} {r r1 : ExtReq} {mine : List ExtReq} (h : UnparkFound s md r n)
    (hcached : eprCached s n = true) (hmine : s.tier.unparkQueue.filter (·.ext == r.ext) = mine)
    (hmerged : (mine.drop 1).foldl mergeUnpark (mine.headD r) = r1)
    (hgroup : allocGroup (s.setTier { s.tier with unparkQueue := s.tier.unparkQueue.filter (·.ext != r.ext) }) r.ext = some (g, t)) :
    unparkStart md s = beginUnpark r1 mine n g t := by
  subst hmine hmerged
  rw [unparkStart, if_neg h.not_full]
  simp [h.first, h.link, h.usable, h.image, hcached, hgroup]

/-- A tile lands that a running unpark still reads, and that is read now (R74). -/
theorem landTile_of_find {s : State} {ext key : Nat} {u : Unpark} (lost : Bool)
    (hfind : s.tier.unparks.find? (fun q => q.req.ext == ext && q.remaining.contains key) = some u) (hnow : readNow s u key = true) :
    landTile ext key lost s = tileLands u key lost s := by
  simp only [landTile, hfind, hnow, if_true]

/-- Settles O9: each command of the park engine has the effect of its operation on the request, park or unpark that it finds; the
heat of an MD is halved whatever it finds; and a scan visits what has a record. -/
theorem parkEngineCommandsTakeEffect : Obligations.ParkEngineCommandsTakeEffect := by
  unfold Obligations.ParkEngineCommandsTakeEffect
  refine ⟨?start, ?park, ?unpark, ?land, ?heat, ?visit⟩
  case start =>
    intro s md r hund hfind hheld hprog
    exact rests_of_effect_eq rfl (parkStart_of_find hund hfind hheld hprog)
  case park =>
    intro s ext p hp
    refine ⟨fun hclosed hcommit hcoded hup => ?_, fun hwindow hcommit hup => ⟨?_, fun tile hm => ?_⟩⟩
    · refine rests_of_effect_eq rfl ((onPark_of_parkOf _ hp).trans ?_)
      simp only [hclosed, hcommit, hcoded, hup, Bool.not_true, Bool.or_false, Bool.false_eq_true, if_false]
    · refine rests_of_effect_eq rfl ((onPark_of_parkOf _ hp).trans ?_)
      simp [hwindow, hcommit, hup]
    · exact rests_of_effect_eq rfl (windowTimeout_of_park hm hp hwindow hcommit hup)
  case unpark =>
    intro s md r n hroom hall hmounted hfirst hlink husable himage
    have hfound : UnparkFound s md.val r n := ⟨hroom, hall, hmounted, hfirst, hlink, husable, himage⟩
    refine ⟨fun hcached hpage => ?_, fun hcached r1 mine g t hmine hmerged hgroup => ?_⟩
    · exact rests_of_effect_eq rfl (unparkStart_of_uncached hfound hcached hpage)
    · exact rests_of_effect_eq rfl (unparkStart_of_cached hfound hcached hmine hmerged hgroup)
  case land =>
    intro s ext tile lost u hfind hnow
    exact rests_of_effect_eq rfl (landTile_of_find lost hfind hnow)
  case heat =>
    intro s md
    exact rests_of_exec_eq_atRest rfl
  case visit =>
    intro s entry hlit
    refine ⟨fun hrec => ?_, fun hprefix => ?_⟩
    · exact rests_of_effect_eq rfl (by simp [hlit, hrec])
    · exact rests_of_effect_eq rfl (by simp [hlit, hprefix])

end Sys2Proof.Machine
end

section
/-! PROOFS. Writes of objects of the dictionary that keep their value (obligation O23): a write that a road may make reaches its object,
and what it does there. -/

namespace Sys2Proof.Machine

open Sys2Proof Sys2Proof.Safety

/-! ### A write reaches its object (R521, R524, R527) -/

/-- A command that serves a message with effect t completes with it, under every description of t. -/
theorem serves_of_effect_eq {c : Instr} {s t u : State} (hexec : exec c s = overOd s t) (heffect : t = u) : Serves c s u :=
  heffect ▸ hexec

/-- A message that arrives burns no fuse. -/
@[simp] theorem arrived_fuses (road : Road) (s : State) : (arrived road s).fuses = s.fuses := by
  cases road <;> rfl

/-- On a road that is open and awaits no response a message is served at once (R524). -/
theorem odServe_of_ready {s : State} {road : Road} (m : OdMsg) (h : RoadReady s road) : odServe road m s = messageDone road m s := by
  simp only [odServe, h.isOpen, h.idle, Bool.not_true, Bool.false_eq_true, if_false]
  rfl

/-- Where the road may write an object, a value in the object's size is written to it (R527). -/
theorem odWrite_of_mayWrite {s : State} {road : Road} {index sub size v : Nat} {o : OdObj} (tag ctx : Nat)
    (h : MayWrite s road index sub size v o) :
    odWrite road false tag index sub ctx (toBytes size v) (arrived road s) = writeObject road tag index sub ctx o v (arrived road s) := by
  obtain ⟨hsize, hwhole, htype⟩ := h.sized
  have hfits : (o.type == 0x12 || 1024 < o.size || (toBytes size v).length != o.size) = false := by
    simp [htype, hsize, hwhole]
  simp only [odWrite, h.hasRole, h.here, h.allowed, hfits, ofBytes_toBytes size v h.fits, Bool.false_and, bne_self_eq_false,
    Bool.false_eq_true, if_false]

/-- A write that the road may make, of an object that holds no fuse, is that object's write and burns nothing (R447). -/
theorem odPut_of_mayWrite {s : State} {road : Road} {index sub size v : Nat} {o : OdObj} (h : MayWrite s road index sub size v o)
    (hfuse : index ≠ 0x2800) :
    odPut road false index sub size v s = (writeObject road 0 index sub 0xFF o v (arrived road s)).setFuses s.fuses := by
  have hburns : burns (.write false 0 index sub 0xFF (toBytes size v)) = false := by simp [burns, hfuse]
  rw [odPut, if_pos h.fits, odServe_of_ready _ h.ready, messageDone, odRun, if_neg (by simp [hburns]), arrived_fuses, odAct,
    odWrite_of_mayWrite 0 0xFF h]

/-! ### What a write does to an object that keeps its value (R530) -/

/-- An object that keeps the value written to it: all bits of the value have a meaning, no copy is held for each road, and the write
starts nothing. -/
structure KeepsItsValue (index sub : Nat) : Prop where
  whole : ∀ v, unreserved index sub v = v
  noRestart : index * 256 + sub ≠ 0x18000B
  noDiag : isDiag index sub = false
  noAction : ∀ part ctx v s, writeAction part index sub ctx v s = none

/-- A value within its range goes past every act and check to where it is kept. -/
theorem writeObject_of_kept {road : Road} {index sub v : Nat} {o : OdObj} {s : State} (tag ctx : Nat) (hkept : KeepsItsValue index sub)
    (hrange : valueStatus s o index sub v = 0) :
    writeObject road tag index sub ctx o v s =
      if ! persisted o index sub then writeAnswer road tag index sub 0 (afterWrite index sub v (setScalar index sub v s))
      else if scalar s index sub o.dflt == v then writeAnswer road tag index sub 0 s
      else if ! recordFits s { index := index, sub := sub, type := o.type, bytes := toBytes o.size v, seq := 0 } then
        writeAnswer road tag index sub 3 s
      else persist road 2 tag index sub 0 true { index := index, sub := sub, type := o.type, bytes := toBytes o.size v, seq := 0 }
        (afterWrite index sub v (setScalar index sub v s)) := by
  have hplain : (index * 256 + sub == 0x18000B && v == 0x52535452) = false := by simp [hkept.noRestart]
  simp only [writeObject, hkept.whole, hrange, hplain, hkept.noDiag, hkept.noAction, bne_self_eq_false, Bool.false_eq_true, if_false]

/-- An object of the dictionary that is persisted (RWP) takes a new value at once, and its record is programmed before the answer (R530). -/
theorem odPut_persisted {s : State} {road : Road} {index sub size v : Nat} {o : OdObj} (h : MayWrite s road index sub size v o)
    (hkept : KeepsItsValue index sub) (hfuse : index ≠ 0x2800) (haccess : o.access = 3)
    (hnew : scalar (arrived road s) index sub o.dflt ≠ v)
    (hfits : recordFits (arrived road s) { index := index, sub := sub, type := o.type, bytes := toBytes size v, seq := 0 } = true) :
    odPut road false index sub size v s =
      (persist road 2 0 index sub 0 true { index := index, sub := sub, type := o.type, bytes := toBytes size v, seq := 0 }
        (afterWrite index sub v (setScalar index sub v (arrived road s)))).setFuses s.fuses := by
  have hpersisted : persisted o index sub = true := by simp [persisted, haccess]
  rw [odPut_of_mayWrite h hfuse, writeObject_of_kept 0 0xFF hkept h.inRange]
  simp only [hpersisted, beq_eq_false_iff_ne.mpr hnew, h.sized.1, hfits, Bool.not_true, Bool.false_eq_true, if_false]

/-- An object of the dictionary that is not persisted takes a value at once, and the write is answered (R530). -/
theorem odPut_unpersisted {s : State} {road : Road} {index sub size v : Nat} {o : OdObj} (h : MayWrite s road index sub size v o)
    (hkept : KeepsItsValue index sub) (hfuse : index ≠ 0x2800) (haccess : o.access ≠ 3) :
    odPut road false index sub size v s =
      written road index sub s (afterWrite index sub v (setScalar index sub v (arrived road s))) := by
  have hpersisted : persisted o index sub = false := by simp [persisted, haccess, hfuse]
  rw [odPut_of_mayWrite h hfuse, writeObject_of_kept 0 0xFF hkept h.inRange]
  simp only [hpersisted, Bool.not_false, if_true]
  rfl

/-! ### The three objects (R61, R497, R546) -/

/-- HeatHalfLife keeps its value. -/
theorem heatHalfLife_keeps : KeepsItsValue 0x2200 6 := ⟨fun _ => rfl, by decide, by decide, fun _ _ _ _ => rfl⟩

/-- ReferenceSelect keeps its value. -/
theorem referenceSelect_keeps : KeepsItsValue 0x2000 1 := ⟨fun _ => rfl, by decide, by decide, fun _ _ _ _ => rfl⟩

/-- LmEnable keeps its value. -/
theorem lmEnable_keeps : KeepsItsValue 0x3800 1 := ⟨fun _ => rfl, by decide, by decide, fun _ _ _ _ => rfl⟩

/-- Nothing follows a new HeatHalfLife. -/
theorem afterWrite_heatHalfLife (v : Nat) (s : State) : afterWrite 0x2200 6 v s = s := rfl

/-- ReferenceSelect LOSC falls back to LOSC at once (R497). -/
theorem afterWrite_referenceSelect_losc (s : State) : afterWrite 0x2000 1 0 s = fallback s := rfl

/-- ReferenceSelect of an RCLK asks for that clock (R496). -/
theorem afterWrite_referenceSelect_rclk {v : Nat} (hv : v ≠ 0) (s : State) : afterWrite 0x2000 1 v s = pumpClock s := by
  simp [afterWrite, hv]

/-- Nothing follows a new LmEnable. -/
theorem afterWrite_lmEnable (v : Nat) (s : State) : afterWrite 0x3800 1 v s = s := rfl

/-- Settles O23: each row writes an object that keeps its value, and what follows the value is the object's own. -/
theorem keptWritesTakeEffect : Obligations.KeptWritesTakeEffect := by
  unfold Obligations.KeptWritesTakeEffect
  rintro s road v o u rfl
  refine ⟨?halfLife, ?reference, ?meter⟩
  case halfLife =>
    intro hmay haccess hnew hfits
    refine serves_of_effect_eq rfl ((odPut_persisted hmay heatHalfLife_keeps (by decide) haccess hnew hfits).trans ?_)
    rw [afterWrite_heatHalfLife]
  case reference =>
    intro hmay haccess hnew hfits
    have hput := odPut_persisted hmay referenceSelect_keeps (by decide) haccess hnew hfits
    refine ⟨?losc, ?rclk⟩
    case losc =>
      rintro rfl
      rw [afterWrite_referenceSelect_losc] at hput
      exact serves_of_effect_eq rfl hput
    case rclk =>
      intro hv
      rw [afterWrite_referenceSelect_rclk hv] at hput
      exact serves_of_effect_eq rfl hput
  case meter =>
    intro hmay haccess
    refine serves_of_effect_eq rfl ((odPut_unpersisted hmay lmEnable_keeps (by decide) (by simp [haccess])).trans ?_)
    rw [afterWrite_lmEnable]

end Sys2Proof.Machine
end

section
/-! PROOFS. Commands of the rings that are ready: they begin at once, with the effect of their opcode and form, by session (obligation
O4) and for runs, shares and keys (obligation O6). -/

namespace Sys2Proof.Machine

open Sys2Proof Sys2Proof.Safety

/-! ### A command that is ready begins (R274, R286) -/

/-- To take a command up lets no time pass. -/
@[simp] theorem nowUs_taken (id : Nat) (s : State) : nowUs (taken id s) = nowUs s := by
  rw [taken, modCmd]
  split <;> rfl

section
variable {s : State} {id op : Nat} {form : Cmd → Bool} {c : Cmd}

/-- A command in flight of the opcode and form that is asked for, which has not begun and which no FENCE holds, is taken up. -/
theorem runCmd_of_ready (f : Cmd → State → State) (h : Safety.Ready s id op form c) : runCmd id op form f s = f c (taken id s) := by
  have hstarts : (c.begun || c.op != op || ! form c || fenced s c) = false := by
    simp [h.waits, h.opcode, h.shape, h.free]
  simp only [runCmd, h.inFlight, hstarts, Bool.false_eq_true, if_false]
  rfl

/-- A command that is ready has not missed its deadline when it is taken up (R286). -/
theorem inTime_of_ready (h : Safety.Ready s id op form c) :
    ((! c.started) && c.expiry.any fun e => decide (e < nowUs (taken id s))) = false := by
  rw [nowUs_taken]
  rcases h.inTime with hstarted | hexpiry
  · simp [hstarted]
  · cases he : c.expiry with
    | none => simp
    | some e => simp [hexpiry e he]

/-- A command that is ready does what it asks for, on the state in which it has been taken up. -/
theorem beginCmd_of_ready (f : Cmd → State → State) (h : Safety.Ready s id op form c) : beginCmd id op form f s = f c (taken id s) := by
  rw [beginCmd, runCmd_of_ready _ h]
  simp only [h.unheld, inTime_of_ready h, h.own, bne_self_eq_false, Bool.false_eq_true, if_false]

/-- A command of a row completes with its effect once it is ready. -/
theorem rests_of_ready {i : Instr} (f : Cmd → State → State) (hexec : exec i s = atRest s (beginCmd id op form f s))
    (h : Safety.Ready s id op form c) : Rests i s (f c (taken id s)) :=
  rests_of_effect_eq hexec (beginCmd_of_ready f h)

/-- A HINT completes with its effect once it is ready and no HINT fetched before it names an extent of its own (R56). -/
theorem hint_rests_of_ready {i : Instr} (f : Cmd → State → State) (hexec : exec i s = atRest s (beginHint id form f s))
    (h : Safety.Ready s id 2 form c) (hfirst : hintBehind s id = false) : Rests i s (f c (taken id s)) := by
  refine rests_of_effect_eq hexec ?_
  rw [beginHint, hfirst, if_neg Bool.false_ne_true, beginCmd_of_ready f h]

end

/-! ### The obligations -/

/-- Settles O4: each command by session is ready, so it begins, and its opcode and form give what it does. -/
theorem sessionCommandsTakeEffect : Obligations.SessionCommandsTakeEffect := by
  unfold Obligations.SessionCommandsTakeEffect
  intro s id c
  refine ⟨?hot, ?warm, ?cold, ?hintPark, ?hintDrop, ?park, ?unpark, ?drop, ?bind, ?update, ?query, ?pfx, ?endSession, ?endPrefix⟩
  case hot => exact hint_rests_of_ready (fun q u => wakeHint id q .ridge u) rfl
  case warm => exact hint_rests_of_ready (fun q u => wakeHint id q .batten u) rfl
  case cold => exact hint_rests_of_ready (fun q u => parkRequest id q 1 false u) rfl
  case hintPark => exact hint_rests_of_ready (fun q u => parkRequest id q 2 false u) rfl
  case hintDrop => exact hint_rests_of_ready (fun q u => parkRequest id q 3 false u) rfl
  case park => exact rests_of_ready (fun q u => parkRequest id q (q.bits 154 153) true u) rfl
  case unpark => exact rests_of_ready (unparkSession id) rfl
  case drop => exact rests_of_ready (fun q u => parkRequest id q 3 true u) rfl
  case bind => exact rests_of_ready (bindSession id) rfl
  case update => exact rests_of_ready (updateSession id) rfl
  case query => exact rests_of_ready (querySession id) rfl
  case pfx => exact rests_of_ready (prefixSession id) rfl
  case endSession => exact rests_of_ready (endSessionCmd id) rfl
  case endPrefix => exact rests_of_ready (endPrefixCmd id) rfl

/-- Settles O6: each command for runs, shares and keys is ready, so it begins, and its opcode, and the form of an EXPOSE, give what it
does. -/
theorem runAndShareCommandsTakeEffect : Obligations.RunAndShareCommandsTakeEffect := by
  unfold Obligations.RunAndShareCommandsTakeEffect
  intro s id c
  refine ⟨?run, ?attend, ?rebuild, ?claim, ?release, ?publish, ?exposeOpen, ?exposeAdd, ?exposeCommit, ?exposeAbort, ?keyload⟩
  case run => exact rests_of_ready (runStart id) rfl
  case attend => exact rests_of_ready (attendStart id) rfl
  case rebuild => exact rests_of_ready (rebuildStart id) rfl
  case claim => exact rests_of_ready (claimStart id) rfl
  case release => exact rests_of_ready (releaseStart id) rfl
  case publish => exact rests_of_ready (publishStart id) rfl
  case exposeOpen => exact rests_of_ready (exposeOpen id) rfl
  case exposeAdd => exact rests_of_ready (exposeAdd id) rfl
  case exposeCommit => exact rests_of_ready (exposeCommit id) rfl
  case exposeAbort => exact rests_of_ready (exposeAbort id) rfl
  case keyload => exact rests_of_ready (keyload id) rfl

end Sys2Proof.Machine
end

section
/-! PROOFS. Writes of objects of the dictionary that start something (obligation O22): such a write acts at once, and is answered OK. -/

namespace Sys2Proof.Machine

open Sys2Proof Sys2Proof.Safety

/-! ### A write that starts something (R527) -/

/-- An object whose writes may start something: all bits of the value have a meaning, no copy is held for each road, and it is neither
Restart nor an object whose write may burn a fuse. -/
abbrev ActsOnWrite (index sub : Nat) : Prop :=
  ¬ (index = 0x2600 ∧ sub = 5) ∧ index * 256 + sub ≠ 0x18000B ∧ isDiag index sub = false ∧ index ≠ 0x2800

/-- A value within its range that starts something is answered with the status of what it starts. -/
theorem writeObject_of_action {road : Road} {index sub ctx v e : Nat} {o : OdObj} {s t : State} (tag : Nat)
    (hobj : ActsOnWrite index sub) (hrange : valueStatus s o index sub v = 0)
    (haction : writeAction (roadPart s road) index sub ctx v s = some (e, t)) :
    writeObject road tag index sub ctx o v s = writeAnswer road tag index sub e t := by
  obtain ⟨hreserved, hrestart, hdiag, -⟩ := hobj
  have hwhole : unreserved index sub v = v := if_neg (by simpa using hreserved)
  have hplain : (index * 256 + sub == 0x18000B && v == 0x52535452) = false := by simp [hrestart]
  simp only [writeObject, hwhole, hrange, hplain, hdiag, haction, bne_self_eq_false, Bool.false_eq_true, if_false]

/-- Where the road may write an object and the write starts effect t, the write is answered OK with it. -/
theorem odPut_of_action {s t : State} {road : Road} {index sub size v : Nat} {o : OdObj} (hobj : ActsOnWrite index sub)
    (h : MayWrite s road index sub size v o)
    (haction : writeAction (roadPart (arrived road s) road) index sub 0xFF v (arrived road s) = some (0, t)) :
    odPut road false index sub size v s = written road index sub s t := by
  have ⟨_, _, _, hfuse⟩ := hobj
  rw [odPut_of_mayWrite h hfuse, writeObject_of_action 0 hobj h.inRange haction]
  rfl

/-- A row that writes an object completes with effect t where the road may write the object and the write starts t. -/
theorem serves_of_action {i : Instr} {s t : State} {road : Road} {index sub size v : Nat} {o : OdObj} (hobj : ActsOnWrite index sub)
    (hexec : exec i s = overOd s (odPut road false index sub size v s)) (h : MayWrite s road index sub size v o)
    (haction : writeAction (roadPart (arrived road s) road) index sub 0xFF v (arrived road s) = some (0, t)) :
    Serves i s (written road index sub s t) :=
  serves_of_effect_eq hexec (odPut_of_action hobj h haction)

/-- The entry of each partition acts. -/
theorem partitionEntry_acts : ∀ p : Fin 64, ActsOnWrite 0x2101 (p.val + 1) := by decide

/-- The clock enables of DDR, ONFI and HBM act. -/
theorem memoryClockEnable_acts : ∀ kind : Fin 3, ActsOnWrite 0x2011 (kind.val + 1) := by decide

/-! ### What a write of each object starts -/

/-- A write of a partition's entry is judged by R297. -/
theorem writeAction_partition (part : Option Nat) (p : Fin 64) (ctx v : Nat) (s : State) :
    writeAction part 0x2101 (p.val + 1) ctx v s = some (writePart p.val v s) := by
  have hother : 0x2101 * 256 + (p.val + 1) ≠ 0x120001 ∧ 0x2101 * 256 + (p.val + 1) ≠ 0x18000B
      ∧ 0x2101 * 256 + (p.val + 1) ≠ 0x201001 ∧ 0x2101 * 256 + (p.val + 1) ≠ 0x210005 := by omega
  simp [writeAction, hother]

/-- A row that writes a partition's entry completes with what R297 makes of the value, where that is not refused. -/
theorem serves_of_writePart {i : Instr} {s t : State} {road : Road} {p : Fin 64} {v : Nat} {o : OdObj}
    (hexec : exec i s = partPut road p.val v s) (h : MayWrite s road 0x2101 (p.val + 1) 16 v o)
    (hpart : writePart p.val v (arrived road s) = (0, t)) : Serves i s (written road 0x2101 (p.val + 1) s t) :=
  serves_of_action (partitionEntry_acts p) hexec h ((writeAction_partition _ p _ v _).trans (congrArg some hpart))

/-- A FREE partition is assigned LDs that no other partition has (R297). -/
theorem writePart_assigns {s : State} {p v : Nat} (hfree : partState s p = 0) (hassigned : field v 1 0 = 1)
    (hmask : field v 127 64 ≠ 0) (hothers : maskFree s p (field v 127 64) = true) :
    writePart p v s = (0, bindLds p (field v 127 64) s) := by
  simp [writePart, hfree, hassigned, hmask, hothers]

/-- An ASSIGNED partition takes further LDs that no other partition has (R297). -/
theorem writePart_adds {s : State} {p v : Nat} (hstate : partState s p = 1) (hassigned : field v 1 0 = 1)
    (hnew : field v 127 64 ≠ ldMask s p) (hkeeps : field v 127 64 &&& ldMask s p = ldMask s p)
    (hothers : maskFree s p (field v 127 64) = true) :
    writePart p v s = (0, bindLds p (field v 127 64) s) := by
  simp [writePart, hstate, hassigned, hnew, hkeeps, hothers]

/-- An ASSIGNED partition that no share row names is reassigned (R324). -/
theorem writePart_reassigns {s : State} {p v : Nat} (hstate : partState s p = 1) (hscrub : field v 1 0 = 2)
    (hsame : field v 127 64 = ldMask s p) (hshares : ∀ q ∈ sharesIn s, field q.2 6 1 ≠ p) :
    writePart p v s = (0, reassign p s) := by
  have hnone : ((sharesIn s).any fun q => field q.2 6 1 == p) = false := by simpa using hshares
  simp [writePart, hstate, hscrub, hsame, hnone]

/-- The number of a port quiesces it (R568). -/
theorem writeAction_quiesce (part : Option Nat) (ctx : Nat) {v : Nat} (s : State) (hport : v < 4) :
    writeAction part 0x2900 0x0A ctx v s = some (0, quiesce v s) := by
  simp [writeAction, hport]

/-- The number of a port with bit 7 set lets it serve again (R568). -/
theorem writeAction_unquiesce (part : Option Nat) (ctx : Nat) {v : Nat} (s : State) (hlow : 0x80 ≤ v) (hhigh : v < 0x84) :
    writeAction part 0x2900 0x0A ctx v s = some (0, unquiesce (v - 0x80) s) := by
  have hport : ¬ v < 4 := by omega
  simp [writeAction, hport, hlow, hhigh]

/-- Where no scrub of the reserved areas runs, one begins (R392). -/
theorem writeAction_scrubReserve (part : Option Nat) (ctx v : Nat) {s : State} (hidle : s.dram.reserveScrub ≠ 1) :
    writeAction part 0x2600 0x0D ctx v s = some (0, s.setDram { s.dram with reserveScrub := 1 }) := by
  simp [writeAction, hidle]

/-- An Underlay that may be formatted is, on the key of R427. -/
theorem writeAction_underlayFormat (part : Option Nat) (ctx : Nat) {s : State} (hmay : mayFormat s = true) (hfitted : s.und.state ≠ 0) :
    writeAction part 0x2700 0x0B ctx 0x464D5431 s = some (0, formatNow s) := by
  simp [writeAction, hmay, hfitted]

/-- The clock enable of a kind of memory takes the value (R502). -/
theorem writeAction_memoryClockEnable (part : Option Nat) (kind : Fin 3) (ctx v : Nat) (s : State) :
    writeAction part 0x2011 (kind.val + 1) ctx v s = some (0, writeMemEnable kind.val v s) := by
  have hother : 0x2011 * 256 + (kind.val + 1) ≠ 0x120001 ∧ 0x2011 * 256 + (kind.val + 1) ≠ 0x18000B
      ∧ 0x2011 * 256 + (kind.val + 1) ≠ 0x201001 := by omega
  simp [writeAction, hother]

/-- The key of Restart answers the write, and then restarts the device (R506). -/
theorem odPut_restart {s : State} {road : Road} {o : OdObj} (h : MayWrite s road 0x1800 0x0B 4 0x52535452 o) :
    odPut road false 0x1800 0x0B 4 0x52535452 s =
      (restartNow (writeAnswer road 0 0x1800 0x0B 0 (arrived road s))).setFuses s.fuses := by
  have hwhole : unreserved 0x1800 0x0B 0x52535452 = 0x52535452 := rfl
  rw [odPut_of_mayWrite h (by decide), writeObject]
  simp [hwhole, h.inRange]

/-! ### The obligation -/

/-- Settles O22: each row writes an object that acts, and what the write starts is the object's own: by definition where neither the
value nor the state matters, and by the lemma on the object where they do. -/
theorem actingWritesTakeEffect : Obligations.ActingWritesTakeEffect := by
  unfold Obligations.ActingWritesTakeEffect
  rintro s road v o u rfl
  refine ⟨?calendar, ?partition, ?declareFailed, ?quiesce, ?scrub, ?format, ?restart, ?frames, ?memories, ?events, ?meter⟩
  case calendar => exact fun hmay => serves_of_action (by decide) rfl hmay rfl
  case partition =>
    intro p hmay
    refine ⟨?assign, ?add, ?reassign⟩
    case assign =>
      intro hfree hassigned hmask hothers
      exact serves_of_writePart rfl hmay (writePart_assigns hfree hassigned hmask hothers)
    case add =>
      intro hstate hassigned hnew hkeeps hothers
      exact serves_of_writePart rfl hmay (writePart_adds hstate hassigned hnew hkeeps hothers)
    case reassign =>
      intro hstate hscrub hsame hshares
      exact serves_of_writePart rfl hmay (writePart_reassigns hstate hscrub hsame hshares)
  case declareFailed => exact fun hmay => serves_of_action (by decide) rfl hmay rfl
  case quiesce =>
    intro hmay
    refine ⟨fun hport => ?_, fun hlow hhigh => ?_⟩
    · exact serves_of_action (by decide) rfl hmay (writeAction_quiesce _ _ _ hport)
    · exact serves_of_action (by decide) rfl hmay (writeAction_unquiesce _ _ _ hlow hhigh)
  case scrub => exact fun hmay hidle => serves_of_action (by decide) rfl hmay (writeAction_scrubReserve _ _ _ hidle)
  case format =>
    exact fun hmay hformat hfitted => serves_of_action (by decide) rfl hmay (writeAction_underlayFormat _ _ hformat hfitted)
  case restart => exact fun hmay => serves_of_effect_eq rfl (odPut_restart hmay)
  case frames => exact fun hmay => serves_of_action (by decide) rfl hmay rfl
  case memories =>
    intro kind hmay
    exact serves_of_action (memoryClockEnable_acts kind) rfl hmay (writeAction_memoryClockEnable _ kind _ v _)
  case events => exact fun hmay => serves_of_action (by decide) rfl hmay rfl
  case meter => exact fun hmay => serves_of_action (by decide) rfl hmay rfl

end Sys2Proof.Machine
end

section
/-! PROOFS. The codec (obligation O49): bit strings, sub-streams, the header and the block as a whole, each read back from what was
written. -/

namespace Sys2Proof.Machine

open Sys2Proof

/-! ### Bit strings: values one after another, the first in the lowest bits -/

/-- The number that values spell, each a pair of a value and its width in bits. -/
def packBits : List (Nat × Nat) → Nat
  | [] => 0
  | t :: ts => t.1 + 2 ^ t.2 * packBits ts

/-- The bits that values take. -/
def packWidth (ts : List (Nat × Nat)) : Nat := (ts.map Prod.snd).sum

/-- Each value fits in its width. -/
def EachFits (ts : List (Nat × Nat)) : Prop := ∀ t ∈ ts, t.1 < 2 ^ t.2

@[simp] theorem packWidth_nil : packWidth [] = 0 := rfl

@[simp] theorem packWidth_cons (t : Nat × Nat) (ts : List (Nat × Nat)) : packWidth (t :: ts) = t.2 + packWidth ts := by
  simp [packWidth]

@[simp] theorem packWidth_append (ts us : List (Nat × Nat)) : packWidth (ts ++ us) = packWidth ts + packWidth us := by
  simp [packWidth]

theorem packWidth_uniform (n : Nat) (vs : List Nat) : packWidth (vs.map (·, n)) = n * vs.length := by
  simp [packWidth, Function.comp_def, Nat.mul_comm]

theorem packBits_append (ts us : List (Nat × Nat)) :
    packBits (ts ++ us) = packBits ts + 2 ^ packWidth ts * packBits us := by
  induction ts with
  | nil => simp [packBits]
  | cons t ts ih =>
    simp only [List.cons_append, packBits, ih, packWidth_cons, pow_add]
    ring

/-- Values that fit spell a number that fits in their width. -/
theorem packBits_lt {ts : List (Nat × Nat)} (h : EachFits ts) : packBits ts < 2 ^ packWidth ts := by
  induction ts with
  | nil => simp [packBits]
  | cons t ts ih =>
    have ht : t.1 < 2 ^ t.2 := h t (by simp)
    have hts : packBits ts + 1 ≤ 2 ^ packWidth ts := ih fun u hu => h u (by simp [hu])
    calc packBits (t :: ts) < 2 ^ t.2 + 2 ^ t.2 * packBits ts := Nat.add_lt_add_right ht _
      _ = 2 ^ t.2 * (packBits ts + 1) := by ring
      _ ≤ 2 ^ t.2 * 2 ^ packWidth ts := Nat.mul_le_mul_left _ hts
      _ = 2 ^ packWidth (t :: ts) := by rw [packWidth_cons, pow_add]

/-- Each value is read back from the bits where it stands. -/
theorem packBits_read {fs ts us : List (Nat × Nat)} {v n : Nat} (hfs : ts ++ (v, n) :: us = fs) (h : EachFits fs) :
    packBits fs / 2 ^ packWidth ts % 2 ^ n = v := by
  subst hfs
  have hts : EachFits ts := fun t ht => h t (by simp [ht])
  have hv : v < 2 ^ n := h (v, n) (by simp)
  rw [packBits_append, Nat.add_mul_div_left _ _ (Nat.two_pow_pos _), Nat.div_eq_of_lt (packBits_lt hts), Nat.zero_add]
  simp [packBits, Nat.mod_eq_of_lt hv]

/-- Adding values at the end of a bit string, with its length, appends them. -/
theorem foldl_eq_packBits (ts : List (Nat × Nat)) (a : Nat × Nat) :
    ts.foldl (fun a t => (a.1 + t.1 * 2 ^ a.2, a.2 + t.2)) a = (a.1 + 2 ^ a.2 * packBits ts, a.2 + packWidth ts) := by
  induction ts generalizing a with
  | nil => simp [packBits]
  | cons t ts ih =>
    rw [List.foldl_cons, ih]
    ext
    · simp only [packBits, pow_add]
      ring
    · simp only [packWidth_cons, Nat.add_assoc]

/-! ### Vectors (R137) -/

@[simp] theorem vectors_length (w n : Nat) (bs : List Byte) : (vectors w n bs).length = n := by
  induction n generalizing bs with
  | zero => rfl
  | succ n ih => simp [vectors, ih]

/-- A vector of w bytes is below 256^w. -/
theorem vectors_lt {w n v : Nat} {bs : List Byte} (hv : v ∈ vectors w n bs) : v < 256 ^ w := by
  induction n generalizing bs with
  | zero => simp [vectors] at hv
  | succ n ih =>
    obtain rfl | hrest := List.mem_cons.mp hv
    · exact (ofBytes_lt _).trans_le (Nat.pow_le_pow_right (by decide) (List.length_take_le _ _))
    · exact ih hrest

/-- The bytes of the first n vectors are the bytes from which they were read. -/
theorem unvectors_vectors {w n : Nat} {bs : List Byte} (h : w * n ≤ bs.length) :
    unvectors w (vectors w n bs) = bs.take (w * n) := by
  induction n generalizing bs with
  | zero => simp [vectors, unvectors]
  | succ n ih =>
    rw [Nat.mul_succ] at h ⊢
    have hfirst : toBytes w (ofBytes (bs.take w)) = bs.take w := by
      have hwrite := toBytes_ofBytes (bs.take w)
      rwa [List.length_take_of_le (by omega)] at hwrite
    have hrest : unvectors w (vectors w n (bs.drop w)) = (bs.drop w).take (w * n) := ih (by rw [List.length_drop]; omega)
    calc unvectors w (vectors w (n + 1) bs)
        = toBytes w (ofBytes (bs.take w)) ++ unvectors w (vectors w n (bs.drop w)) := rfl
      _ = bs.take (w * n + w) := by rw [hfirst, hrest, Nat.add_comm, List.take_add]

/-! ### Tokens and sub-streams (R138, R139) -/

/-- The vectors of a sub-stream fill its 512 bytes. -/
theorem vecBytes_mul (wide : Bool) : vecBytes wide * (512 / vecBytes wide) = 512 := by
  cases wide <;> rfl

/-- A code is never longer than a literal. -/
theorem codeBits_le (size : Nat) (wide : Bool) : codeBits size ≤ 8 * vecBytes wide := by
  have hcode : codeBits size ≤ 12 := by
    unfold codeBits
    split
    · decide
    · split <;> decide
  cases wide <;> simp only [vecBytes, if_true, Bool.false_eq_true, if_false] <;> omega

section
variable {cb w : Nat} {entries : List Nat}

/-- The tokens of vectors. -/
def tokens (cb w : Nat) (entries vs : List Nat) : List (Nat × Nat) := vs.map (tokenBits cb w entries)

@[simp] theorem tokens_nil : tokens cb w entries [] = [] := rfl

@[simp] theorem tokens_cons (v : Nat) (vs : List Nat) :
    tokens cb w entries (v :: vs) = tokenBits cb w entries v :: tokens cb w entries vs := rfl

/-- A vector that an entry gives is a flag of 1 with the entry's number as its code. -/
theorem tokenBits_code {v e : Nat} (h : entries.findIdx? (· == v) = some e) : tokenBits cb w entries v = (1 + 2 * e, 1 + cb) := by
  simp [tokenBits, h]

/-- A vector that no entry gives is a flag of 0 with the vector itself. -/
theorem tokenBits_literal {v : Nat} (h : entries.findIdx? (· == v) = none) : tokenBits cb w entries v = (2 * v, 1 + 8 * w) := by
  simp [tokenBits, h]

/-- The number that codes a vector is that of an entry that equals it. -/
theorem getElem?_of_findIdx? {v e : Nat} (h : entries.findIdx? (· == v) = some e) : entries[e]? = some v := by
  obtain ⟨he, hv, -⟩ := List.findIdx?_eq_some_iff_getElem.mp h
  rw [List.getElem?_eq_getElem he, beq_iff_eq.mp hv]

/-- A code fits in the bits of its class. -/
theorem code_lt {v e : Nat} (hentries : entries.length ≤ 2 ^ cb) (h : entries.findIdx? (· == v) = some e) : e < 2 ^ cb :=
  ((List.getElem?_eq_some_iff.mp (getElem?_of_findIdx? h)).1).trans_le hentries

/-- A vector fits in the bits of a literal. -/
theorem literal_lt {v : Nat} (hv : v < 256 ^ w) : v < 2 ^ (8 * w) := by
  rw [pow_mul]
  exact hv

theorem tokenBits_fits {v : Nat} (hentries : entries.length ≤ 2 ^ cb) (hv : v < 256 ^ w) :
    (tokenBits cb w entries v).1 < 2 ^ (tokenBits cb w entries v).2 := by
  cases hfind : entries.findIdx? (· == v) with
  | some e =>
    have he := code_lt hentries hfind
    simp only [tokenBits_code hfind, pow_add]
    omega
  | none =>
    have hlit := literal_lt hv
    simp only [tokenBits_literal hfind, pow_add]
    omega

theorem tokens_fit {vs : List Nat} (hentries : entries.length ≤ 2 ^ cb) (hvs : ∀ v ∈ vs, v < 256 ^ w) :
    EachFits (tokens cb w entries vs) := by
  intro t ht
  obtain ⟨v, hv, rfl⟩ := List.mem_map.mp ht
  exact tokenBits_fits hentries (hvs v hv)

/-- Tokens take at most the bits of as many literals. -/
theorem packWidth_tokens_le (hcb : cb ≤ 8 * w) (vs : List Nat) :
    packWidth (tokens cb w entries vs) ≤ vs.length * (1 + 8 * w) := by
  induction vs with
  | nil => simp
  | cons v vs ih =>
    have hv : (tokenBits cb w entries v).2 ≤ 1 + 8 * w := by
      unfold tokenBits
      split
      · simpa using hcb
      · simp
    rw [tokens_cons, packWidth_cons, List.length_cons, Nat.succ_mul, Nat.add_comm]
    exact Nat.add_le_add ih hv

/-- A sub-stream is its tokens one after another, padded to a byte. -/
theorem encodeSub_eq (vs : List Nat) : encodeSub cb w entries vs =
    toBytes (ceilDiv (packWidth (tokens cb w entries vs)) 8) (packBits (tokens cb w entries vs)) := by
  have hfold := foldl_eq_packBits (tokens cb w entries vs) (0, 0)
  rw [tokens, List.foldl_map, ← tokens] at hfold
  simp [encodeSub, hfold]

theorem encodeSub_length (vs : List Nat) :
    (encodeSub cb w entries vs).length = ceilDiv (packWidth (tokens cb w entries vs)) 8 := by
  rw [encodeSub_eq, toBytes_length]

/-- The padding of a sub-stream is 0 to 7 bits (R139). -/
theorem encodeSub_padding (vs : List Nat) :
    packWidth (tokens cb w entries vs) ≤ 8 * (encodeSub cb w entries vs).length
      ∧ 8 * (encodeSub cb w entries vs).length ≤ packWidth (tokens cb w entries vs) + 7 := by
  rw [encodeSub_length, ceilDiv]
  omega

/-- The bytes of a sub-stream spell its tokens. -/
theorem ofBytes_encodeSub {vs : List Nat} (hfit : EachFits (tokens cb w entries vs)) :
    ofBytes (encodeSub cb w entries vs) = packBits (tokens cb w entries vs) := by
  have hroom := (encodeSub_padding (cb := cb) (w := w) (entries := entries) vs).1
  rw [encodeSub_length] at hroom
  rw [encodeSub_eq]
  refine ofBytes_toBytes _ _ ((packBits_lt hfit).trans_le ?_)
  calc 2 ^ packWidth (tokens cb w entries vs) ≤ 2 ^ (8 * ceilDiv (packWidth (tokens cb w entries vs)) 8) :=
        Nat.pow_le_pow_right (by decide) hroom
    _ = 256 ^ ceilDiv (packWidth (tokens cb w entries vs)) 8 := pow_mul 2 8 _

/-- The flag, the value behind it and the bits behind both, read from the lowest bits (R138). -/
theorem flagged_read {f x n : Nat} (bits : Nat) (hf : f < 2) (hx : x < 2 ^ n) :
    (f + 2 * x + 2 ^ (1 + n) * bits) % 2 = f ∧ (f + 2 * x + 2 ^ (1 + n) * bits) / 2 % 2 ^ n = x
      ∧ (f + 2 * x + 2 ^ (1 + n) * bits) / 2 ^ (1 + n) = bits := by
  have hbits : f + 2 * x + 2 ^ (1 + n) * bits = f + 2 * (x + 2 ^ n * bits) := by rw [pow_add]; ring
  have hhalf : (f + 2 * (x + 2 ^ n * bits)) / 2 = x + 2 ^ n * bits := by omega
  rw [hbits]
  refine ⟨by omega, ?_, ?_⟩
  · rw [hhalf, Nat.add_mul_mod_self_left, Nat.mod_eq_of_lt hx]
  · rw [pow_add, ← Nat.div_div_eq_div_mul, pow_one, hhalf, Nat.add_mul_div_left _ _ (Nat.two_pow_pos _), Nat.div_eq_of_lt hx,
      Nat.zero_add]

section
variable {len pos : Nat} (n bits : Nat) (acc : List Nat)

/-- A code that fits in what is left of a sub-stream is read as the entry that it names. -/
theorem decodeSub_code {v e : Nat} (he : e < 2 ^ cb) (hentry : entries[e]? = some v) (hroom : pos + (1 + cb) ≤ len) :
    decodeSub cb w entries len (n + 1) (1 + 2 * e + 2 ^ (1 + cb) * bits) pos acc
      = decodeSub cb w entries len n bits (pos + (1 + cb)) (v :: acc) := by
  obtain ⟨hflag, hcode, hrest⟩ := flagged_read bits (f := 1) (by decide) he
  have hmore : (pos == len) = false := beq_false_of_ne (by omega)
  rw [decodeSub, hmore, hflag, if_neg Bool.false_ne_true, if_pos (beq_self_eq_true 1), if_neg (by omega), hcode, hentry, hrest,
    Nat.add_assoc]

/-- A literal that fits in what is left of a sub-stream is read as itself. -/
theorem decodeSub_literal {v : Nat} (hv : v < 2 ^ (8 * w)) (hroom : pos + (1 + 8 * w) ≤ len) :
    decodeSub cb w entries len (n + 1) (2 * v + 2 ^ (1 + 8 * w) * bits) pos acc
      = decodeSub cb w entries len n bits (pos + (1 + 8 * w)) (v :: acc) := by
  obtain ⟨hflag, hlit, hrest⟩ := flagged_read bits (f := 0) (by decide) hv
  rw [Nat.zero_add] at hflag hlit hrest
  have hmore : (pos == len) = false := beq_false_of_ne (by omega)
  rw [decodeSub, hmore, hflag, if_neg Bool.false_ne_true, if_neg (by decide), if_neg (by omega), hlit, hrest, Nat.add_assoc]

/-- The token of a vector, if it fits in what is left of a sub-stream, is read as that vector. -/
theorem decodeSub_token {v : Nat} (hentries : entries.length ≤ 2 ^ cb) (hv : v < 256 ^ w)
    (hroom : pos + (tokenBits cb w entries v).2 ≤ len) :
    decodeSub cb w entries len (n + 1)
        ((tokenBits cb w entries v).1 + 2 ^ (tokenBits cb w entries v).2 * bits) pos acc
      = decodeSub cb w entries len n bits (pos + (tokenBits cb w entries v).2) (v :: acc) := by
  cases hfind : entries.findIdx? (· == v) with
  | some e =>
    rw [tokenBits_code hfind] at hroom ⊢
    exact decodeSub_code n bits acc (code_lt hentries hfind) (getElem?_of_findIdx? hfind) hroom
  | none =>
    rw [tokenBits_literal hfind] at hroom ⊢
    exact decodeSub_literal n bits acc (literal_lt hv) hroom

end

/-- Tokens that end less than a byte before the end of a sub-stream are read as their vectors. -/
theorem decodeSub_tokens {len : Nat} {vs : List Nat} (hentries : entries.length ≤ 2 ^ cb) (hvs : ∀ v ∈ vs, v < 256 ^ w) (pos : Nat)
    (acc : List Nat) (hroom : pos + packWidth (tokens cb w entries vs) ≤ len)
    (hpad : len ≤ pos + packWidth (tokens cb w entries vs) + 7) :
    decodeSub cb w entries len vs.length (packBits (tokens cb w entries vs)) pos acc = .ok (acc.reverse ++ vs) := by
  induction vs generalizing pos acc with
  | nil =>
    rw [tokens_nil, packWidth_nil] at hpad
    have hshort : ¬ len - pos > 7 := by omega
    simp [decodeSub, packBits, hshort]
  | cons v vs ih =>
    rw [tokens_cons, packWidth_cons] at hroom hpad
    calc decodeSub cb w entries len (v :: vs).length (packBits (tokens cb w entries (v :: vs))) pos acc
        = decodeSub cb w entries len vs.length (packBits (tokens cb w entries vs)) (pos + (tokenBits cb w entries v).2) (v :: acc) :=
          decodeSub_token _ _ acc hentries (hvs v (by simp)) (by omega)
      _ = .ok ((v :: acc).reverse ++ vs) := ih (fun u hu => hvs u (by simp [hu])) _ _ (by omega) (by omega)
      _ = .ok (acc.reverse ++ v :: vs) := by simp

/-- A sub-stream decodes to its vectors. -/
theorem decodeSub_encodeSub {vs : List Nat} (hentries : entries.length ≤ 2 ^ cb) (hvs : ∀ v ∈ vs, v < 256 ^ w) :
    decodeSub cb w entries (8 * (encodeSub cb w entries vs).length) vs.length (ofBytes (encodeSub cb w entries vs)) 0 []
      = .ok vs := by
  obtain ⟨hroom, hpad⟩ := encodeSub_padding (cb := cb) (w := w) (entries := entries) vs
  rw [ofBytes_encodeSub (tokens_fit hentries hvs)]
  exact decodeSub_tokens hentries hvs 0 [] (by omega) (by omega)

end

/-! ### The header (R140, Table 4-2) -/

/-- The fields of Table 4-2 with their widths. -/
def headerFields (slot gen : Nat) (wide : Bool) (lens : List Nat) (crc : Nat) : List (Nat × Nat) :=
  [(1, 4), (slot, 6), (gen, 10), (ofBool wide, 1), (0, 3)] ++ lens.map (·, 11) ++ [(crc, 16)]

/-- Lengths placed one after another from bit 24 on are appended there. -/
theorem foldl_put_lens {lens : List Nat} (h : ∀ l ∈ lens, l < 2048) (k a : Nat) :
    (lens.zipIdx k).foldl (fun a p => a + put p.1 11 (24 + 11 * p.2)) a = a + 2 ^ (24 + 11 * k) * packBits (lens.map (·, 11)) := by
  induction lens generalizing k a with
  | nil => simp [packBits]
  | cons l lens ih =>
    have hl : l % 2 ^ 11 = l := Nat.mod_eq_of_lt (h l (by simp))
    rw [List.zipIdx_cons, List.foldl_cons, ih fun m hm => h m (by simp [hm])]
    simp only [put, hl, List.map_cons, packBits, Nat.mul_add, pow_add, Nat.mul_one]
    ring

@[simp] theorem codedHeader_length (slot gen : Nat) (wide : Bool) (lens : List Nat) (crc : Nat) :
    (codedHeader slot gen wide lens crc).length = 16 :=
  toBytes_length _ _

/-- A slot, a generation, eight lengths and a CRC that the header can hold. -/
structure HeaderHolds (slot gen : Nat) (lens : List Nat) (crc : Nat) : Prop where
  slotFits : slot < 64
  genFits : gen < 1024
  eightLens : lens.length = 8
  lensFit : ∀ l ∈ lens, l < 2048
  crcFits : crc < 65536

section
variable {slot gen crc : Nat} {lens : List Nat} (h : HeaderHolds slot gen lens crc) (wide : Bool)
include h

theorem headerFields_fit : EachFits (headerFields slot gen wide lens crc) := by
  have hwide : ofBool wide ≤ 1 := by cases wide <;> decide
  simpa [EachFits, headerFields, or_imp, forall_and] using ⟨h.slotFits, h.genFits, hwide, h.lensFit, h.crcFits⟩

theorem headerFields_width : packWidth (headerFields slot gen wide lens crc) = 128 := by
  simp [headerFields, packWidth_uniform, h.eightLens]

/-- The header is its fields, one after another. -/
theorem codedHeader_eq : codedHeader slot gen wide lens crc = toBytes 16 (packBits (headerFields slot gen wide lens crc)) := by
  have hslot : slot % 2 ^ 6 = slot := Nat.mod_eq_of_lt h.slotFits
  have hgen : gen % 2 ^ 10 = gen := Nat.mod_eq_of_lt h.genFits
  have hwide : ofBool wide % 2 ^ 1 = ofBool wide := by cases wide <;> rfl
  have hcrc : crc % 2 ^ 16 = crc := Nat.mod_eq_of_lt h.crcFits
  rw [codedHeader, foldl_put_lens h.lensFit]
  simp only [headerFields, packBits_append, packBits, packWidth_append, packWidth_cons, packWidth_nil, packWidth_uniform, h.eightLens,
    put, hslot, hgen, hwide, hcrc]
  congr 1
  ring

/-- The first 16 bytes of a coded block spell the header's fields. -/
theorem ofBytes_codedHeader (rest : List Byte) : ofBytes ((codedHeader slot gen wide lens crc ++ rest).take 16)
    = packBits (headerFields slot gen wide lens crc) := by
  have hlt := packBits_lt (headerFields_fit h wide)
  rw [headerFields_width h] at hlt
  rw [codedHeader_eq h, List.take_left' (toBytes_length _ _), ofBytes_toBytes _ _ hlt]

/-- A field of the header is read back from the bits where it stands. -/
theorem field_headerFields {ts us : List (Nat × Nat)} {v n hi lo : Nat}
    (hfields : ts ++ (v, n) :: us = headerFields slot gen wide lens crc) (hlo : packWidth ts = lo) (hn : hi + 1 - lo = n) :
    field (packBits (headerFields slot gen wide lens crc)) hi lo = v := by
  subst hlo hn
  exact packBits_read hfields (headerFields_fit h wide)

/-- LEN_k is read back (Table 4-2). -/
theorem field_headerLen {k : Nat} (hk : k < lens.length) :
    field (packBits (headerFields slot gen wide lens crc)) (24 + 11 * k + 10) (24 + 11 * k) = lens[k] := by
  have hsplit : lens.map (·, 11) = (lens.take k).map (·, 11) ++ (lens[k], 11) :: (lens.drop (k + 1)).map (·, 11) :=
    calc lens.map (·, 11) = (lens.take k ++ lens[k] :: lens.drop (k + 1)).map (·, 11) := by
          rw [List.cons_getElem_drop_succ, List.take_append_drop]
      _ = _ := by rw [List.map_append, List.map_cons]
  refine field_headerFields h wide (n := 11) (us := (lens.drop (k + 1)).map (·, 11) ++ [(crc, 16)])
    (ts := [(1, 4), (slot, 6), (gen, 10), (ofBool wide, 1), (0, 3)] ++ (lens.take k).map (·, 11)) ?fields ?place (by omega)
  case fields => simp only [headerFields, hsplit, List.append_assoc, List.cons_append]
  case place =>
    rw [packWidth_append, packWidth_uniform, List.length_take, Nat.min_eq_left hk.le]
    rfl

/-- The fields read from a header are those that were written. -/
theorem codedFacts_codedHeader (rest : List Byte) : codedFacts (codedHeader slot gen wide lens crc ++ rest)
    = { version := 1, slot := slot, gen := gen, wide := wide, reserved := 0, lens := lens, crc := crc } := by
  simp only [codedFacts, ofBytes_codedHeader h, CodedFacts.mk.injEq]
  refine ⟨?version, ?slot, ?gen, ?wide, ?reserved, ?lens, ?crc⟩
  case version => exact field_headerFields h wide (ts := []) rfl rfl rfl
  case slot => exact field_headerFields h wide (ts := [(1, 4)]) rfl rfl rfl
  case gen => exact field_headerFields h wide (ts := [(1, 4), (slot, 6)]) rfl rfl rfl
  case wide =>
    have hbit : field (packBits (headerFields slot gen wide lens crc)) 20 20 = ofBool wide :=
      field_headerFields h wide (ts := [(1, 4), (slot, 6), (gen, 10)]) rfl rfl rfl
    calc bitAt (packBits (headerFields slot gen wide lens crc)) 20
        = (field (packBits (headerFields slot gen wide lens crc)) 20 20 == 1) := rfl
      _ = wide := by rw [hbit]; cases wide <;> rfl
  case reserved => exact field_headerFields h wide (ts := [(1, 4), (slot, 6), (gen, 10), (ofBool wide, 1)]) rfl rfl rfl
  case lens =>
    refine List.ext_getElem (by simp [h.eightLens]) fun k _ hk => ?_
    simpa using field_headerLen h wide hk
  case crc =>
    refine field_headerFields h wide (ts := _ ++ lens.map (·, 11)) rfl ?_ rfl
    simp [packWidth_uniform, h.eightLens]

/-- A block with its slot, generation and width, and as long as its header says, passes checks 1 to 5 of Table 4-7. -/
theorem headerChecks_codedHeader {len size : Nat} {entries : List Nat} (rest : List Byte) (hlen : len = 16 + lens.sum)
    (hmost : len ≤ 4080) :
    headerChecks len slot gen (some (wide, size, entries)) (codedHeader slot gen wide lens crc ++ rest) = none := by
  have hshort : ¬ len > 4080 := by omega
  rw [List.sum_eq_foldl] at hlen
  simp [headerChecks, codedFacts_codedHeader h, hshort, ← hlen]

end

/-! ### The CRC (R141) -/

theorem crc16Step_lt (n : Nat) {c : Nat} (h : c < 2 ^ 16) : crc16Step n c < 2 ^ 16 := by
  induction n generalizing c with
  | zero => exact h
  | succ n ih =>
    rw [crc16Step]
    split
    · exact ih (Nat.xor_lt_two_pow (Nat.mod_lt _ (by decide)) (by decide))
    · exact ih (by omega)

theorem crc16_lt (bs : List Byte) : crc16 bs < 2 ^ 16 := by
  have hfold : ∀ c < 2 ^ 16, bs.foldl (fun c b => crc16Step 8 (c ^^^ (b.toNat * 256))) c < 2 ^ 16 := by
    induction bs with
    | nil => exact fun c hc => hc
    | cons b bs ih =>
      intro c hc
      have hb : b.toNat * 256 < 2 ^ 16 := by have := b.isLt; omega
      rw [List.foldl_cons]
      exact ih _ (crc16Step_lt 8 (Nat.xor_lt_two_pow hc hb))
  exact hfold _ (by decide)

/-! ### The block (R136, R142, R171) -/

/-- The vectors of a sub-stream (R137). -/
def subVectors (wide : Bool) (raw : List Byte) (k : Nat) : List Nat :=
  vectors (vecBytes wide) (512 / vecBytes wide) (raw.drop (512 * k))

theorem encodeSubs_eq (size : Nat) (wide : Bool) (entries : List Nat) (raw : List Byte) : encodeSubs size wide entries raw =
    (List.range 8).map fun k => encodeSub (codeBits size) (vecBytes wide) entries (subVectors wide raw k) := rfl

theorem encodeSubs_length (size : Nat) (wide : Bool) (entries : List Nat) (raw : List Byte) :
    (encodeSubs size wide entries raw).length = 8 := by
  simp [encodeSubs_eq]

/-- The length of a sub-stream fits in its field of the header. -/
theorem encodeSubs_lens_lt {size : Nat} {wide : Bool} {entries : List Nat} {raw : List Byte} :
    ∀ l ∈ (encodeSubs size wide entries raw).map List.length, l < 2048 := by
  simp only [encodeSubs_eq, List.map_map, List.mem_map, List.mem_range]
  rintro _ ⟨k, -, rfl⟩
  have htokens := packWidth_tokens_le (entries := entries) (codeBits_le size wide) (subVectors wide raw k)
  have hpad := (encodeSub_padding (cb := codeBits size) (w := vecBytes wide) (entries := entries) (subVectors wide raw k)).2
  have hmost : (subVectors wide raw k).length * (1 + 8 * vecBytes wide) ≤ 4160 := by
    rw [subVectors, vectors_length]
    cases wide <;> decide
  simp only [Function.comp_apply]
  omega

/-- Bytes cut by their lengths give back the pieces. -/
theorem splitSubs_flatten (subs : List (List Byte)) : splitSubs (subs.map List.length) subs.flatten = subs := by
  induction subs with
  | nil => rfl
  | cons sub subs ih => simp [splitSubs, ih]

/-- The pieces of n bytes each of a byte string. -/
theorem flatMap_pieces (n m : Nat) (bs : List Byte) :
    (List.range m).flatMap (fun k => (bs.drop (n * k)).take n) = bs.take (n * m) := by
  induction m with
  | zero => simp
  | succ m ih => simp [List.range_succ, ih, Nat.mul_succ, List.take_add]

/-- The vectors of the eight sub-streams spell the raw bytes. -/
theorem flatMap_subVectors {wide : Bool} {raw : List Byte} (h : raw.length = 4096) :
    ((List.range 8).map (subVectors wide raw)).flatMap (unvectors (vecBytes wide)) = raw := by
  have hpiece : ∀ k ∈ List.range 8, unvectors (vecBytes wide) (subVectors wide raw k) = (raw.drop (512 * k)).take 512 := by
    intro k hk
    have hk8 := List.mem_range.mp hk
    rw [subVectors, unvectors_vectors (by rw [vecBytes_mul, List.length_drop]; omega), vecBytes_mul]
  calc ((List.range 8).map (subVectors wide raw)).flatMap (unvectors (vecBytes wide))
      = (List.range 8).flatMap (fun k => unvectors (vecBytes wide) (subVectors wide raw k)) := List.flatMap_map _ _ _
    _ = (List.range 8).flatMap (fun k => (raw.drop (512 * k)).take 512) := List.flatMap_congr hpiece
    _ = raw.take (512 * 8) := flatMap_pieces 512 8 raw
    _ = raw := List.take_of_length_le (by omega)

/-- No error is the lowest of none. -/
theorem lowestError_ok (vss : List (List Nat)) : lowestError (vss.map .ok) = none := by
  rw [lowestError, List.foldl_map]
  induction vss with
  | nil => rfl
  | cons vs vss ih => exact ih

/-- What is read of each sub-stream of a block. -/
def readSubs (size : Nat) (wide : Bool) (entries : List Nat) (subs : List (List Byte)) : List (Except Nat (List Nat)) :=
  subs.map fun sub => decodeSub (codeBits size) (vecBytes wide) entries (8 * sub.length) (512 / vecBytes wide) (ofBytes sub) 0 []

/-- A block whose header passes and whose sub-streams are read without an error decodes to what their vectors spell, if that has the
CRC of the header. -/
theorem decodeBlock_of_subs {len slot gen size : Nat} {wide : Bool} {entries : List Nat} {bs : List Byte} {vss : List (List Nat)}
    (hheader : headerChecks len slot gen (some (wide, size, entries)) bs = none)
    (hsubs : readSubs size wide entries (splitSubs (codedFacts bs).lens (bs.drop 16)) = vss.map .ok)
    (hcrc : crc16 (vss.flatMap (unvectors (vecBytes wide))) = (codedFacts bs).crc) :
    decodeBlock len slot gen (some (wide, size, entries)) bs = .ok (vss.flatMap (unvectors (vecBytes wide))) := by
  rw [readSubs] at hsubs
  simp [decodeBlock, hheader, hsubs, lowestError_ok, List.flatMap_map, hcrc]

/-- A block that an encoder makes is its header and its sub-streams, and at most 4,080 B long (R142). -/
theorem encodeBlock_eq_some {slot gen size : Nat} {wide : Bool} {entries : List Nat} {raw b : List Byte}
    (h : encodeBlock slot gen size wide entries raw = some b) :
    b.length ≤ 4080 ∧ b = codedHeader slot gen wide ((encodeSubs size wide entries raw).map List.length) (crc16 raw)
      ++ (encodeSubs size wide entries raw).flatten := by
  rw [encodeBlock] at h
  obtain ⟨hmost, hb⟩ := Option.ite_none_right_eq_some.mp h
  cases hb
  exact ⟨hmost, rfl⟩

/-- Each sub-stream of a block decodes to its vectors. -/
theorem readSubs_encodeSubs {size : Nat} {wide : Bool} {entries : List Nat} (raw : List Byte)
    (hentries : entries.length ≤ classSize size) :
    readSubs size wide entries (encodeSubs size wide entries raw) = ((List.range 8).map (subVectors wide raw)).map .ok := by
  rw [readSubs, encodeSubs_eq, List.map_map, List.map_map]
  refine List.map_congr_left fun k _ => ?_
  have hdecode := decodeSub_encodeSub (vs := subVectors wide raw k) (w := vecBytes wide) hentries fun v hv => vectors_lt hv
  rwa [subVectors, vectors_length, ← subVectors] at hdecode

/-- Settles O49: the header holds what it is given, so a block passes its checks and is cut where its sub-streams meet; each of them
decodes to its vectors, and these spell the raw bytes, whose CRC the header has. -/
theorem codedBlocksDecodeToTheirBytes : Obligations.CodedBlocksDecodeToTheirBytes := by
  unfold Obligations.CodedBlocksDecodeToTheirBytes
  intro slot gen size wide entries raw b hslot hgen hentries hraw hencode
  obtain ⟨hmost, rfl⟩ := encodeBlock_eq_some hencode
  refine ⟨hmost, ?_⟩
  have hholds : HeaderHolds slot gen ((encodeSubs size wide entries raw).map List.length) (crc16 raw) :=
    ⟨hslot, hgen, by rw [List.length_map, encodeSubs_length], encodeSubs_lens_lt, crc16_lt raw⟩
  have hchecks := headerChecks_codedHeader hholds wide (size := size) (entries := entries) (encodeSubs size wide entries raw).flatten
    (by rw [List.length_append, codedHeader_length, List.length_flatten]) hmost
  have hvectors := flatMap_subVectors (wide := wide) hraw
  have hdecode := decodeBlock_of_subs (vss := (List.range 8).map (subVectors wide raw)) hchecks
    (by rw [codedFacts_codedHeader hholds, List.drop_left' (codedHeader_length _ _ _ _ _), splitSubs_flatten,
      readSubs_encodeSubs raw hentries])
    (by rw [hvectors, codedFacts_codedHeader hholds])
  rwa [hvectors] at hdecode

end Sys2Proof.Machine
end

section
/-! PROOFS. Near-memory commands, SQUEEGEE and TESTSTRIP that are ready (obligation O5), and test strips, encodes and decodes that go on
(obligation O10). -/

namespace Sys2Proof.Machine

open Sys2Proof Sys2Proof.Safety

/-- Settles O5: each command is ready, so it begins, and its opcode, and the operation of a REDUCE, give what it does. -/
theorem nearMemoryCommandsTakeEffect : Obligations.NearMemoryCommandsTakeEffect := by
  unfold Obligations.NearMemoryCommandsTakeEffect
  intro s id c
  refine ⟨?fill, ?copy, ?compare, ?sum, ?max, ?min, ?and, ?or, ?xor, ?squeegee, ?teststrip⟩
  case fill | copy | compare | sum | max | min | and | or | xor => exact rests_of_ready (nearBegin id) rfl
  case squeegee => exact rests_of_ready (scrubBegin id) rfl
  case teststrip => exact rests_of_ready (stripStart id) rfl

/-! ### Test strips (R158) -/

/-- Where the strip unit of an MD is free, the oldest strip that waits for it begins to sample. -/
theorem stripSample_of_find {s : State} {md : Nat} {t : Strip} (hfree : stripBusy s md = false)
    (hfind : s.codec.strips.find? (fun q => q.stage == 0 && q.slot % 8 == md) = some t) :
    stripSample md s = setStrip { t with stage := 1 } s := by
  rw [stripSample, hfree, if_neg Bool.false_ne_true, hfind]

/-! ### Ends of encodes and decodes (R18, R165, R171) -/

/-- A decode that a developer group runs ends where its dies reach each other. -/
theorem decodeEnds_of_find {s : State} {job : Nat} {error : List Byte} {j : DecodeJob}
    (hfind : s.codec.decodes.find? (·.id == job) = some j) (hruns : j.stage = 2) (hup : codecUp s j.md j.key = true) :
    decodeEnds job error s = decodeEnd j error s := by
  simp [decodeEnds, hfind, hruns, hup]

/-- The end of the verify decode of an encode. -/
theorem decodeEnd_verify {s : State} {error raw : List Byte} {j : DecodeJob} {isPark : Bool} {encoder : Nat}
    (huse : j.use = .verify isPark encoder raw) : decodeEnd j error s = verifyEnd j isPark encoder raw error s := by
  simp only [decodeEnd, huse]

/-- The end of the decode for a host read that has not returned. -/
theorem decodeEnd_host {s : State} {error : List Byte} {j : DecodeJob} {read : Nat} {r : FwdRead} (huse : j.use = .host read)
    (hread : s.tier.reads.find? (·.id == read) = some r) : decodeEnd j error s = hostDecodeEnd j r error s := by
  simp only [decodeEnd, huse, hread]

/-- An encode ends where its dies reach each other. -/
theorem encodeEnds_of_find {s : State} {job : Nat} {error : List Byte} {j : EncodeJob}
    (hfind : s.codec.encodes.find? (·.id == job) = some j) (hup : codecUp s j.md j.key = true) :
    encodeEnds job error s = encodeEnd j error s := by
  simp [encodeEnds, hfind, hup]

/-- Settles O10: each command has the effect of its operation on the strip, decode or encode that it finds. -/
theorem codecCommandsTakeEffect : Obligations.CodecCommandsTakeEffect := by
  unfold Obligations.CodecCommandsTakeEffect
  refine ⟨?sample, ?sketch, ?trial, ?verify, ?host, ?encode⟩
  case sample =>
    intro s md t hfree hfind
    exact rests_of_effect_eq rfl (stripSample_of_find hfree hfind)
  case sketch => exact fun s slot => rests_of_exec_eq_atRest rfl
  case trial => exact fun s slot => rests_of_exec_eq_atRest rfl
  case verify =>
    intro s job error j isPark encoder raw hfind huse hruns hup
    exact rests_of_effect_eq rfl ((decodeEnds_of_find hfind hruns hup).trans (decodeEnd_verify huse))
  case host =>
    intro s job error j read r hfind huse hread hruns hup
    exact rests_of_effect_eq rfl ((decodeEnds_of_find hfind hruns hup).trans (decodeEnd_host huse hread))
  case encode =>
    intro s job error j hfind hup
    exact rests_of_effect_eq rfl (encodeEnds_of_find hfind hup)

end Sys2Proof.Machine
end

section
/-! PROOFS. Steps of a frame's own units: what a step row does at a step that may issue, what it leaves unchanged, and the obligations
on VEC operations (O12), on RUN steps with VEC loads and stores (O13) and on what unit steps leave alone (O44). -/

namespace Sys2Proof.Machine

open Sys2Proof Sys2Proof.Safety

/-! ### A step that may issue (R241, R242) -/

/-- A step that may issue has room in its unit's queue. -/
theorem hasRoom_of_mayIssue {q : Sequencer} {w : Nat} (h : mayIssue q w = true) : hasRoom q w = true := by
  rw [mayIssue, Bool.and_eq_true] at h
  exact h.1

section
variable {s t : State} {run f : Nat} {pick : Nat → Bool} {r : Run} {q q1 : Sequencer} {w : Nat}
  {eff : Run → Sequencer → Nat → State → StepEnd}

/-- A step row whose step may issue does what its effect says, and the frame goes on. -/
theorem stepRow_of_ready (h : StepReady s run f pick r q w) (heff : eff r q w s = .done q1 t) :
    stepRow run f pick eff s = stepped run f r q q1 t := by
  have hroom := hasRoom_of_mayIssue h.issues
  simp [stepRow, stepped, h.isRun, h.isSeq, h.stands, h.runs, h.kind, h.free, h.within, h.issues, hroom, heff]

/-- A row of a frame's units whose step may issue leads to the state after that step. -/
theorem steps_of_done {c : Instr} (h : StepReady s run f pick r q w) (hexec : exec c s = overStep s (stepRow run f pick eff s))
    (heff : eff r q w s = .done q1 t) : Steps c s (stepped run f r q q1 t) := by
  rw [stepRow_of_ready h heff] at hexec
  exact hexec

/-- A step that its unit works on issues, with what the unit did. -/
theorem unitStep_of_works {work : State → Nat → Frame → UnitEnd} {d : UnitDone} (h : work s w (seen q w s) = .works d) :
    unitStep work r q w s = .done (unitIssued q w (frameOf s q.frame))
      (countWork q.frame r.part { d with frame := settleTray q w (rivals q w s) (frameOf s q.frame) d.frame } s) := by
  rw [seen] at h
  simp only [unitStep, h]

end

/-! ### VEC operations (R211, R212) -/

/-- A vector unit works on every operation of Table 5-7. -/
theorem vecOp_works (s : State) {w : Nat} (fr : Frame) (h : vecOps.contains (field w 55 48) = true) : ∃ d, vecOp s w fr = .works d := by
  simp only [vecOp, h, Bool.not_true, Bool.false_eq_true, if_false]
  exact ⟨_, rfl⟩

/-- An operation code of Table 5-7, with the command whose row takes it. -/
structure IsVecRow (p : Nat × (Nat → Fin 36 → Instr)) : Prop where
  listed : vecOps.contains p.1 = true
  row : ∀ (run : Nat) (f : Fin 36) (s : State), exec (p.2 run f) s = vecRow p.1 run f.val s

/-- A row takes a VEC operation of its own code. -/
theorem vecOpIs_of_field {op w : Nat} (hkind : vecIs 1 w = true) (hop : field w 55 48 = op) : vecOpIs op w = true := by
  simp [vecOpIs, hkind, hop]

/-- Settles O12: the unit works on every listed operation, and the row of its code takes the step, which may issue. -/
theorem vectorOperationsTakeEffect : Obligations.VectorOperationsTakeEffect := by
  unfold Obligations.VectorOperationsTakeEffect
  intro p hp s run f r q w h hop
  have hrow : IsVecRow p := by fin_cases hp <;> exact ⟨rfl, fun _ _ _ => rfl⟩
  obtain ⟨d, hd⟩ := vecOp_works s (seen q w s) (hop ▸ hrow.listed)
  have hready : StepReady s run f.val (vecOpIs p.1) r q w := { h with kind := vecOpIs_of_field h.kind hop }
  exact ⟨d, hd, steps_of_done hready (hrow.row run f s) (unitStep_of_works hd)⟩

/-! ### RUN steps, and VEC loads and stores (R199, R202, R211) -/

/-- Settles O13: each row takes the step, which may issue, and its unit works on it. -/
theorem unitStepsTakeEffect : Obligations.UnitStepsTakeEffect := by
  unfold Obligations.UnitStepsTakeEffect
  intro s run f r q w d
  refine ⟨fun hworks => ⟨?multiply, ?accumulate, ?drain⟩, ?load, ?store⟩
  case multiply | accumulate | drain => exact fun h => steps_of_done h rfl (unitStep_of_works hworks)
  case load | store => exact fun h hworks => steps_of_done h rfl (unitStep_of_works hworks)

/-! ### What a step of a frame's units leaves alone (R199, R211, R243, R246) -/

/-- A step of a frame's own units ends as such steps do: no tile's bytes, no map entry and no flash are of its effect. -/
theorem exec_eq_overStep {c : Instr} (s : State) (h : isUnitStep c = true) : ∃ t, exec c s = overStep s t := by
  unfold isUnitStep at h
  split at h
  case h_38 => exact absurd h Bool.false_ne_true
  all_goals exact ⟨_, rfl⟩

/-- Settles O44: what the end of such a step leaves alone stays, and the bytes of Ridge and Batten are read from it. -/
theorem unitStepFrames : Obligations.UnitStepFrames := by
  unfold Obligations.UnitStepFrames
  intro c s u hexec hunit
  obtain ⟨t, ht⟩ := exec_eq_overStep s hunit
  obtain ⟨hpending, hfuses, hund, hflash, hstart, hdram, hpkg, hod, hmem, hpoison, hexts⟩ := overStep_keeps (ht ▸ hexec)
  exact ⟨fun a => by rw [hmem], hpoison, hexts, hund, hflash, hfuses, hstart, hdram, hpkg, hod, hpending⟩

end Sys2Proof.Machine
end

section
/-! PROOFS. Grants of frames, frame switches and registrations that end (obligation O17). -/

namespace Sys2Proof.Machine

open Sys2Proof Sys2Proof.Safety

/-! ### Grants (R239, R240) -/

/-- A partition's queue once the frames that R223 took from its runs are replaced. -/
def refilled (p : Nat) (s : State) : State :=
  (s.cmp.runs.filter fun r => r.part == p && r.granted && r.stopping.isNone).foldl (fun u r => refillFrames r u) s

/-- The head of a queue, not expired, is granted the frames that it can all have, if those are the partition's own or reserved ones or
its turn has come. -/
theorem grantHead_of_grantFor {s t : State} {p : Nat} {r : Run} {fs : List Nat} (ht : refilled p s = t)
    (hhead : waitingHead t p = some r) (hintime : ∀ e, r.expiry = some e → nowUs t ≤ e) (hgrant : grantFor t r = some fs)
    (hturn : takesPool t p fs = true → turnOf t p = true) : grantHead p s = grantRun r fs t := by
  have hlive : (r.expiry.any fun e => decide (e < nowUs t)) = false := by
    rw [Option.any_eq_false_iff_get]
    intro hsome
    exact decide_eq_false (Nat.not_lt.mpr (hintime _ (Option.some_get hsome).symm))
  have hserved : (takesPool t p fs && ! turnOf t p) = false := by
    cases hpool : takesPool t p fs
    case false => rfl
    case true => rw [hturn hpool]; rfl
  rw [refilled] at ht
  simp only [grantHead, ht, hhead, hlive, hgrant, hserved, Bool.false_eq_true, if_false]

/-! ### Frame switches (R222, R223) -/

section
variable {s : State} {f : Nat}

/-- A frame switch toward a partition ends with the frame its own. -/
theorem switchEnds_owned {p : Nat} (h : (frameOf s f).switching = some (some p)) : switchEnds f true s =
    countFor 0x3053 p (modFrame f (fun x => { x with owner := some p, sinceUs := nowUs s, switching := none }) s) := by
  simp only [switchEnds, h, if_true]

/-- A frame switch toward no partition ends with the frame pooled. -/
theorem switchEnds_pooled (h : (frameOf s f).switching = some none) : switchEnds f true s =
    modFrame f (fun x => { x with owner := none, sinceUs := nowUs s, switching := none }) s := by
  simp only [switchEnds, h, if_true]

/-- A frame that does not clear, and that no run has, is out of use. -/
theorem switchEnds_outOfUse {dst : Option Nat} (h : (frameOf s f).switching = some dst) (hrun : (frameOf s f).run = none) :
    switchEnds f false s = raise 0x0502 none 0 (count 0x3050 2
      (modFrame f (fun x => { x with owner := none, outOfUse := true, switching := none, run := none }) s)) := by
  simp only [switchEnds, h, hrun, Bool.false_eq_true, if_false, Option.bind_none]

end

/-! ### Registrations (R229) -/

/-- A registration's digest may be computed: its job is a first registration, its admission point holds no reads of it, no extent of
a program is parked, and its bytes are at hand. -/
structure DigestRuns (s t : State) (part : Nat) (j : RegJob) (bytes : List Byte) : Prop where
  runs : s.cmp.regJobs.find? (·.part == part) = some j
  first : j.reload = false
  admitted : j.admitted = true ∨ heldMaster s (64 + part) = false
  resident : j.kind = 0 → ∀ d ∈ devExts s part j.first j.extents, kindOf s d ≠ 2 ∧ kindOf s d ≠ 3
  come : regBytes part j.first j.extents j.length s = (some bytes, t)

/-- The registry entry of a job whose content has image m and takes number n. -/
def regEntryOf (t : State) (part : Nat) (j : RegJob) (m : Image) (n : Nat) : RegEntry :=
  { state := 1, kind := m.kind, part := part, number := n, first := j.first, extents := j.extents
    length := j.length, locked := j.locked, at_ := calMs t, digest := j.digest, frames := m.frames, oneCd := m.oneCd
    stallLimit := m.stallLimit, streams := m.streams }

/-- A first registration whose digest matches, whose content is good and whose number is free is entered in the registry. -/
theorem regDigest_registers {s t : State} {part : Nat} {j : RegJob} {bytes : List Byte} {m : Image} {n : Nat}
    (h : DigestRuns s t part j bytes) (hlength : bytes.length = j.length) (hdigest : sha256 bytes = j.digest)
    (himage : (if j.kind == 0 then parseImage t bytes else some ⟨3, 0, false, 0, []⟩) = some m)
    (hnumber : (if j.number == 0 then regFree t j.kind else some j.number) = some n)
    (hfree : MapOps.get? (regKey j.kind n) t.cmp.registry = none) :
    regDigest part s = setRegObj part 9 n (regEnds part 2 (t.setCmp { t.cmp with
      registry := MapOps.insert (regKey j.kind n) (regEntryOf t part j m n) t.cmp.registry })) := by
  have hgoes : (! j.admitted && heldMaster s (64 + part)) = false := by
    rcases h.admitted with ha | ha <;> simp [ha]
  have hresident : (j.kind == 0 && (devExts s part j.first j.extents).any fun d => kindOf s d == 2 || kindOf s d == 3) = false := by
    simpa using h.resident
  have hmatch : (bytes.length == j.length && sha256 bytes == j.digest) = true := by simp [hlength, hdigest]
  simp only [regDigest, h.runs, hgoes, hresident, h.come, h.first, hmatch, himage, hnumber, hfree, Bool.not_true, Bool.false_eq_true,
    if_false, Option.isSome_none, regEntryOf]

/-! ### The obligation -/

/-- Settles O17: each command has the effect of its operation on the queue, switch or registration that it finds. -/
theorem grantAndRegistrationTakeEffect : Obligations.GrantAndRegistrationTakeEffect := by
  unfold Obligations.GrantAndRegistrationTakeEffect
  refine ⟨?grant, ?switch, ?register⟩
  case grant =>
    intro s t part r fs ht hhead hintime hgrant hturn
    exact rests_of_effect_eq rfl (grantHead_of_grantFor ht hhead hintime hgrant hturn)
  case switch =>
    intro s frame dst hdst
    refine ⟨?owned, ?pooled, ?outOfUse⟩
    case owned =>
      rintro p rfl
      exact rests_of_effect_eq rfl (switchEnds_owned hdst)
    case pooled =>
      rintro rfl
      exact rests_of_effect_eq rfl (switchEnds_pooled hdst)
    case outOfUse => exact fun hrun => rests_of_effect_eq rfl (switchEnds_outOfUse hdst hrun)
  case register =>
    intro s t part j bytes m n hjob hfirst hadmitted hresident hbytes hlength hdigest himage hnumber hfree
    exact rests_of_effect_eq rfl
      (regDigest_registers ⟨hjob, hfirst, hadmitted, hresident, hbytes⟩ hlength hdigest himage hnumber hfree)

end Sys2Proof.Machine
end

section
/-! PROOFS. Steps that move data, hint, wait for words or end a stream (obligation O14), steps of the sequencer alone (obligation O15),
and the tokens of a run (obligation O59). -/

namespace Sys2Proof.Machine

open Sys2Proof Sys2Proof.Safety

/-! ### Steps after which the device comes to rest (R244 to R249) -/

section
variable {s t : State} {run f : Nat} {pick : Nat → Bool} {r : Run} {q q1 : Sequencer} {w : Nat}
  {eff : Run → Sequencer → Nat → State → StepEnd} {c : Instr}

/-- A step row that may free work elsewhere, and whose step may issue, rests in the state after that step. -/
theorem rests_of_done (h : StepReady s run f pick r q w) (hexec : exec c s = atRest s (stepRow run f pick eff s))
    (heff : eff r q w s = .done q1 t) : Rests c s (stepped run f r q q1 t) :=
  rests_of_effect_eq hexec (stepRow_of_ready h heff)

/-- A WAIT on a word that may issue rests in the state after that step, in which its sequencer is stalled until the word is reached. -/
theorem rests_of_wordWait (h : StepReady s run f pick r q w)
    (hexec : exec c s = atRest s (stallWord run f (stepRow run f pick eff s))) (heff : eff r q w s = .done q1 t) :
    Rests c s (stallWord run f (stepped run f r q q1 t)) :=
  rests_of_effect_eq hexec (congrArg (stallWord run f) (stepRow_of_ready h heff))

end

/-- A WAIT on a remote word sends its read where the run's LD may master, and stands until the word comes (R244). -/
theorem remoteWait_of_canMaster {s : State} {r : Run} (f : Nat) (q : Sequencer) (w : Nat) (h : canMaster s (r.port * 16 + r.ld) = true) :
    remoteWait r f q w s = .done { q with wordWait := some (2, wordAddr r w) }
      (busRead (r.port * 16 + r.ld) r.part (.poll r.id f) (wordAddr r w) 4 s) := by
  simp only [remoteWait, h, Bool.not_true, Bool.false_eq_true, if_false]

/-- The poll period of a WAIT on a device word ends, and the word is read again: the WAIT passes, or stays stalled since it began
(R243, R244). -/
theorem pollAgain_of_deviceWait {s t : State} {run f : Nat} {r : Run} {q q1 : Sequencer} {w : Nat} (hrun : runOf s run = some r)
    (hseq : seqOf r f = some q) (hstep : stepAt s r f q = some w) (hruns : running s r q = true)
    (hwithin : regulated s r q w = false) (hpolls : polling s r f = false) (hword : q.wordWait = some (1, wordAddr r w))
    (hwait : deviceWait r q w s = .done q1 t) :
    pollAgain run f s = checkEnd run (runAhead run f (setSeq run f
      { q1 with
        stalledSince := if q1.wordWait.isSome then some (q.stalledSince.getD (nowUs s)) else none, admitted := false } t)) := by
  simp [pollAgain, hrun, hseq, hstep, hruns, hwithin, hpolls, hword, hwait]

/-- Settles O14: each row takes the step, which may issue, and the step does what its own operation says; a WAIT on a word stalls
besides, and its poll reads the word again. -/
theorem dataStepsTakeEffect : Obligations.DataStepsTakeEffect := by
  unfold Obligations.DataStepsTakeEffect
  intro s run f r q q1 w t
  refine ⟨?load, ?store, ?hint, ?remoteWrite, ?remoteRead, ?deviceWord, ?remoteWord, ?poll, ?endStep⟩
  case load | store | hint | remoteWrite => exact fun h heff => rests_of_done h rfl heff
  case remoteRead => exact fun h heff => rests_of_done (eff := fun r q w t => remoteReadStep r f.val q w t) h rfl heff
  case deviceWord => exact fun h heff => rests_of_wordWait h rfl heff
  case remoteWord =>
    exact fun h hmaster => rests_of_wordWait (eff := fun r q w t => remoteWait r f.val q w t) h rfl
      (remoteWait_of_canMaster f.val q w hmaster)
  case poll =>
    intro hrun hseq hstep hruns hwithin hpolls hword hwait
    exact rests_of_effect_eq rfl (pollAgain_of_deviceWait hrun hseq hstep hruns hwithin hpolls hword hwait)
  case endStep => exact fun h => rests_of_done h rfl rfl

/-! ### Steps of the sequencer alone (R234, R243, R246) -/

/-- A SIGNAL issues once no earlier step of its frame is incomplete (R243). -/
theorem signalStep_of_complete {q : Sequencer} (value : Run → Nat → Nat) (r : Run) (w : Nat) (s : State) (h : q.issued = []) :
    signalStep value r q w s = .done (passed q) (setToken r.id (field w 38 33) (value r w) s) := by
  simp only [signalStep, h, List.isEmpty_nil, if_true]

/-- A LOOP issues unless its count comes from an argument and is beyond what COUNT can hold (R246). -/
theorem loopStep_of_count {r : Run} {w : Nat} (q : Sequencer) (s : State) (h : bitAt w 34 = true → loopCount r w ≤ 16777215) :
    loopStep r q w s = .done (openLoop (loopCount r w) w q) s := by
  have hfits : ¬ (bitAt w 34 && decide (16777215 < loopCount r w)) = true := by simpa using h
  rw [loopStep, if_neg hfits]

/-- Settles O15: each row takes the step, which may issue, and the sequencer goes past it or opens its loop. -/
theorem controlStepsTakeEffect : Obligations.ControlStepsTakeEffect := by
  unfold Obligations.ControlStepsTakeEffect
  intro s run f r q w
  refine ⟨?nop, ?wait, ?add, ?set, ?loop⟩
  case nop => exact fun h => steps_of_done h rfl rfl
  case wait => exact fun h hreached => steps_of_done h rfl (if_pos hreached)
  case add | set => exact fun h hcomplete => steps_of_done h rfl (signalStep_of_complete _ r w s hcomplete)
  case loop => exact fun h hcount => steps_of_done h rfl (loopStep_of_count q s hcount)

/-! ### Tokens (R243) -/

/-- A run is found under its own number. -/
theorem id_of_runOf {s : State} {run : Nat} {r : Run} (h : runOf s run = some r) : r.id = run := by
  simpa using List.find?_some h

/-- Replacing a run moves none: under every number the same run is found, or the one that replaces it. -/
theorem runOf_setRun (r : Run) (s : State) (id : Nat) :
    runOf (setRun r s) id = (runOf s id).map fun q => if q.id == r.id then r else q := by
  have hnumber (q : Run) : (if q.id == r.id then r else q).id = q.id := by
    split
    next h => exact (beq_iff_eq.mp h).symm
    next => rfl
  simp only [runOf, setRun, State.setCmp_cmp, List.find?_map, Function.comp_def, hnumber]

/-- A run that is replaced is found as it is now. -/
theorem runOf_setRun_same {s : State} {r p : Run} (h : runOf s r.id = some p) : runOf (setRun r s) r.id = some r := by
  simp [runOf_setRun, h, id_of_runOf h]

/-- Replacing a run changes none of the others. -/
theorem runOf_setRun_ne {r : Run} {other : Nat} (h : other ≠ r.id) (s : State) : runOf (setRun r s) other = runOf s other := by
  rw [runOf_setRun]
  cases hother : runOf s other with
  | none => rfl
  | some q => simp [id_of_runOf hother, h]

/-- A run whose token is given a value holds it modulo 2^32, and is else as it was. -/
theorem runOf_setToken_same {s : State} {run : Nat} {r : Run} (t v : Nat) (h : runOf s run = some r) :
    runOf (setToken run t v s) run = some { r with tokens := MapOps.put t 0 (v % 2 ^ 32) r.tokens } := by
  obtain rfl := id_of_runOf h
  rw [setToken, h]
  exact runOf_setRun_same h

/-- Giving a token a value changes no other run. -/
theorem runOf_setToken_ne {run other : Nat} (h : other ≠ run) (t v : Nat) (s : State) :
    runOf (setToken run t v s) other = runOf s other := by
  rw [setToken]
  cases hrun : runOf s run with
  | none => rfl
  | some r =>
    obtain rfl := id_of_runOf hrun
    exact runOf_setRun_ne (r := { r with tokens := MapOps.put t 0 (v % 2 ^ 32) r.tokens }) h s

/-- A token passes a WAIT from the value that the WAIT names until 2^31 − 1 beyond it. -/
theorem reached_add_iff {v d : Nat} (hv : v < 2 ^ 32) (hd : d < 2 ^ 32) : reached ((v + d) % 2 ^ 32) v = true ↔ d < 2 ^ 31 := by
  have hdistance : ((v + d) % 2 ^ 32 + 2 ^ 32 - v) % 2 ^ 32 = d := by omega
  rw [reached, hdistance, decide_eq_true_iff]

/-- Settles O59: a token's value is put into its run's tokens alone, and no other run is replaced. -/
theorem tokensCountModulo : Obligations.TokensCountModulo := by
  unfold Obligations.TokensCountModulo
  refine ⟨?tokens, ?wait⟩
  case tokens =>
    intro s run t k v r hrun _
    refine ⟨_, runOf_setToken_same t v hrun, ?_, fun hk => ?_, fun other hother => runOf_setToken_ne hother t v s⟩
    · exact MapOps.getD_put_same t 0 _ _
    · exact MapOps.getD_put_ne hk 0 0 _ _
  case wait => exact fun v d hv hd => reached_add_iff hv hd

end Sys2Proof.Machine
end

section
/-! PROOFS. Writes of RegCommand (obligation O24, which fails). -/

namespace Sys2Proof.Machine

open Sys2Proof Sys2Proof.Safety

/-! ### A reload while a revoke drains the weights' extent (R232, R323) -/

/-- A VALID Range Table row of partition 0 that maps its DPA extent 0 to device extent 0 for reads and writes, which a revoke drains and
on which one read-only lock is held. -/
def drainedLockedRow : Nat := rtSetLocks (1 + 2 + 4 + 8 + put 1 28 96) 1

/-- Weight set 7 of partition 0, REGISTERED on DPA extent 0, which was device extent 0 when its lock was taken. -/
def registeredWeights : RegEntry := { state := 1, kind := 1, part := 0, number := 7, extents := 1, length := 64, locked := [0] }

/-- A device in S4 that drains the extent of partition 0's weight set 7, which the partition's RegKind and RegNumber name. -/
def reloadWhileRevoked : State :=
  let s := setTableRow 0x2120 0 drainedLockedRow (setPart 0 1 0 1 (modStart (fun b => { b with stage := .lit, phase := 4 }) State.reset))
  setRegObj 0 2 7 (setRegObj 0 1 1 ((s.setCmp { s.cmp with registry := [(weightKey 7, registeredWeights)] }).setShare
    { s.share with revokes := [(0, { part := 0, reassign := false, rows := [0], scrub := [], stage := 1 })], nextRevoke := 1 }))

/-- Range Table row 0 in the state to which a command leads. -/
def rangeRowAfter : Host.Outcome State Fault Refusal → Nat
  | .next t => tableRow t 0x2120 0
  | _ => 0

/-- The fabric manager may write 3, reload, to RegCommand over I3C. -/
theorem reloadWhileRevoked_mayWrite : ∃ o, MayWrite reloadWhileRevoked .i3c 0x2A10 7 1 3 o :=
  ⟨{ index := 0x2A10, sub := 7, subTo := 7, type := 8, size := 1, access := 4, dflt := 0, lo := 1, hi := 3 },
    ⟨by decide, by decide⟩, by decide, by decide, by decide, by decide, by decide, by decide⟩

/-- The reload gives free the lock where it was taken, although the extent is no longer mapped. -/
theorem reloadWhileRevoked_unlocks :
    rangeRowAfter (exec (.reload .i3c 0) reloadWhileRevoked) = rtSetLocks drainedLockedRow 0 := by decide +kernel

/-- Refutes O24: a reload makes writable the extents that its registration locked, which the statement looks up in the Range Table as
it is by then. Where a revoke drains the extent in between, the device's lock falls, and the statement's stays. -/
theorem not_registrationWritesTakeEffect : ¬ Obligations.RegistrationWritesTakeEffect := by
  unfold Obligations.RegistrationWritesTakeEffect
  intro h
  obtain ⟨o, hmay⟩ := reloadWhileRevoked_mayWrite
  obtain ⟨-, -, hreload⟩ := h reloadWhileRevoked .i3c 0 o _ 0 rfl (by decide) (by decide) (by decide)
  have hserves := hreload registeredWeights hmay (by decide) (by decide) rfl rfl
  have hstays : rangeRowAfter (exec (.reload .i3c 0) reloadWhileRevoked) = drainedLockedRow :=
    (congrArg rangeRowAfter hserves).trans (by decide +kernel)
  exact absurd (reloadWhileRevoked_unlocks.symm.trans hstays) (by decide)

end Sys2Proof.Machine
end

section
/-! PROOFS. Registers of a ring: ENABLE and DISABLE (obligation O18), and the doorbells (obligations O18 and O52). -/

namespace Sys2Proof.Machine

open Sys2Proof Sys2Proof.Safety

/-! ### LDs and their BAR0 (R304, R338) -/

@[simp] theorem ldNo_div (port : Fin 4) (ld : Fin 16) : ldNo port ld / 16 = port.val := by
  rw [ldNo]; omega

@[simp] theorem ldNo_mod (port : Fin 4) (ld : Fin 16) : ldNo port ld % 16 = ld.val := by
  rw [ldNo]; omega

/-- A register write that reaches the BAR0 of an LD is taken. -/
theorem barGate_of_ready {s : State} {port : Fin 4} {ld : Fin 16} {spid : Nat} (posted : Bool) (go : State → State)
    (h : BarReady s (ldNo port ld) spid) : barGate (.ld port ld) spid posted go s = go s := by
  obtain ⟨hserved, hflr, hfree, hopen⟩ := h
  rw [ldNo_div] at hfree
  rw [ldNo] at hserved hflr hopen
  simp [barGate, hserved, hflr, hfree, hopen]

/-- A command that writes a register of an LD completes with what the write does, where the write reaches the LD. -/
theorem rests_of_barGate {c : Instr} {s u : State} {port : Fin 4} {ld : Fin 16} {spid : Nat} {go : State → State}
    (hexec : exec c s = atRest s (barGate (.ld port ld) spid true go s)) (hbar : BarReady s (ldNo port ld) spid) (heffect : go s = u) :
    Rests c s u :=
  rests_of_effect_eq hexec ((barGate_of_ready true go hbar).trans heffect)

/-! ### ENABLE and DISABLE (R266, R270) -/

/-- The first DPA extent of a ring's SQ. -/
def sqFirst (r : Ring) : Nat := r.sqBase / 2097152

/-- The DPA extents over which a ring's SQ lies. -/
def sqExtents (r : Ring) : Nat := (r.sqBase + 64 * 2 ^ r.sqLog2 + 2097151) / 2097152 - sqFirst r

/-- What R266 asks of a ring that partition p enables: it is DISABLED, its fields are in their ranges, p may write the extents of its SQ,
and p has fewer than 64 rings enabled. -/
structure MayEnable (s : State) (p : Nat) (r : Ring) : Prop where
  disabled : r.state = 0
  sqLog2 : 6 ≤ r.sqLog2 ∧ r.sqLog2 ≤ 16
  cqLog2 : 6 ≤ r.cqLog2 ∧ r.cqLog2 ≤ 16
  irqMode : r.irqMode ≤ 2
  aligned : r.sqBase % 4096 = 0
  writable : ∀ k < sqExtents r, canWrite s p (sqFirst r + k) = true
  room : ringsEnabled s p < 64

/-- A ring as ENABLE leaves it, with the extents of its SQ pinned. -/
def enabledRing (pinned : List Nat) (r : Ring) : Ring :=
  { r with sqHead := 0, cqTail := 0, cqHead := 0, sqTail := 0, state := 1, fault := 0, phase := true, disabling := false, fetch := 0
           pinned := pinned }

/-- A ring that meets what R266 asks becomes ACTIVE, and the extents of its SQ are brought back where they are parked. -/
theorem ringEnable_of_mayEnable {s : State} {i ring p : Nat} {r : Ring} (hserved : ldServed s i = true)
    (hpart : ldPart s (i / 16) (i % 16) = some p) (hr : ringOf s (i * 64 + ring) = r) (h : MayEnable s p r) :
    ringEnable i ring s = unparkAll (64 + p) (devExts s p (sqFirst r) (sqExtents r))
      (modRing (i * 64 + ring) (enabledRing (devExts s p (sqFirst r) (sqExtents r))) s) := by
  obtain ⟨hdisabled, ⟨hsq, hsq'⟩, ⟨hcq, hcq'⟩, hirq, haligned, hwritable, hroom⟩ := h
  have hall : (List.range (sqExtents r)).all (fun k => canWrite s p (sqFirst r + k)) = true :=
    List.all_eq_true.mpr fun k hk => hwritable k (List.mem_range.mp hk)
  rw [sqExtents, sqFirst] at hall
  simp only [ringEnable, hpart, hr, hserved, hdisabled, hsq, hsq', hcq, hcq', hirq, haligned, hall, hroom, bne_self_eq_false,
    beq_self_eq_true, decide_true, Bool.not_true, Bool.or_self, Bool.and_self, Bool.false_eq_true, if_false, if_true]
  rfl

/-- A ring that is not DISABLED is being disabled from the write on, and becomes DISABLED once nothing of it remains. -/
theorem ringDisable_of_enabled {s : State} {i ring : Nat} (h : (ringOf s (i * 64 + ring)).state ≠ 0) :
    ringDisable i ring s = disableCheck (i * 64 + ring) (modRing (i * 64 + ring) (fun q => { q with disabling := true }) s) := by
  simp [ringDisable, h]

/-! ### Doorbells (R267) -/

/-- To count leaves every ring as it is. -/
@[simp] theorem ringOf_countBy (index sub n id : Nat) (s : State) : ringOf (countBy index sub n s) id = ringOf s id := rfl

/-- Stores to a ring that is not ACTIVE give no value. -/
theorem coalesced_of_not_active {s : State} {id : Nat} (stores : List (BitVec 16)) (h : ringState s id ≠ 1) :
    coalesced id stores s = none := by
  rw [coalesced]
  split
  · rfl
  · simp [h]

/-- Of the stores to an ACTIVE ring the latest gives its value, and those that it overtakes are counted. -/
theorem coalesced_of_active {s : State} {id : Nat} {stores : List (BitVec 16)} {v : BitVec 16} (h : ringState s id = 1)
    (hlast : stores.getLast? = some v) : coalesced id stores s = some (v.toNat, countBy 0x3070 2 (stores.length - 1) s) := by
  simp [coalesced, hlast, h]

section
variable {s t : State} {i ring v : Nat} {stores : List (BitVec 16)}

/-- Stores to SQ_TAIL that give no value are dropped and counted. -/
theorem sqTail_of_none (h : coalesced (i * 64 + ring) stores s = none) : sqTail i ring stores s = countBy 0x3070 3 stores.length s := by
  simp only [sqTail, h]

/-- Stores to CQ_HEAD that give no value are dropped and counted. -/
theorem cqHead_of_none (h : coalesced (i * 64 + ring) stores s = none) : cqHead i ring stores s = countBy 0x3070 3 stores.length s := by
  simp only [cqHead, h]

/-- SQ_TAIL takes an index of the SQ. -/
theorem sqTail_of_lt (h : coalesced (i * 64 + ring) stores s = some (v, t)) (hv : v < 2 ^ (ringOf t (i * 64 + ring)).sqLog2) :
    sqTail i ring stores s = modRing (i * 64 + ring) (fun q => { q with sqTail := v }) t := by
  simp only [sqTail, h, if_neg (Nat.not_le.mpr hv)]

/-- A value of SQ_TAIL that is no index of the SQ makes the ring FAULTED. -/
theorem sqTail_of_ge (h : coalesced (i * 64 + ring) stores s = some (v, t)) (hv : 2 ^ (ringOf t (i * 64 + ring)).sqLog2 ≤ v) :
    sqTail i ring stores s = faultRing (i * 64 + ring) 1 t := by
  simp only [sqTail, h, if_pos hv]

/-- The records between CQ_HEAD and an index of the CQ: those that a store of the index releases, or, up to CQ_TAIL, those written and
not yet released. -/
def cqSpan (r : Ring) (index : Nat) : Nat := (index + 2 ^ r.cqLog2 - r.cqHead) % 2 ^ r.cqLog2

/-- CQ_HEAD takes an index of the CQ that releases no more records than are written. -/
theorem cqHead_of_written {r : Ring} (h : coalesced (i * 64 + ring) stores s = some (v, t)) (hr : ringOf t (i * 64 + ring) = r)
    (hv : v < 2 ^ r.cqLog2) (hwritten : cqSpan r v ≤ cqSpan r r.cqTail) :
    cqHead i ring stores s = modRing (i * 64 + ring) (fun q => { q with cqHead := v }) t := by
  rw [cqSpan, cqSpan] at hwritten
  simp [cqHead, h, hr, Nat.not_le.mpr hv, Nat.not_lt.mpr hwritten]

/-- A value of CQ_HEAD that is no index of the CQ, or that releases a record not written, makes the ring FAULTED. -/
theorem cqHead_of_not_written {r : Ring} (h : coalesced (i * 64 + ring) stores s = some (v, t)) (hr : ringOf t (i * 64 + ring) = r)
    (hv : 2 ^ r.cqLog2 ≤ v ∨ cqSpan r r.cqTail < cqSpan r v) : cqHead i ring stores s = faultRing (i * 64 + ring) 2 t := by
  rw [cqSpan, cqSpan] at hv
  simp [cqHead, h, hr, hv]

end

/-- Settles O18: each write reaches the LD, and acts on a ring that meets what its rule asks. -/
theorem ringRegistersTakeEffect : Obligations.RingRegistersTakeEffect := by
  unfold Obligations.RingRegistersTakeEffect
  intro s port ld spid ring hbar
  refine ⟨?enable, ?disable, ?doorbells⟩
  case enable =>
    intro p hpart hdisabled hsq hsq' hcq hcq' hirq haligned hwritable hroom
    have hmay : MayEnable s p (ringOf s (ldNo port ld * 64 + ring.val)) :=
      ⟨hdisabled, ⟨hsq, hsq'⟩, ⟨hcq, hcq'⟩, hirq, haligned, hwritable, hroom⟩
    exact rests_of_barGate rfl hbar (ringEnable_of_mayEnable hbar.isServed (by simpa using hpart) rfl hmay)
  case disable =>
    intro henabled
    exact rests_of_barGate rfl hbar (ringDisable_of_enabled henabled)
  case doorbells =>
    intro stores v t hvalue
    constructor
    · intro hv
      exact rests_of_barGate rfl hbar (sqTail_of_lt hvalue hv)
    · intro r hr hv hwritten
      exact rests_of_barGate rfl hbar (cqHead_of_written hvalue hr hv hwritten)

/-- Settles O52: the latest store to an ACTIVE ring gives the value, which the indices of the ring then judge. -/
theorem doorbellsFollowTheirRule : Obligations.DoorbellsFollowTheirRule := by
  unfold Obligations.DoorbellsFollowTheirRule
  rintro s port ld spid ring _ stores hbar rfl
  constructor
  · intro hstate
    have hnone := coalesced_of_not_active stores hstate
    exact ⟨rests_of_barGate rfl hbar (sqTail_of_none hnone), rests_of_barGate rfl hbar (cqHead_of_none hnone)⟩
  · rintro v _ hstate hlast rfl
    have hvalue := coalesced_of_active hstate hlast
    refine ⟨?sqOut, ?sqIn, ?cqOut, ?cqIn⟩
    case sqOut => exact fun hv => rests_of_barGate rfl hbar (sqTail_of_ge hvalue hv)
    case sqIn => exact fun hv => rests_of_barGate rfl hbar (sqTail_of_lt hvalue hv)
    case cqOut => exact fun hv => rests_of_barGate rfl hbar (cqHead_of_not_written hvalue (ringOf_countBy ..) (.inl hv))
    case cqIn =>
      intro hv
      constructor
      · intro hbeyond
        exact rests_of_barGate rfl hbar (cqHead_of_not_written hvalue (ringOf_countBy ..) (.inr hbeyond))
      · intro hwritten
        exact rests_of_barGate rfl hbar (cqHead_of_written hvalue (ringOf_countBy ..) hv hwritten)

end Sys2Proof.Machine
end

section
/-! PROOFS. HINT, MOVE, PARK, UNPARK and DROP by extent that are ready (obligation O3, R55 to R59, R277, R278). -/

namespace Sys2Proof.Machine

open Sys2Proof Sys2Proof.Safety

/-- Settles O3: each command by extent is ready, so it begins, and its opcode, and the code of a HINT, give what it does. -/
theorem extentCommandsTakeEffect : Obligations.ExtentCommandsTakeEffect := by
  unfold Obligations.ExtentCommandsTakeEffect
  intro s id c
  refine ⟨?hot, ?warm, ?cold, ?hintPark, ?hintDrop, ?move, ?park, ?unpark, ?drop⟩
  case hot | warm | cold | hintPark | hintDrop => exact hint_rests_of_ready (hintExts id) rfl
  case move => exact rests_of_ready (moveTiles id) rfl
  case park => exact rests_of_ready (parkExts id) rfl
  case unpark => exact rests_of_ready (unparkExts id) rfl
  case drop => exact rests_of_ready (dropExts id) rfl

end Sys2Proof.Machine
end

section
/-! PROOFS. How commands are fetched, miss their deadlines and end, and how a gathering time ends (obligation O19). -/

namespace Sys2Proof.Machine

open Sys2Proof Sys2Proof.Safety

/-! ### Fetch (R268, R269, R274) -/

/-- The DPA of the entry at SQ_HEAD of a ring. -/
def nextEntry (r : Ring) : Nat := r.sqBase + 64 * r.sqHead

/-- A descriptor that the served ring's fetch reads whole, that its session has room for and that passes every check becomes a command in
flight, which enters its session; a RUN has its argument block read. -/
theorem fetchOne_enters {s t t0 : State} {i ring part : Nat} {r : Ring} {bytes : List Byte}
    (hpart : ldPart s (i / 16) (i % 16) = some part) (hmay : mayFetch s i ring part = true)
    (hserved : servedRing s = some (i * 64 + ring)) (hr : ringOf s (i * 64 + ring) = r) (hunfrozen : r.fetch ≤ 1)
    (hread : listSector [5, i * 64 + ring] part (nextEntry r) s = (some (bytes, false), t0))
    (ht : serveTurn (i * 64 + ring) 1 (forgetReads (· == [5, i * 64 + ring]) t0) = t)
    (hroom : sessionFull t part (ofBytes bytes) = false) (hstatus : fetchStatus t part (ofBytes bytes) = 0) :
    fetchOne i ring s = readBlockOf t.queue.nextCmd
      (enterSession t.queue.nextCmd (ofBytes bytes) (newCmd i ring part (ofBytes bytes) t)) := by
  rw [nextEntry] at hread
  simp only [fetchOne, hpart, hmay, hserved, hr, hread, ht, hroom, hstatus, Nat.not_lt.mpr hunfrozen, bne_self_eq_false, Bool.not_true,
    Bool.or_self, Bool.false_eq_true, if_false]

/-! ### Gathered interrupts (R284) -/

/-- A ring that gathers, of an LD that is not frozen, sends its one message. -/
theorem gatherEnds_of_gathering {s : State} {id : Nat} (hgathering : (ringOf s id).gathering = true)
    (hfrozen : ldFrozen s (id / 64) = false) :
    gatherEnds id s = sendMsix (id / 64) (ringOf s id).vector (modRing id (fun r => { r with gathering := false }) s) := by
  simp [gatherEnds, hgathering, hfrozen]

/-! ### Deadlines (R286) -/

/-- No run, exposure, session park, wake or ATTEND is in progress. -/
structure NoWork (s : State) : Prop where
  runs : s.cmp.runs = []
  expos : s.share.expos = []
  parks : s.sess.parks = []
  wakes : s.sess.wakes = []
  attends : s.sess.attendWaits = []

/-- To take away all runs, where none is, changes nothing. -/
theorem setRuns_of_noWork {s : State} (h : NoWork s) : s.setCmp { s.cmp with runs := [] } = s := by
  rw [← h.runs]
  rfl

/-- To take away all exposures, where none is, changes nothing. -/
theorem setExpos_of_noWork {s : State} (h : NoWork s) : s.setShare { s.share with expos := [] } = s := by
  rw [← h.expos]
  rfl

/-- To take away all session parks, wakes and waiting ATTENDs, where none is, changes nothing. -/
theorem setSessWork_of_noWork {s : State} (h : NoWork s) :
    s.setSess { s.sess with parks := [], wakes := [], attendWaits := [] } = s := by
  have hsess : { s.sess with parks := [], wakes := [], attendWaits := [] } = s.sess := by rw [← h.parks, ← h.wakes, ← h.attends]
  rw [hsess]
  rfl

/-- Where no work is in progress no rebuild is the command's to end. -/
theorem missRebuild_of_noWork {s : State} (id : Nat) (h : NoWork s) : missRebuild id s = s := by
  simp only [missRebuild, h.wakes, h.runs, List.find?_nil, List.map_nil]
  exact setRuns_of_noWork h

/-- A command that has not started when its expiry instant passes completes with DEADLINE_MISSED, and its requests go on without it. -/
theorem deadline_misses {s u : State} {id : Nat} {c : Cmd} (hcmd : cmdOf s id = some c)
    (hu : forget (.cmd id) (withdraw (.cmd id) s) = u) (hstarted : c.started = false)
    (hexpired : c.expiry.any (fun e => decide (e ≤ nowUs s)) = true) (h : NoWork u) :
    deadline id s = completeCmd id 0x24 0 0 u := by
  simp only [deadline, hcmd, hstarted, hexpired, hu, missRebuild_of_noWork id h, h.runs, h.expos, h.parks, h.wakes, h.attends,
    setRuns_of_noWork h, setExpos_of_noWork h, setSessWork_of_noWork h, List.filter_nil, List.any_nil, List.map_nil,
    List.foldl_nil, Bool.not_true, Bool.or_self, Bool.false_eq_true, if_false]

/-! ### Ends of near-memory commands and of passes (R288, R391) -/

/-- A near-memory command at work that has gone through its whole range completes with the failures it met. -/
theorem nearDone_finishes {s : State} {id : Nat} {c d : Cmd} (hcmd : cmdOf s id = some c) (hactive : nearActive c = true)
    (hran : cmdOf (nearRun id false s) id = some d) (htotal : nearTotal d ≤ d.todo.headD 0) :
    nearDone id s = finishCmd id (nearRun id false s) := by
  simp only [nearDone, hcmd, hactive, hran, htotal, Bool.not_true, Bool.false_eq_true, if_false, if_true]

/-- A pass that ends while its LD may master writes its summary and completes its command (R391). -/
theorem finishScrub_of_canMaster {s : State} {c : Cmd} (p : Scrub) (status : Nat) (h : canMaster s (c.ring / 64) = true) :
    finishScrub p c status s = completeCmd p.cmd status p.corrected p.uncorrectable (dropScrub p.cmd (writeSummary p c.ring s)) := by
  simp [finishScrub, h]

/-- The rest of a pass that may go on is scrubbed, and the pass ends. -/
theorem scrubDone_finishes {s t : State} {id : Nat} {c : Cmd} {p q : Scrub} (hcmd : cmdOf s id = some c) (hpass : scrubOf s id = some p)
    (hgood : p.failed = false) (hfree : contained s (c.ring / 64 / 16) = false) (hmay : scrubMay s p = true)
    (hscrub : scrubTo (p.first + p.length) (scrubFuel p) p s = (q, t)) : scrubDone id s = finishScrub q c 0 (setScrub q t) := by
  simp only [scrubDone, hpass, hcmd, hgood, hfree, hmay, hscrub, Bool.not_true, Bool.false_eq_true, if_false]

/-- Settles O19: each command has the effect of its operation on the ring, command or pass that it finds. -/
theorem commandFlowTakesEffect : Obligations.CommandFlowTakesEffect := by
  unfold Obligations.CommandFlowTakesEffect
  refine ⟨?fetch, ?gather, ?ends⟩
  case fetch =>
    intro s t t0 port ld ring part bytes hpart hmay hserved hunfrozen hread ht hroom hstatus
    exact rests_of_effect_eq rfl (fetchOne_enters (by simpa using hpart) hmay hserved rfl hunfrozen hread ht hroom hstatus)
  case gather =>
    intro s port ld ring hgathering hfrozen
    exact rests_of_effect_eq rfl (gatherEnds_of_gathering hgathering hfrozen)
  case ends =>
    intro s id c hcmd
    refine ⟨?expires, ?near, ?pass⟩
    case expires =>
      intro u hu hstarted hexpired hruns hexpos hparks hwakes hattends
      exact rests_of_effect_eq rfl (deadline_misses hcmd hu hstarted hexpired ⟨hruns, hexpos, hparks, hwakes, hattends⟩)
    case near =>
      intro d hbegun hkept hlow hhigh hran htotal
      exact rests_of_effect_eq rfl (nearDone_finishes hcmd (by simp [nearActive, hbegun, hkept, hlow, hhigh]) hran htotal)
    case pass =>
      intro p q t hpass hgood hfree hmay hscrub hmaster
      exact rests_of_effect_eq rfl
        ((scrubDone_finishes hcmd hpass hgood hfree hmay hscrub).trans (finishScrub_of_canMaster q 0 hmaster))

end Sys2Proof.Machine
end

section
/-! PROOFS. Exposures that commit or idle (obligation O20): what a participant answers and applies, and where the commit goes on. -/

namespace Sys2Proof.Machine

open Sys2Proof Sys2Proof.Safety

/-- An exposure is found as it was last set. -/
@[simp] theorem expoOf_setExpo_same (id : Nat) (e : Expo) (s : State) : expoOf (setExpo id e s) id = some e :=
  MapOps.get?_insert_same id e s.share.expos

/-! ### PREPARE and its answers (R311 steps 3 to 6) -/

/-- A committing exposure, which waits for no share row, has asked a participant that has not answered yet. -/
structure AwaitsAnswer (e : Expo) (w : Participant) : Prop where
  committing : e.stage = 2
  hasRows : e.waitsRow = false
  asked : e.answers.contains (w, 0) = true

section
variable {s : State} {id : Nat} {e : Expo} {w : Participant}

/-- The answer of a participant that is asked is noted. -/
theorem answer_of_awaited (a : Nat) (hexpo : expoOf s id = some e) (h : AwaitsAnswer e w) :
    answer id w a s = setExpo id { e with answers := e.answers.map fun q => if q.1 == w then (w, a) else q } s := by
  simp only [answer, hexpo, h.committing, h.hasRows, h.asked, beq_self_eq_true, Bool.not_false, Bool.and_self, if_true]

/-- A participant whose answer is the first refusal names the share row that it refuses, and answers. -/
theorem takePrepare_of_first_refusal (hexpo : expoOf s id = some e) (hstage : e.stage = 2) (hrefuses : prepareAnswer s e w = 2)
    (hfirst : e.refused = none) :
    takePrepare id w s = answer id w 2 (setExpo id { e with refused := refusedRow s e w } s) := by
  simp [takePrepare, hexpo, hstage, hrefuses, hfirst]

/-- A participant that does not refuse, or not as the first, only answers. -/
theorem takePrepare_of_no_first_refusal (hexpo : expoOf s id = some e) (h : prepareAnswer s e w ≠ 2 ∨ e.refused.isSome = true) :
    takePrepare id w s = answer id w (prepareAnswer s e w) s := by
  have hplain : (prepareAnswer s e w == 2 && e.stage == 2 && e.refused.isNone) = false := by
    rcases h with hanswer | hrefused
    · simp [hanswer]
    · simp [Option.isNone_eq_false_iff.mpr hrefused]
  simp only [takePrepare, hexpo, hplain, Bool.false_eq_true, if_false]

/-- Answers that are all in and all READY let the commit go on. -/
theorem answersIn_of_all_ready (hexpo : expoOf s id = some e) (hstage : e.stage = 2) (hrows : e.waitsRow = false)
    (hasked : e.answers ≠ []) (hready : ∀ q ∈ e.answers, q.2 = 1) : answersIn id s = allReady id e s := by
  have hnone (a : Nat) (ha : a ≠ 1) : (e.answers.any fun q => q.2 == a) = false :=
    List.any_eq_false.mpr fun q hq => by simpa [hready q hq] using ha.symm
  simp [answersIn, hexpo, hstage, hrows, hasked, hnone 0 (by decide), hnone 2 (by decide), hnone 3 (by decide)]

/-- A commit that was told BUSY sends PREPARE again. -/
theorem prepareAgain_of_busy (hexpo : expoOf s id = some e) (hstage : e.stage = 4) : prepareAgain id s = sendPrepare id s := by
  simp [prepareAgain, hexpo, hstage]

/-! ### APPLY (R311 step 7) -/

/-- A participant that is not the last to apply writes its objects, and the commit waits for the others. -/
theorem applyAt_of_not_last (hexpo : expoOf s id = some e) (hstage : e.stage = 3) (hasked : (e.answers.any fun q => q.1 == w) = true)
    (hnew : w ∉ e.applied) (hothers : (e.answers.all fun q => (e.applied ++ [w]).contains q.1) = false) :
    applyAt id w s = setExpo id { e with applied := e.applied ++ [w] } (applyObjects id e w s) := by
  have happlies : (e.stage != 3 || ! (e.answers.any fun q => q.1 == w) || e.applied.contains w) = false := by
    simp [hstage, hasked, hnew]
  simp only [applyAt, hexpo, happlies, hothers, Bool.false_eq_true, if_false]

/-! ### The idle limit (R313) -/

/-- An exposure of a host that is open or staging aborts at its idle limit. -/
theorem idleExpo_of_uncommitted (hexpo : expoOf s id = some e) (hhost : e.publish = false) (hstage : e.stage ≤ 1) :
    idleExpo id s = abortExpo id 0x25 id (raise 0x0801 (some e.part) 0 s) := by
  simp [idleExpo, hexpo, hhost, hstage]

end

/-- Settles O20: each row has the effect of its operation on the exposure that it finds. -/
theorem commitRowsTakeEffect : Obligations.CommitRowsTakeEffect := by
  unfold Obligations.CommitRowsTakeEffect
  intro s expo e who hexpo
  refine ⟨?prepare, ?allReady, ?retry, ?apply, ?applyAt, ?idle⟩
  case prepare =>
    intro hstage hrows hasked
    have hawaits : AwaitsAnswer e who := ⟨hstage, hrows, hasked⟩
    refine ⟨?answers, ?refuses, ?quiet⟩
    case answers =>
      intro hplain
      exact rests_of_effect_eq rfl ((takePrepare_of_no_first_refusal hexpo hplain).trans (answer_of_awaited _ hexpo hawaits))
    case refuses =>
      rintro hrefuses hfirst _ rfl
      have hstill : AwaitsAnswer { e with refused := refusedRow s e who } who := ⟨hstage, hrows, hasked⟩
      exact rests_of_effect_eq rfl ((takePrepare_of_first_refusal hexpo hstage hrefuses hfirst).trans
        (answer_of_awaited 2 (expoOf_setExpo_same ..) hstill))
    case quiet => exact rests_of_effect_eq rfl (answer_of_awaited 3 hexpo hawaits)
  case allReady =>
    intro hstage hrows hasked hready
    exact rests_of_effect_eq rfl (answersIn_of_all_ready hexpo hstage hrows hasked hready)
  case retry => exact fun hstage => rests_of_effect_eq rfl (prepareAgain_of_busy hexpo hstage)
  case apply =>
    intro hstage hasked hnew hothers
    exact rests_of_effect_eq rfl (applyAt_of_not_last hexpo hstage hasked hnew hothers)
  case applyAt => exact fun _ _ _ => rests_of_exec_eq_atRest rfl
  case idle => exact fun hhost hstage => rests_of_effect_eq rfl (idleExpo_of_uncommitted hexpo hhost hstage)

end Sys2Proof.Machine
end

section
/-! PROOFS. Ends of reassignments, dying claims and revokes (obligation O21). -/

namespace Sys2Proof.Machine

open Sys2Proof Sys2Proof.Safety

section
variable {s t : State} {claim k : Nat} {c : Claim} {rest : List Nat}

/-- A dying claim that has no tile left is released (R322). -/
theorem claimPoisonNext_of_no_tile (hclaim : MapOps.get? claim s.share.claims = some c) (hdying : c.dying = some []) :
    claimPoisonNext claim s = releaseClaim claim s := by
  simp only [claimPoisonNext, hclaim, hdying]

/-- A dying claim loses its next tile once that is poisoned, and goes on with the rest (R322). -/
theorem claimPoisonNext_of_poisoned (hclaim : MapOps.get? claim s.share.claims = some c) (hdying : c.dying = some (k :: rest))
    (hpoisoned : poisonClaimed c.part k s = (t, true)) (hrest : rest ≠ []) : claimPoisonNext claim s =
      t.setShare { t.share with claims := MapOps.insert claim { c with dying := some rest } t.share.claims } := by
  simp [claimPoisonNext, hclaim, hdying, hpoisoned, hrest]

end

/-- Settles O21: the end of a scrub and of a drain are their operations as they stand, and a dying claim goes on by the tiles that it
has left. -/
theorem revokeRowsTakeEffect : Obligations.RevokeRowsTakeEffect := by
  unfold Obligations.RevokeRowsTakeEffect
  refine ⟨?scrub, ?claim, ?drain⟩
  case scrub => exact fun s part _ => rests_of_exec_eq_atRest rfl
  case claim =>
    intro s t claim c k rest hclaim
    constructor
    · intro hdying
      exact rests_of_effect_eq rfl (claimPoisonNext_of_no_tile hclaim hdying)
    · intro hdying hpoisoned hrest
      exact rests_of_effect_eq rfl (claimPoisonNext_of_poisoned hclaim hdying hpoisoned hrest)
  case drain => exact fun s revoke v _ => rests_of_exec_eq_atRest rfl

end Sys2Proof.Machine
end

section
/-! PROOFS. Mailbox, FM API and DOE requests (obligation O31): each reaches what it asks, which answers it. -/

namespace Sys2Proof.Machine

open Sys2Proof Sys2Proof.Safety

/-- A request that only reads is over with answer t, under every description of t. -/
theorem answers_of_effect_eq {c : Instr} {s t u : State} (hexec : exec c s = overRead s t) (heffect : t = u) : Answers c s u :=
  heffect ▸ hexec

/-- A security message is over with effect t, under every description of t. -/
theorem secures_of_effect_eq {c : Instr} {s t u : State} (hexec : exec c s = overSec s t) (heffect : t = u) : Secures c s u :=
  heffect ▸ hexec

/-! ### Mailboxes (R339, R357) -/

/-- A BAR access that reaches a function, PF0 or an LD, is taken. -/
theorem barGate_of_barReaches {s : State} {f : Fn} {spid : Nat} (posted : Bool) (go : State → State) (h : barReaches s f spid) :
    barGate f spid posted go s = go s := by
  cases f with
  | pf0 p =>
    obtain ⟨hserved, hpresented, hide⟩ := h
    simp [barGate, hserved, hpresented, hide]
  | ld p n => exact barGate_of_ready posted go h

/-- A mailbox that a command reaches answers it with its code and payload of Table 9-8. -/
theorem answers_of_mailbox {c : Instr} {s : State} {f : Fn} {spid op code : Nat} {payload : List Byte}
    (hexec : exec c s = overRead s (mailbox f spid op s)) (hbar : barReaches s f spid)
    (hanswer : mailboxAnswer f op s = (code, payload)) : Answers c s (mailboxSays f op code payload s) := by
  refine answers_of_effect_eq hexec ?_
  rw [mailbox, barGate_of_barReaches true _ hbar, mailboxRun, hanswer, mailboxSays]

/-- The opcodes that the mailbox of every function answers. -/
def everyFnOps : List Nat := [0x0001, 0x0400, 0x0401]

/-- PF0's mailbox answers every other opcode, those of a logical device among them, with Unsupported. -/
theorem mailboxAnswer_pf0_unsupported (s : State) (p : Fin 4) {op : Nat} (h : op ∉ everyFnOps) :
    mailboxAnswer (.pf0 p) op s = (0x15, []) := by
  obtain ⟨hidentify, hlogs, hlog⟩ : op ≠ 0x0001 ∧ op ≠ 0x0400 ∧ op ≠ 0x0401 := by simpa [everyFnOps] using h
  simp [mailboxAnswer, hidentify, hlogs, hlog]

/-! ### The FM API (R305) -/

/-- An FM API command on an open road that acts for the fabric manager is answered with the capacities of the road's LDs. -/
theorem fmAnswer_of_open {s : State} {road : Road} (op : Nat) (hopen : roadOpen s road = true) (hports : fmPorts road ≠ []) :
    fmAnswer road op s = emit .fmApi [roadCode road, op] (ldCapacities s (fmPorts road)) s := by
  simp [fmAnswer, hopen, hports]

/-! ### DOE (R336, R337) -/

/-- A DOE mailbox that takes objects is served. -/
theorem spdmServed_of_doeOpen {s : State} {f : Fn} (h : doeOpen s f = true) : spdmServed s (.doe f) = true := by
  rw [doeOpen, spdmOpen, Bool.and_eq_true] at h
  exact h.1

/-- Settles O31: each request reaches a mailbox, road or DOE mailbox that is open to it, and PF0's mailbox answers none of the opcodes of
a logical device. -/
theorem managementRequestsAreAnswered : Obligations.ManagementRequestsAreAnswered := by
  unfold Obligations.ManagementRequestsAreAnswered
  intro s
  refine ⟨?every, ?ld, ?pf0, ?fm, ?doe⟩
  case every =>
    intro fn spid hbar
    exact ⟨answers_of_mailbox rfl hbar rfl, answers_of_mailbox rfl hbar rfl, answers_of_mailbox rfl hbar rfl⟩
  case ld =>
    intro p n spid hbar
    exact ⟨answers_of_mailbox rfl hbar rfl, answers_of_mailbox rfl hbar rfl, answers_of_mailbox rfl hbar rfl⟩
  case pf0 =>
    intro p spid hbar
    have hanswer {op : Nat} (hop : op ∉ everyFnOps) := mailboxAnswer_pf0_unsupported s p hop
    exact ⟨answers_of_mailbox rfl hbar (hanswer (by decide)), answers_of_mailbox rfl hbar (hanswer (by decide)),
      answers_of_mailbox rfl hbar (hanswer (by decide))⟩
  case fm =>
    intro road hopen hports
    exact ⟨answers_of_effect_eq rfl (fmAnswer_of_open _ hopen hports), answers_of_effect_eq rfl (fmAnswer_of_open _ hopen hports)⟩
  case doe =>
    intro fn hopen
    refine ⟨fun index => ?discovery, ?table, ?abort⟩
    case discovery => exact answers_of_effect_eq rfl (if_pos hopen)
    case table => exact answers_of_effect_eq rfl (if_pos hopen)
    case abort => exact secures_of_effect_eq rfl (if_pos (spdmServed_of_doeOpen hopen))

end Sys2Proof.Machine
end

section
/-! PROOFS. Writes of a partition's entry (obligation O53, R297): which of them take effect, and which are REFUSED. -/

namespace Sys2Proof.Machine

open Sys2Proof Sys2Proof.Safety

/-- Where the road may write a partition's entry, the write does what R297 makes of the value, and is answered with its status. -/
theorem partitionAssign_serves {s t : State} {road : Road} {p : Fin 64} {v e : Nat} {o : OdObj}
    (h : MayWrite s road 0x2101 (p.val + 1) 16 v o) (hpart : writePart p.val v (arrived road s) = (e, t)) :
    Serves (.partitionAssign road p v) s ((writeAnswer road 0 0x2101 (p.val + 1) e t).setFuses s.fuses) := by
  refine serves_of_effect_eq rfl ?_
  rw [odPut_of_mayWrite h (by decide), writeObject_of_action 0 (partitionEntry_acts p) h.inRange
    ((writeAction_partition _ p _ v _).trans (congrArg some hpart))]

section
variable {s : State} {p v : Nat}

/-- A write repeats a partition's entry. -/
def RepeatsEntry (s : State) (p v : Nat) : Prop := field v 1 0 = partState s p ∧ field v 127 64 = ldMask s p

/-- A write assigns a FREE partition LDs that no other partition has. -/
def AssignsLds (s : State) (p v : Nat) : Prop :=
  partState s p = 0 ∧ field v 1 0 = 1 ∧ field v 127 64 ≠ 0 ∧ maskFree s p (field v 127 64) = true

/-- A write keeps the LDs of an ASSIGNED partition, beside LDs that no other partition has. -/
def KeepsLds (s : State) (p v : Nat) : Prop :=
  partState s p = 1 ∧ field v 1 0 = 1 ∧ field v 127 64 &&& ldMask s p = ldMask s p ∧ maskFree s p (field v 127 64) = true

/-- A write reassigns an ASSIGNED partition that no share row names. -/
def Reassigns (s : State) (p v : Nat) : Prop :=
  partState s p = 1 ∧ field v 1 0 = 2 ∧ field v 127 64 = ldMask s p ∧ ∀ q ∈ sharesIn s, field q.2 6 1 ≠ p

/-- A repeat changes nothing. -/
theorem writePart_repeats (h : RepeatsEntry s p v) : writePart p v s = (0, s) := by
  obtain ⟨hstate, hmask⟩ := h
  simp [writePart, hstate, hmask]

/-- An ASSIGNED partition whose entry is not repeated takes further LDs. -/
theorem writePart_keepsLds (hnew : ¬ RepeatsEntry s p v) (h : KeepsLds s p v) :
    writePart p v s = (0, bindLds p (field v 127 64) s) := by
  obtain ⟨hstate, hassigned, hkeeps, hothers⟩ := h
  exact writePart_adds hstate hassigned (fun hmask => hnew ⟨hassigned.trans hstate.symm, hmask⟩) hkeeps hothers

/-- A write that is neither a repeat nor a sender's transition is REFUSED. -/
theorem writePart_refuses (hnew : ¬ RepeatsEntry s p v) (hassign : ¬ AssignsLds s p v) (hkeep : ¬ KeepsLds s p v)
    (hreassign : ¬ Reassigns s p v) : writePart p v s = (3, s) := by
  have hrepeat : (field v 1 0 == partState s p && field v 127 64 == ldMask s p) = false := by
    simpa [RepeatsEntry] using hnew
  have hfree : (partState s p == 0 && field v 1 0 == 1 && field v 127 64 != 0 && maskFree s p (field v 127 64)) = false := by
    simpa [AssignsLds] using hassign
  have hlds : (partState s p == 1 && field v 1 0 == 1 && field v 127 64 &&& ldMask s p == ldMask s p
      && maskFree s p (field v 127 64)) = false := by
    simpa [KeepsLds] using hkeep
  have hscrub : (partState s p == 1 && field v 1 0 == 2 && field v 127 64 == ldMask s p
      && ! (sharesIn s).any fun q => field q.2 6 1 == p) = false := by
    simpa [Reassigns] using hreassign
  simp only [writePart, hrepeat, hfree, hlds, hscrub, Bool.false_eq_true, if_false]

end

/-- Settles O53: the write is answered by what it makes of the partition's entry, a repeat, one of the three transitions or neither. -/
theorem partitionTransitionsFollowTheirRule : Obligations.PartitionTransitionsFollowTheirRule := by
  unfold Obligations.PartitionTransitionsFollowTheirRule
  rintro s road p v o _ _ _ rfl hmay rfl rfl
  refine ⟨?repeats, fun hnew => ⟨?assign, ?add, ?reassign, ?refuse⟩⟩
  case repeats => exact fun hstate hmask => partitionAssign_serves hmay (writePart_repeats ⟨hstate, hmask⟩)
  case assign =>
    intro hfree hassigned hmask hothers
    exact partitionAssign_serves hmay (writePart_assigns hfree hassigned hmask hothers)
  case add =>
    intro hstate hassigned hkeeps hothers
    exact partitionAssign_serves hmay (writePart_keepsLds hnew ⟨hstate, hassigned, hkeeps, hothers⟩)
  case reassign =>
    intro hstate hscrub hsame hshares
    exact partitionAssign_serves hmay (writePart_reassigns hstate hscrub hsame hshares)
  case refuse =>
    intro hassign hkeep hreassign
    exact partitionAssign_serves hmay (writePart_refuses hnew hassign hkeep hreassign)

end Sys2Proof.Machine
end

section
/-! PROOFS. Links and containment of ports: what each row does at a port in the state that obligations O28 and O54 name. -/

namespace Sys2Proof.Machine

open Sys2Proof Sys2Proof.Safety

section
variable {s : State} {port : Nat}

/-! ### Links (R330, R353, R568) -/

/-- Ports run in S4. -/
theorem portsRun_of_lit (h : s.start.stage = .lit) : portsRun s = true := by
  simp [portsRun, h]

/-- A port out of L0 that reaches it in S4 is used as its partner trained it. -/
theorem linkUp_of_down {rate width : Nat} {mld flits tags14 : Bool} (hlit : s.start.stage = .lit) (hperst : (portOf s port).perst = false)
    (hdown : (portOf s port).up = false) :
    linkUp port rate width mld flits tags14 s = reachL0 port rate width mld flits tags14 s := by
  simp [linkUp, portsRun_of_lit hlit, hperst, hdown, hlit]

/-- A port in L0 that reaches it has retrained: it leaves L0 first, and keeps what its partner can do. -/
theorem linkUp_of_up {rate width : Nat} {mld flits tags14 : Bool} (hrun : portsRun s = true) (hperst : (portOf s port).perst = false)
    (hup : (portOf s port).up = true) (hstays : (portOf (leaveL0 port s) port).up = true) :
    linkUp port rate width mld flits tags14 s
      = reachL0 port rate width (portOf s port).mld flits (portOf s port).tags14 (leaveL0 port s) := by
  simp [linkUp, hrun, hperst, hup, hstays]

/-- A link that leaves L0 unmarked is contained, and its hosts die. -/
theorem surprise_of_unmarked (hup : (portOf s port).up = true) (hmark : (portOf s port).mark = false) :
    surprise port s = (ldsAt port).foldl (fun u i => killLd i u) (contain port 1 (logPort port .surpriseDown (linkGone port s))) := by
  simp [surprise, hup, hmark]

/-- A marked link that leaves L0 loses its mark, and is not contained. -/
theorem orderlyDown_of_marked (hup : (portOf s port).up = true) (hmark : (portOf s port).mark = true) :
    orderlyDown port s = modPort port (fun p => { p with mark := false }) (linkGone port s) := by
  simp [orderlyDown, hup, hmark]

/-- A port whose PERST# rises once S1 has ended trains. -/
theorem perstRises_of_asserted (hperst : (portOf s port).perst = true) (hrun : portsRun s = true) :
    perstRises port s = emit .train [port] [] (modPort port (fun p => { p with perst := false }) s) := by
  simp [perstRises, hperst, hrun]

/-! ### Containment (R353, R355) -/

/-- An error that contains its port and is none of CXL.mem's RAS capability is logged in PF0's AER. -/
theorem containBy_of_cause {error : ErrKind} (hcause : causeOf error ≠ 0) (hras : error ≠ .cxlRasUncorrectable) :
    containBy port error s = contain port (causeOf error) (logPort port error s) := by
  simp [containBy, hcause, hras]

/-- A release leaves a port that is not contained as it is. -/
theorem releasePort_of_free (hcause : (portOf s port).cause = 0) : releasePort port s = s := by
  simp [releasePort, hcause]

/-- A release of a contained port whose link is out of L0, or whose cause is 5, sets RELEASE_REFUSED alone. -/
theorem releasePort_refused (hcause : (portOf s port).cause ≠ 0) (hfails : (portOf s port).up = false ∨ (portOf s port).cause = 5) :
    releasePort port s = modPort port (fun q => { q with refused := true }) s := by
  have hcond : (! (portOf s port).up || (portOf s port).cause == 5) = true := by simpa using hfails
  simp [releasePort, hcause, hcond]

/-- A contained port whose link is in L0 and whose cause is not 5 is released. -/
theorem releasePort_released (hcause : (portOf s port).cause ≠ 0) (hup : (portOf s port).up = true)
    (hreleasable : (portOf s port).cause ≠ 5) : releasePort port s = uncontain port s := by
  simp [releasePort, hcause, hup, hreleasable]

end

/-- CONTAINMENT_RELEASE on a device that serves requests completes with what the release does. -/
theorem containmentRelease_rests {s u : State} {port : Fin 4} (hserved : served s = true) (heffect : releasePort port.val s = u) :
    Rests (.containmentRelease port) s u :=
  rests_of_effect_eq rfl ((if_pos hserved).trans heffect)

/-- Settles O54: RELEASE acts on a port by whether it is contained, and on a contained one by its link and its cause. -/
theorem containmentReleaseFollowsItsRule : Obligations.ContainmentReleaseFollowsItsRule := by
  unfold Obligations.ContainmentReleaseFollowsItsRule
  intro s port hserved
  refine ⟨?free, ?refused, ?released⟩
  case free => exact fun hcause => containmentRelease_rests hserved (releasePort_of_free hcause)
  case refused => exact fun hcause hfails => containmentRelease_rests hserved (releasePort_refused hcause hfails)
  case released =>
    exact fun hcause hup hreleasable => containmentRelease_rests hserved (releasePort_released hcause hup hreleasable)

/-- Settles O28: each row has the effect of its operation on a port that stands as the row asks. -/
theorem linkRowsTakeEffect : Obligations.LinkRowsTakeEffect := by
  unfold Obligations.LinkRowsTakeEffect
  intro s port
  refine ⟨?reached, ?retrained, ?retry, ?surprise, ?cause, ?release, ?orderly, ?correctable, ?falls, ?rises, ?pf0⟩
  case reached =>
    intro rate width mld flits tags14 hlit hperst hdown _ _ _
    exact rests_of_effect_eq rfl (linkUp_of_down hlit hperst hdown)
  case retrained =>
    intro rate width mld flits tags14 hrun hperst hup hstays
    exact rests_of_effect_eq rfl (linkUp_of_up hrun hperst hup hstays)
  case retry => exact fun hrun hperst hdown => rests_of_effect_eq rfl (if_pos (by simp [hrun, hperst, hdown]))
  case surprise => exact fun hup hmark => rests_of_effect_eq rfl (surprise_of_unmarked hup hmark)
  case cause => exact fun error hcause hras => rests_of_effect_eq rfl (containBy_of_cause hcause hras)
  case release =>
    exact fun hserved hcause hreleasable hup => containmentRelease_rests hserved (releasePort_released hcause hup hreleasable)
  case orderly => exact fun hup hmark => rests_of_effect_eq rfl (orderlyDown_of_marked hup hmark)
  case correctable => exact fun error herror => rests_of_effect_eq rfl (if_pos herror)
  case falls => exact fun hperst => rests_of_effect_eq rfl (if_neg (by simp [hperst]))
  case rises => exact fun hperst hrun => rests_of_effect_eq rfl (perstRises_of_asserted hperst hrun)
  case pf0 => exact fun hserved hup => rests_of_effect_eq rfl (if_pos (by simp [hserved, hup]))

end Sys2Proof.Machine
end

section
/-! PROOFS. Rows of the functions of a port: resets, mastering, decoders, interrupts and registers of an LD, and reads of configuration
space (obligation O29). -/

namespace Sys2Proof.Machine

open Sys2Proof Sys2Proof.Safety

/-- Where requests are served ports run. -/
theorem portsRun_of_served {s : State} (h : served s = true) : portsRun s = true := by
  rcases (by simpa [served] using h : s.start.stage = .lit ∨ s.start.stage = .safelight) with hstage | hstage
  · exact portsRun_of_lit hstage
  · simp [portsRun, hstage]

/-- A configuration write reaches an LD that is served and in no FLR. -/
theorem ldConfigured_of_served {s : State} {i : Nat} (hserved : ldServed s i = true) (hflr : (ldOf s i).flr = false) :
    ldConfigured s i = true := by
  simp [ldConfigured, hserved, hflr]

/-! ### Registers in BAR0 (R338, R360) -/

/-- A command that accesses a register of a function completes with what the access does, where it reaches the function. -/
theorem serves_of_barReaches {c : Instr} {s u : State} {fn : Fn} {spid : Nat} {posted : Bool} {go : State → State}
    (hexec : exec c s = overOd s (barGate fn spid posted go s)) (hbar : barReaches s fn spid) (heffect : go s = u) : Serves c s u :=
  serves_of_effect_eq hexec ((barGate_of_barReaches posted go hbar).trans heffect)

/-- An aligned access of 4 B writes one word. -/
theorem writeReg_word (f : Fn) {offset : Nat} (v : Nat) (s : State) (h : offset % 4 = 0) :
    writeReg f offset 4 v s = writeWord f offset (v % 2 ^ 32) s := by
  simp [writeReg, h]

/-- An aligned access of 4 B reads one word. -/
theorem readReg_word (f : Fn) {offset : Nat} (s : State) (h : offset % 4 = 0) :
    readReg f offset 4 s = emit .ioCompletion [fnCode f, 0, readWord s f offset] [] s := by
  simp [readReg, h]

/-! ### Configuration space (R350, R509) -/

/-- A function takes no configuration request while it is in an FLR. -/
def inFlr (s : State) : Fn → Bool
  | .pf0 _ => false
  | .ld p n => (ldOf s (16 * p.val + n.val)).flr

/-- A configuration read of a function that is presented, served and in no FLR completes with the field's value. -/
theorem configure_read {s : State} {f : Fn} (field : CfgField) (value : Nat) (hserved : served s = true)
    (hpresented : presented s f = true) (hflr : inFlr s f = false) :
    configure f false field value s = emit .cfgCompletion [fnCode f, 0, cfgRead s f field] [] s := by
  cases f with
  | pf0 p => simp [configure, portsRun_of_served hserved, hserved, hpresented]
  | ld p n =>
    rw [inFlr] at hflr
    simp [configure, portsRun_of_served hserved, hserved, hpresented, hflr]

/-- Settles O29: each row reaches its function, and does there what its operation says. -/
theorem deviceFunctionRowsTakeEffect : Obligations.DeviceFunctionRowsTakeEffect := by
  unfold Obligations.DeviceFunctionRowsTakeEffect
  rintro s port ld _ rfl
  refine ⟨?configured, ?bar, ?registers, ?complete, ?config⟩
  case configured =>
    intro hserved hflr
    have hconf := ldConfigured_of_served hserved hflr
    exact ⟨rests_of_effect_eq rfl (if_pos hconf), rests_of_effect_eq rfl (if_pos hconf), rests_of_effect_eq rfl (if_pos hconf),
      rests_of_effect_eq rfl (if_pos hconf), rests_of_effect_eq rfl (if_pos hconf)⟩
  case bar =>
    intro spid hbar
    exact ⟨fun n base size skip control => rests_of_barGate rfl hbar rfl, fun v => rests_of_barGate rfl hbar rfl⟩
  case registers =>
    intro fn spid offset value hbar haligned
    refine ⟨?write, ?read, ?poisoned⟩
    case write => exact serves_of_barReaches rfl hbar (writeReg_word fn value s haligned)
    case read => exact serves_of_barReaches rfl hbar (readReg_word fn s haligned)
    case poisoned => exact serves_of_barReaches rfl hbar rfl
  case complete => exact fun _ _ => rests_of_exec_eq_atRest rfl
  case config =>
    intro fn field value hserved hpresented hflr
    have hidle : inFlr s fn = false := by
      cases fn with
      | pf0 p => rfl
      | ld p n => exact hflr p n rfl
    exact rests_of_effect_eq rfl (configure_read field value hserved hpresented hidle)

end Sys2Proof.Machine
end

section
/-! PROOFS. Requests that a port masters: their completions, timeouts and tags, LTR messages and L1 requests (obligation O30). -/

namespace Sys2Proof.Machine

open Sys2Proof Sys2Proof.Safety

/-- The state in which a tag of a port is free. -/
def tagFreed (port tag : Nat) (s : State) : State := modPort port (fun p => { p with tags := MapOps.erase tag p.tags }) s

section
variable {s : State} {port tag : Nat} {g : Tag}

/-- The bytes that are still asked for land, and the tag is free (R346). -/
theorem completion_last {bytes : List Byte} (htag : MapOps.get? tag (portOf s port).tags = some g) (hwaits : g.quarantined = false)
    (hlast : bytes.length = g.remaining) :
    completion port tag .success false bytes s = landPiece g.use bytes false (tagFreed port tag s) := by
  have htake : bytes.take g.remaining = bytes := by rw [← hlast, List.take_length]
  simp [completion, htag, hwaits, htake, hlast, tagFreed]

/-- A completion with another status than Successful fails the request, and the tag is free (R250, R346). -/
theorem completion_failed {st : CplStatus} (bad : Bool) (bytes : List Byte) (htag : MapOps.get? tag (portOf s port).tags = some g)
    (hwaits : g.quarantined = false) (hst : st ≠ .success) :
    completion port tag st bad bytes s = remoteFails g.use 0x46 (tagFreed port tag s) := by
  cases st with
  | success => exact absurd rfl hst
  | _ => simp [completion, htag, hwaits, tagFreed]

/-- A request that times out is logged, counted and failed, and its tag is quarantined (R348). -/
theorem tagTimeout_of_waiting (htag : MapOps.get? tag (portOf s port).tags = some g) (hwaits : g.quarantined = false) :
    tagTimeout port tag s = remoteFails g.use 0x46 (countFor 0x3093 g.part (count 0x3090 1 (logLd (16 * port + g.ld) .completionTimeout
      (modPort port (fun p => { p with tags := MapOps.insert tag { g with quarantined := true } p.tags }) s)))) := by
  simp [tagTimeout, htag, hwaits]

/-- A tag whose quarantine ends is free (R348). -/
theorem freeTag_of_quarantined (htag : MapOps.get? tag (portOf s port).tags = some g) (hquarantined : g.quarantined = true) :
    freeTag port tag s = tagFreed port tag s := by
  simp [freeTag, htag, hquarantined, tagFreed]

/-- A port in L0 that may ask for L1, and has no work, asks for it once its host agrees (R344). -/
theorem askL1_of_idle (henable : (portOf s port).l1Enable = true) (hup : (portOf s port).up = true) (hl1 : (portOf s port).l1 = false)
    (hidle : 2 ≤ ltrState s port) :
    askL1 port true s = emit .l1Request [port] [] (modPort port (fun q => { q with l1 := true, l1At := s.out.length }) s) := by
  have hout : inL1 s port = false := by simp [inL1, hl1]
  simp [askL1, henable, hup, hout, hidle]

end

/-- A completion that arrives on a port in L0 completes with what it does at its tag. -/
theorem completionReceived_rests {s u : State} {port : Fin 4} {tag : Nat} {st : CplStatus} {bad : Bool} {bytes : List Byte}
    (hup : (portOf s port.val).up = true) (heffect : completion port.val tag st bad bytes s = u) :
    Rests (.completionReceived port tag st bad bytes) s u :=
  rests_of_effect_eq rfl ((if_pos hup).trans heffect)

/-- Settles O30: each row has the effect of its operation on the tag that it finds, or on a port in L0 that has no work. -/
theorem masteredRequestRowsTakeEffect : Obligations.MasteredRequestRowsTakeEffect := by
  unfold Obligations.MasteredRequestRowsTakeEffect
  intro s port
  refine ⟨fun tag g htag => ⟨?completes, ?timeout, ?quarantine⟩, ?ltr, ?l1⟩
  case completes =>
    intro hwaits hup
    constructor
    · exact fun bytes hlast => completionReceived_rests hup (completion_last htag hwaits hlast)
    · exact fun st bad bytes hst => completionReceived_rests hup (completion_failed bad bytes htag hwaits hst)
  case timeout => exact fun hwaits => rests_of_effect_eq rfl (tagTimeout_of_waiting htag hwaits)
  case quarantine => exact fun hquarantined => rests_of_effect_eq rfl (freeTag_of_quarantined htag hquarantined)
  case ltr => exact rests_of_exec_eq_atRest rfl
  case l1 => exact fun henable hup hl1 hidle => rests_of_effect_eq rfl (askL1_of_idle henable hup hl1 hidle)

end Sys2Proof.Machine
end

section
/-! PROOFS. A device in which nothing waits (obligation O42, which fails). -/

namespace Sys2Proof.Machine

open Sys2Proof Sys2Proof.Safety

/-- A device in S4 whose session 0 is being ended, with no SESSION-END that waits for it and no run that still serves it (R129). -/
def endingSession : State :=
  let s := modStart (fun b => { b with stage := .lit, phase := 4 }) State.reset
  s.setSess { s.sess with recs := [(0, {})], ends := [(0, none)] }

/-- No tier of the device is congested, and none becomes so. -/
theorem judge_endingSession : judge endingSession = endingSession := by
  have hcongested : (judge endingSession).regul.congested = endingSession.regul.congested := by decide
  exact congrArg (fun l => endingSession.setRegul { endingSession.regul with congested := l }) hcongested

/-- What is to be ended is none of the things that Quiet asks about. -/
theorem quiet_endingSession : Quiet endingSession where
  notices := by decide
  deferred := rfl
  held := rfl
  moves := by decide
  sheets := by decide
  admission := by decide
  congestion := judge_endingSession
  relocations := by decide
  collection := by decide
  sessions := by decide
  commands := by decide
  exposures := rfl
  shares := by decide
  frames := by decide
  registrations := by decide
  stacksUp := rfl
  reserve := by decide
  tags := by decide
  latency := by decide
  tables := by decide
  reference := by decide
  signer := rfl

/-- The session goes once the device looks at what is to be ended (R129 step 5). -/
theorem settle_endingSession : MapOps.get? 0 (settle endingSession).sess.recs = none := by decide +kernel

/-- Refutes O42: Quiet does not ask that no session is being ended. One that no run serves any more is in a device that is quiet, and
goes when the device comes to rest. -/
theorem not_quietDeviceStaysAtRest : ¬ Obligations.QuietDeviceStaysAtRest := by
  unfold Obligations.QuietDeviceStaysAtRest
  intro h
  have hstays : (settle endingSession).sess.recs = [(0, {})] := congrArg (fun t => t.sess.recs) (h endingSession quiet_endingSession)
  have hgone := settle_endingSession
  rw [hstays] at hgone
  exact absurd hgone (by decide)

end Sys2Proof.Machine
end

section
/-! PROOFS. Rows of the memory controllers (obligations O35, O36, O51 and O55): what each operation does at a controller in the state that
the row asks for, and what a controller holds afterwards. -/

namespace Sys2Proof.Machine

open Sys2Proof Sys2Proof.Safety

/-- A command on which nothing else waits is over with effect t, under every description of t. -/
theorem ends_of_effect_eq {c : Instr} {s t u : State} (hexec : exec c s = quick s t) (heffect : t = u) : Ends c s u :=
  heffect ▸ hexec

/-! ### What a controller holds after a change -/

/-- A controller that is changed holds what the change makes of it. -/
@[simp] theorem ctlOf_modCtl_same (n : Nat) (f : DramCtl → DramCtl) (s : State) : ctlOf (modCtl n f s) n = f (ctlOf s n) :=
  MapOps.getD_insert_same ..

@[simp] theorem ctlOf_count (index sub n : Nat) (s : State) : ctlOf (count index sub s) n = ctlOf s n := rfl

@[simp] theorem ctlOf_raise (code : Nat) (part : Option Nat) (detail n : Nat) (s : State) :
    ctlOf (raise code part detail s) n = ctlOf s n := by
  simp [ctlOf]

@[simp] theorem ctlOf_leaving (s t : State) (n : Nat) : ctlOf (leaving s t) n = ctlOf t n := rfl

/-- REFRESH_RATE_HIGH is judged without a change of any controller. -/
@[simp] theorem ctlOf_judgeRefresh (entered : Bool) (s : State) (n : Nat) : ctlOf (judgeRefresh entered s) n = ctlOf s n := by
  dsimp only [judgeRefresh]
  split
  · exact ctlOf_raise ..
  · rfl

/-- What is erased from a map reads as the default. -/
@[simp] theorem MapOps.getD_erase_same {α : Type} (k : Nat) (d : α) (m : Map α) : MapOps.getD k d (MapOps.erase k m) = d := by
  simp [MapOps.getD]

/-- A controller in state 1 works. -/
theorem ctlUp_of_state {s : State} {n : Nat} (h : (ctlOf s n).state = 1) : ctlUp s n = true := beq_of_eq h

/-! ### Refresh (R372) -/

section
variable {s : State} {n rank : Nat}

/-- A refresh that may be postponed adds one to those that wait, and is not run. -/
theorem ctlOf_refresh_of_postponed (bank : Nat) (doubled : Bool) (hup : ctlUp s n = true)
    (hlate : MapOps.getD rank 0 (ctlOf s n).postponed < 4) :
    (ctlOf (refresh n rank bank doubled true s) n).refreshes = (ctlOf s n).refreshes
      ∧ MapOps.getD rank 0 (ctlOf (refresh n rank bank doubled true s) n).postponed = MapOps.getD rank 0 (ctlOf s n).postponed + 1 := by
  simp [refresh, hup, hlate]

/-- A refresh that is not postponed runs with those that wait, each as often as the rank's rate asks, and none waits any more. -/
theorem ctlOf_refresh_of_run (bank : Nat) (doubled : Bool) {postpone : Bool} (hup : ctlUp s n = true)
    (hrun : ¬ (postpone = true ∧ MapOps.getD rank 0 (ctlOf s n).postponed < 4)) :
    (ctlOf (refresh n rank bank doubled postpone s) n).refreshes
        = (ctlOf s n).refreshes + (MapOps.getD rank 0 (ctlOf s n).postponed + 1) * (if doubled then 2 else 1)
      ∧ MapOps.getD rank 0 (ctlOf (refresh n rank bank doubled postpone s) n).postponed = 0 := by
  have hnow : (postpone && decide (MapOps.getD rank 0 (ctlOf s n).postponed < 4)) = false := by simpa using hrun
  simp [refresh, hup, hnow]

end

/-- Settles O51: a refresh is either postponed or run with all that were postponed before it, and the end of the row leaves the
controller so. -/
theorem refreshesAreNeverSkipped : Obligations.RefreshesAreNeverSkipped := by
  unfold Obligations.RefreshesAreNeverSkipped
  rintro s t ctl n rank bank doubled postpone rfl hup hexec late rfl
  obtain rfl : leaving s (refresh (ctlNo ctl) rank bank doubled postpone s) = t := Host.Outcome.next.inj hexec
  rw [ctlOf_leaving]
  constructor
  · rintro ⟨rfl, hlate⟩
    exact ctlOf_refresh_of_postponed bank doubled hup hlate
  · exact ctlOf_refresh_of_run bank doubled hup

/-! ### Command parity and replay (R376, R377) -/

/-- A failed wait of an episode, with the alert still present. -/
def waitFailed (n : Nat) (s : State) : State :=
  count 0x30A0 6 (modCtl n (fun c => { c with alert := true, episode := c.episode + 1 }) s)

/-- A replay of an episode whose controller held c: the retry buffer has been issued again, and issuing goes on. -/
def replayEnded (n : Nat) (c : DramCtl) (s : State) : State :=
  count 0x30A0 6 (modCtl n (fun q => { q with
    alert := false, episode := q.episode + 1, openRows := reissued q, retry := q.retry.map (reissue s n c) }) s)

/-- A replay of the episode has been counted: one that has ended, or a failed wait. -/
def replayCounted (n : Nat) (ended : Bool) (s : State) : State := if ended then replayEnded n (ctlOf s n) s else waitFailed n s

@[simp] theorem episode_replayCounted (n : Nat) (ended : Bool) (s : State) :
    (ctlOf (replayCounted n ended s) n).episode = (ctlOf s n).episode + 1 := by
  cases ended <;> simp [replayCounted, replayEnded, waitFailed]

section
variable {s : State} {n : Nat}

/-- At a controller that works and has an alert a replay is counted, and fails the channel or stack from the eighth on. -/
theorem replayed_of_alert (ended : Bool) (hup : ctlUp s n = true) (halert : (ctlOf s n).alert = true) :
    replayed n ended s =
      if 8 ≤ (ctlOf s n).episode + 1 then memoryFails n 0 (replayCounted n ended s) else replayCounted n ended s := by
  have hgoes : (! ctlUp s n || ! (ctlOf s n).alert) = false := by simp [hup, halert]
  rw [replayed, hgoes, ← episode_replayCounted n ended s]
  cases ended <;> rfl

/-- Below the limit issuing goes on, or waits on, with the replay counted. -/
theorem replayed_below_limit (ended : Bool) (hup : ctlUp s n = true) (halert : (ctlOf s n).alert = true)
    (hlimit : (ctlOf s n).episode < 7) : replayed n ended s = replayCounted n ended s := by
  rw [replayed_of_alert ended hup halert, if_neg (by omega)]

/-- The replay that reaches the limit fails the channel or stack, with condition 0 (R377). -/
theorem replayed_at_limit (ended : Bool) (hup : ctlUp s n = true) (halert : (ctlOf s n).alert = true)
    (hlimit : 7 ≤ (ctlOf s n).episode) : replayed n ended s = memoryFails n 0 (replayCounted n ended s) := by
  rw [replayed_of_alert ended hup halert, if_pos (by omega)]

/-- An episode ends at a controller without an alert. -/
theorem episodeEnds_of_no_alert (halert : (ctlOf s n).alert = false) :
    episodeEnds n s = modCtl n (fun c => { c with episode := 0 }) s := by
  simp [episodeEnds, halert]

/-- A controller that works and has no alert holds issuing at the first (R376). -/
theorem parityAlert_of_no_alert (hup : ctlUp s n = true) (halert : (ctlOf s n).alert = false) :
    parityAlert n s = count 0x30A0 5 (modCtl n (fun c => { c with alert := true }) s) := by
  simp [parityAlert, hup, halert]

/-! ### Calibration (R371) -/

/-- Outside self-refresh an item of a controller that works runs when it falls due. -/
theorem calibration_of_awake {item : CalItem} {place : Nat} (hup : ctlUp s n = true) (hitem : itemOf s item n place = true)
    (hawake : (ctlOf s n).selfRefresh = false) : calibration item n place s = runItem n s (item, place) := by
  simp [calibration, hup, hitem, hawake]

end

/-- Settles O55: a replay is counted in its episode, and fails the memory when seven were counted before it. -/
theorem replayLimitFailsTheMemory : Obligations.ReplayLimitFailsTheMemory := by
  unfold Obligations.ReplayLimitFailsTheMemory
  rintro s ctl n c rfl rfl hstate
  have hup := ctlUp_of_state hstate
  refine ⟨fun halert => ⟨fun hbelow => ⟨?wait, ?replay⟩, fun hlimit => ⟨?waitFails, ?replayFails⟩⟩, ?ends⟩
  case wait => exact rests_of_effect_eq rfl (replayed_below_limit false hup halert hbelow)
  case replay => exact rests_of_effect_eq rfl (replayed_below_limit true hup halert hbelow)
  case waitFails => exact rests_of_effect_eq rfl (replayed_at_limit false hup halert hlimit)
  case replayFails => exact rests_of_effect_eq rfl (replayed_at_limit true hup halert hlimit)
  case ends => exact fun halert => ends_of_effect_eq rfl (episodeEnds_of_no_alert halert)

/-- Settles O35: a refresh, a request and a starved request are their operations as they stand, and every other row has the effect of its
operation at a controller that works and is in the row's state. -/
theorem controllerRowsTakeEffect : Obligations.ControllerRowsTakeEffect := by
  unfold Obligations.ControllerRowsTakeEffect
  rintro s ctl n rfl
  refine ⟨fun hup => ⟨?refresh, ?request, ?alert, ?replays, ?calibration⟩, ?ends, ?starve⟩
  case refresh => exact fun _ _ _ _ => ends_of_effect_eq rfl rfl
  case request => exact fun _ _ _ _ _ _ => ends_of_effect_eq rfl rfl
  case alert => exact fun halert => ends_of_effect_eq rfl (parityAlert_of_no_alert hup halert)
  case replays =>
    intro halert hbelow
    exact ⟨rests_of_effect_eq rfl (replayed_below_limit false hup halert hbelow),
      rests_of_effect_eq rfl (replayed_below_limit true hup halert hbelow)⟩
  case calibration => exact fun item place hitem hawake => ends_of_effect_eq rfl (calibration_of_awake hup hitem hawake)
  case ends => exact fun halert => ends_of_effect_eq rfl (episodeEnds_of_no_alert halert)
  case starve => exact fun _ => ends_of_effect_eq rfl rfl

end Sys2Proof.Machine
end

section
/-! PROOFS. Self-refresh, power-down, the returns of reads and the end of the reserve scrub (obligation O36). -/

namespace Sys2Proof.Machine

open Sys2Proof Sys2Proof.Safety

section
variable {s : State} {n : Nat}

/-! ### Self-refresh and power-down (R378, R379) -/

/-- A channel that works and has nothing to do enters self-refresh, where SelfRefreshIdle is not 0. -/
theorem enterSelfRefresh_of_idle (hup : ctlUp s n = true) (hlimit : scalar s 0x2600 4 200 ≠ 0) (hqueue : (ctlOf s n).queue = [])
    (hcal : (ctlOf s n).calDue = []) (hawake : (ctlOf s n).selfRefresh = false) (halert : (ctlOf s n).alert = false) :
    enterSelfRefresh n s = count 0x30A0 9 (modCtl n (fun c => { c with selfRefresh := true, openRows := [] }) s) := by
  simp [enterSelfRefresh, hup, hlimit, hqueue, hcal, hawake, halert]

/-- A channel leaves self-refresh for a request that waits, and runs the calibration that fell due. -/
theorem exitSelfRefresh_of_queued (hasleep : (ctlOf s n).selfRefresh = true) (hqueue : (ctlOf s n).queue ≠ []) :
    exitSelfRefresh n s =
      modCtl n (fun c => { c with selfRefresh := false, calDue := [] }) ((ctlOf s n).calDue.foldl (runItem n) s) := by
  simp [exitSelfRefresh, hasleep, hqueue]

/-- A pseudo-channel of a stack that works enters power-down while no request goes to it. -/
theorem powerDown_of_no_request {m pseudo : Nat} (hup : ctlUp s (16 + m) = true)
    (hnone : ∀ r ∈ (ctlOf s (16 + m)).queue, r.place ≠ pseudo) :
    powerDown m pseudo s = modCtl (16 + m) (fun c => { c with powerDown := setInsert pseudo c.powerDown }) s := by
  have hidle : ((ctlOf s (16 + m)).queue.any fun r => r.place == pseudo) = false :=
    List.any_eq_false.mpr fun r hr => by simpa using hnone r hr
  simp [powerDown, hup, hidle]

/-! ### Returns of reads (R381) -/

/-- A host's read that no decode holds returns from memory that works. -/
theorem sectorReturn_host {id : Nat} {r : FwdRead} (severe : Bool) (error : List Byte)
    (hread : s.tier.reads.find? (·.id == id) = some r) (hdecode : (s.codec.decodes.any fun j => j.use == .host id) = false)
    (hup : ctlUp s (ctlAt s r.tier r.md r.slot r.sector) = true) :
    sectorReturn (.host id) severe error s = hostReadReturn r severe error s := by
  simp [sectorReturn, hread, hdecode, hup]

/-- A sector of a tile's home that the device reads returns from memory that works. -/
theorem deviceSector_of_up {key i : Nat} (severe : Bool) (error : List Byte) (hhome : isHome (tdeOf s key).tier = true)
    (hup : ctlUp s (ctlAt s (tdeOf s key).tier (tdeOf s key).homeMd (tdeOf s key).homeSlot i) = true) :
    deviceSector key i severe error s =
      (readSlot (tdeOf s key).tier (tdeOf s key).homeMd (tdeOf s key).homeSlot i severe error s).2.2 := by
  simp [deviceSector, hhome, hup]

/-! ### The reserve scrub (R392) -/

/-- The sectors of the stacks' reserves: those of the stacks in use. -/
def ridgeReserve (s : State) : Nat := ((List.range 8).map fun md => if stackInUse s md then ridgeSectors else 0).sum

/-- The sectors of the MDs' reserved Batten. -/
def battenReserve (s : State) : Nat := ((List.range 8).map (battenSectors s)).sum

/-- The state in which the reserve scrub has ended, its sectors charged as background work and counted. -/
def reserveScrubbed (s : State) : State :=
  let u := charge backgroundMaster 0 (ridgeReserve s) (charge backgroundMaster 1 (battenReserve s) s)
  raise 0x0A07 none 0 (countBy 0x30A0 0x0B (ridgeReserve s + battenReserve s)
    (u.setDram { u.dram with reserveScrub := 2, reserveGo := false }))

/-- A reserve scrub that runs ends, where the MDs have let it go on or hold no background work. -/
theorem reserveScrubDone_of_running (hruns : s.dram.reserveScrub = 1)
    (hfree : s.dram.reserveGo = true ∨ heldMaster s backgroundMaster = false) : reserveScrubDone s = reserveScrubbed s := by
  have hgoes : (s.dram.reserveScrub != 1 || (! s.dram.reserveGo && heldMaster s backgroundMaster)) = false := by
    rcases hfree with hgo | hheld
    · simp [hruns, hgo]
    · simp [hruns, hheld]
  rw [reserveScrubDone, hgoes]
  rfl

end

/-- Settles O36: each row has the effect of its operation at a controller that is in the row's state, or on the read that returns. -/
theorem memoryIdleAndReadRowsTakeEffect : Obligations.MemoryIdleAndReadRowsTakeEffect := by
  unfold Obligations.MemoryIdleAndReadRowsTakeEffect
  intro s
  refine ⟨?selfRefresh, ?powerDown, ?host, ?scrub, ?reserve, ?device, ?reserveScrub⟩
  case selfRefresh =>
    rintro channel c rfl
    constructor
    · intro hup hlimit hqueue hcal hawake halert
      exact ends_of_effect_eq rfl (enterSelfRefresh_of_idle hup hlimit hqueue hcal hawake halert)
    · intro hasleep hqueue
      exact ends_of_effect_eq rfl (exitSelfRefresh_of_queued hasleep hqueue)
  case powerDown => exact fun stack pseudo hup hnone => ends_of_effect_eq rfl (powerDown_of_no_request hup hnone)
  case host =>
    intro id r severe error hread hdecode hup
    exact rests_of_effect_eq rfl (sectorReturn_host severe error hread hdecode hup)
  case scrub => exact fun _ _ _ _ => rests_of_exec_eq_atRest rfl
  case reserve => exact fun _ _ _ _ _ => rests_of_exec_eq_atRest rfl
  case device => exact fun key sector severe error hhome hup => rests_of_effect_eq rfl (deviceSector_of_up severe error hhome hup)
  case reserveScrub =>
    rintro _ _ _ rfl rfl rfl hruns hfree
    exact ends_of_effect_eq rfl (reserveScrubDone_of_running hruns hfree)

end Sys2Proof.Machine
end

section
/-! PROOFS. What the rows of a memory controller leave alone (obligation O45). -/

namespace Sys2Proof.Machine

open Sys2Proof Sys2Proof.Safety

/-- A state differs from another in its controllers, budgets, counters and logs alone. -/
def ControllersOnly (s t : State) : Prop := ∃ dram regul ctr logs, t = { s with dram := dram, regul := regul, ctr := ctr, logs := logs }

namespace ControllersOnly

variable {s t : State}

/-! ### The operations that rows are made of -/

theorem refl (s : State) : ControllersOnly s s := ⟨_, _, _, _, rfl⟩

theorem setDram (x : Dram) (h : ControllersOnly s t) : ControllersOnly s (t.setDram x) := by
  obtain ⟨_, _, _, _, rfl⟩ := h
  exact ⟨_, _, _, _, rfl⟩

theorem setRegul (x : Regulator) (h : ControllersOnly s t) : ControllersOnly s (t.setRegul x) := by
  obtain ⟨_, _, _, _, rfl⟩ := h
  exact ⟨_, _, _, _, rfl⟩

theorem countBy (index sub n : Nat) (h : ControllersOnly s t) : ControllersOnly s (countBy index sub n t) := by
  obtain ⟨_, _, _, _, rfl⟩ := h
  exact ⟨_, _, _, _, rfl⟩

theorem raise (code : Nat) (part : Option Nat) (detail : Nat) (h : ControllersOnly s t) :
    ControllersOnly s (raise code part detail t) := by
  obtain ⟨_, hlogs⟩ := raise_eq code part detail t
  obtain ⟨_, _, _, _, rfl⟩ := h
  exact ⟨_, _, _, _, hlogs⟩

theorem count (index sub : Nat) (h : ControllersOnly s t) : ControllersOnly s (count index sub t) := h.countBy index sub 1

theorem modCtl (n : Nat) (f : DramCtl → DramCtl) (h : ControllersOnly s t) : ControllersOnly s (modCtl n f t) := h.setDram _

theorem charge (m t' n : Nat) (h : ControllersOnly s t) : ControllersOnly s (charge m t' n t) := h.setRegul _

theorem judge (h : ControllersOnly s t) : ControllersOnly s (judge t) := h.setRegul _

/-- Whichever of two changes is made, it lies in controllers, budgets, counters and logs alone. -/
theorem ite {p : Prop} [Decidable p] {u : State} (ht : ControllersOnly s t) (hu : ControllersOnly s u) :
    ControllersOnly s (if p then t else u) := by
  split
  · exact ht
  · exact hu

theorem judgeRefresh (entered : Bool) (h : ControllersOnly s t) : ControllersOnly s (judgeRefresh entered t) :=
  ite ((h.setDram _).raise ..) (h.setDram _)

theorem runItem (n : Nat) (item : CalItem × Nat) (h : ControllersOnly s t) : ControllersOnly s (runItem n t item) :=
  (ite h (h.modCtl ..)).charge ..

theorem runItems (n : Nat) (items : List (CalItem × Nat)) (h : ControllersOnly s t) :
    ControllersOnly s (items.foldl (Machine.runItem n) t) := by
  induction items generalizing t with
  | nil => exact h
  | cons item _ ih => exact ih (h.runItem n item)

/-! ### The operations of the rows, branch by branch -/

theorem of_calibration (item : CalItem) (n place : Nat) (s : State) : ControllersOnly s (calibration item n place s) :=
  ite (refl s) (ite ((refl s).runItem ..) ((refl s).modCtl ..))

theorem of_refresh (n rank bank : Nat) (doubled postpone : Bool) (s : State) :
    ControllersOnly s (refresh n rank bank doubled postpone s) :=
  have hrate := (refl s).modCtl ..
  ite (refl s) ((ite ((hrate.modCtl ..).count ..) (hrate.modCtl ..)).judgeRefresh _)

theorem of_dramRequest (n : Nat) (port : DramPort) (isWrite : Bool) (sector : Nat) (s : State) :
    ControllersOnly s (dramRequest n port isWrite sector s) :=
  ite (refl s) (((ite ((refl s).count ..) (refl s)).modCtl ..).setDram _)

theorem of_starve (n id : Nat) (s : State) : ControllersOnly s (starve n id s) := (refl s).modCtl ..

theorem of_parityAlert (n : Nat) (s : State) : ControllersOnly s (parityAlert n s) :=
  ite (refl s) (((refl s).modCtl ..).count ..)

theorem of_episodeEnds (n : Nat) (s : State) : ControllersOnly s (episodeEnds n s) := ite (refl s) ((refl s).modCtl ..)

theorem of_enterSelfRefresh (n : Nat) (s : State) : ControllersOnly s (enterSelfRefresh n s) :=
  ite (refl s) (((refl s).modCtl ..).count ..)

theorem of_exitSelfRefresh (n : Nat) (s : State) : ControllersOnly s (exitSelfRefresh n s) :=
  ite (((refl s).runItems ..).modCtl ..) (refl s)

theorem of_powerDown (m pseudo : Nat) (s : State) : ControllersOnly s (powerDown m pseudo s) :=
  ite (refl s) ((refl s).modCtl ..)

theorem of_reserveScrubDone (s : State) : ControllersOnly s (reserveScrubDone s) :=
  ite (refl s) ((((((refl s).charge ..).charge ..).setDram _).countBy ..).raise ..)

/-! ### The rows -/

/-- A row of a controller is over with an effect on controllers, budgets, counters and logs alone. -/
theorem of_isController {c : Instr} (s : State) (h : isController c = true) : ∃ t, exec c s = quick s t ∧ ControllersOnly s t := by
  unfold isController at h
  split at h
  case h_1 => exact ⟨_, rfl, of_calibration ..⟩
  case h_2 => exact ⟨_, rfl, of_refresh ..⟩
  case h_3 => exact ⟨_, rfl, (of_dramRequest ..).judge⟩
  case h_4 => exact ⟨_, rfl, of_starve ..⟩
  case h_5 => exact ⟨_, rfl, of_parityAlert ..⟩
  case h_6 => exact ⟨_, rfl, of_episodeEnds ..⟩
  case h_7 => exact ⟨_, rfl, of_enterSelfRefresh ..⟩
  case h_8 => exact ⟨_, rfl, of_exitSelfRefresh ..⟩
  case h_9 => exact ⟨_, rfl, of_powerDown ..⟩
  case h_10 => exact ⟨_, rfl, of_reserveScrubDone s⟩
  case h_11 => exact absurd h Bool.false_ne_true

end ControllersOnly

/-- Settles O45: the effect of a controller's row lies in controllers, budgets, counters and logs, and the row's end adds nothing. -/
theorem controllerFrames : Obligations.ControllerFrames := by
  unfold Obligations.ControllerFrames
  intro c s t hexec hcontroller
  obtain ⟨u, hquick, _, _, _, _, rfl⟩ := ControllersOnly.of_isController s hcontroller
  obtain rfl : leaving s _ = t := Host.Outcome.next.inj (hquick.symm.trans hexec)
  exact ⟨rfl, fun _ => rfl⟩

end Sys2Proof.Machine
end

section
/-! PROOFS. Underlay's rows of the NAND channels, superblocks, record log and mount, and the rows of the bandwidth budgets
(obligation O37): what each operation does in the case that the obligation names, and the obligation itself. -/

namespace Sys2Proof.Machine

open Sys2Proof Sys2Proof.Safety

/-! ### Ends of NAND operations (R412, R414, R421) -/

section
variable {s : State} {channel sb row j : Nat} {result : NandResult}

/-- In phase S3, while Underlay mounts, every read is one of the system area. -/
theorem nandDone_read_of_mounting (hstage : s.start.stage = .train) (hstate : s.und.state = 1) :
    nandDone channel .read sb row j result s = systemRead channel row result s := by
  simp [nandDone, hstage, hstate]

/-- After phase S3 a channel in use works on an Underlay that can be read and written. -/
structure ChannelServes (s : State) (channel : Nat) : Prop where
  trained : s.start.stage ≠ .train
  inUse : MapOps.getD channel 0 s.und.channels = 1
  isUp : underlayUp s = true

/-- A row lies in a superblock in use and in its blocks. -/
structure RowInUse (s : State) (sb row : Nat) : Prop where
  inUse : (sbOf s sb).use ≠ 0
  inBlock : rowPage s row < s.und.pages

/-- A read just above the superblocks for images is one of the system area. -/
theorem nandDone_read_system (h : ChannelServes s channel) :
    nandDone channel .read (sbTotal s) row j result s = systemRead channel row result s := by
  simp [nandDone, h.trained, h.inUse, h.isUp]

/-- A read on the channel of a chunk of the row is one of that chunk. -/
theorem nandDone_read_chunk (h : ChannelServes s channel) (hrow : RowInUse s sb row) (himage : sb ≠ sbTotal s)
    (hchunk : chunkChannel s sb row j = channel) (hj : j < rowChunks (sbOf s sb)) :
    nandDone channel .read sb row j result s = readDone channel sb row j result s := by
  simp [nandDone, h.trained, h.inUse, h.isUp, hrow.inUse, hrow.inBlock, himage, hchunk, hj]

/-- A read on the channel of the row's parity page is one of that page. -/
theorem nandDone_read_parity (h : ChannelServes s channel) (hrow : RowInUse s sb row) (himage : sb ≠ sbTotal s)
    (hchunk : chunkChannel s sb row j ≠ channel) (hparity : parityChannel s sb row = channel) :
    nandDone channel .read sb row j result s = parityRead channel sb row j result s := by
  simp [nandDone, h.trained, h.inUse, h.isUp, hrow.inUse, hrow.inBlock, himage, hchunk, hparity]

/-- A program of a page of the row is over. -/
theorem nandDone_program (h : ChannelServes s channel) (hrow : RowInUse s sb row) :
    nandDone channel .program sb row j result s = programDone channel sb row result s := by
  simp [nandDone, h.trained, h.inUse, h.isUp, hrow.inUse, hrow.inBlock]

/-- An erase of a block of the superblock is over. -/
theorem nandDone_erase (h : ChannelServes s channel) (hrow : RowInUse s sb row) :
    nandDone channel .erase sb row j result s = eraseDone channel sb row result s := by
  simp [nandDone, h.trained, h.inUse, h.isUp, hrow.inUse, hrow.inBlock]

end

/-! ### Superblocks that fall due (R402, R419, R420) -/

section
variable {s : State} {sb : Nat}

/-- The row of an open superblock that waits for data is filled up to its end, with no chunk of an image. -/
theorem closeRow_of_open (hopen : (sbOf s sb).use = 1) :
    closeRow sb s = takeChunks sb (ceilDiv (sbOf s sb).nextChunk (rowChunks (sbOf s sb)) * rowChunks (sbOf s sb)) 0 s := by
  simp [closeRow, hopen]

/-- A superblock in use whose first program lies its age limit back is due for relocation. -/
theorem ageDue_of_reached {t : Nat} (huse : (sbOf s sb).use ≠ 0) (hup : underlayUp s = true)
    (hfirst : (sbOf s sb).firstProgram = some t) (hage : t + ageLimit s (sbOf s sb) * 86400000 ≤ retention s) :
    ageDue sb s = relocateDue sb s := by
  simp [ageDue, hfirst, huse, hup, hage]

/-- A superblock in use, one of whose blocks has been read up to the limit, is due for relocation. -/
theorem readsDue_of_reached (huse : (sbOf s sb).use ≠ 0) (hup : underlayUp s = true)
    (hreads : ∃ p ∈ (sbOf s sb).reads, Config.flashReadLimit (flashPolicy s) ≤ p.2) : readsDue sb s = relocateDue sb s := by
  have hlimit : ((sbOf s sb).reads.any fun p => decide (Config.flashReadLimit (flashPolicy s) ≤ p.2)) = true := by
    simpa only [List.any_eq_true, decide_eq_true_eq] using hreads
  simp [readsDue, huse, hup, hlimit]

end

/-! ### The record log (R408, R410) -/

/-- The gathered records that the next log page takes. -/
def nextPage (s : State) : List LogRec := pageOf s false 16384 s.und.forming

section
variable {s : State}

/-- Gathered records go to a log page, numbered on, once the page before is durable. -/
theorem batchOut_of_forming (hidle : s.und.programming = []) (hforming : s.und.forming ≠ []) (hup : underlayUp s = true) :
    batchOut s = ((nextPage s).foldl takePages s).setUnd { ((nextPage s).foldl takePages s).und with
      programming := (nextPage s).zipIdx.map fun q => numberRecord (s.und.seq + 1 + q.2) q.1
      forming := s.und.forming.drop (nextPage s).length } := by
  simp [batchOut, nextPage, hidle, hforming, hup]

/-- The records of a log page that is durable take effect, and a checkpoint follows where one is due. -/
theorem pageDurable_of_programming (hprogramming : s.und.programming ≠ []) {u : State}
    (hu : s.und.programming.foldl (fun v f => applyFcr f v) (programmed 2 (s.setUnd { s.und with programming := [] })) = u) :
    pageDurable s = gcCheck (if 65536 ≤ u.und.sinceCheckpoint then checkpointNow u else u) := by
  simp [pageDurable, hprogramming, hu]

/-- No record waits of which none passes the test. -/
theorem recordWaits_of_none {f : Fcr → Bool} (h : ∀ r ∈ s.und.forming ++ s.und.programming, f r.body = false) :
    recordWaits f s = false :=
  List.any_eq_false.mpr fun r hr => by simp [h r hr]

/-- Where no CHECKPOINT record waits for its page, one is formed. -/
theorem checkpointNow_of_none_waits (hup : underlayUp s = true)
    (hnone : ∀ r ∈ s.und.forming ++ s.und.programming, ∀ q, r.body ≠ .checkpoint q) :
    checkpointNow s = formRecord (.checkpoint s.und.seq) s := by
  have hother : ∀ r ∈ s.und.forming ++ s.und.programming,
      (match r.body with | .checkpoint _ => true | _ => false) = false := by
    intro r hr
    split
    case h_1 q hq => exact absurd hq (hnone r hr q)
    case h_2 => rfl
  rw [checkpointNow, recordWaits_of_none hother]
  simp [hup]

/-! ### Mount (R410, R427) -/

/-- A mount that fails leaves Underlay FAILED. -/
theorem mountDone_none (hstage : s.start.stage = .train) (hmount : s.und.mount = none) :
    mountDone none s = raise 0x0B04 none 0 (s.setUnd { s.und with mount := some false, state := 5 }) := by
  simp [mountDone, hstage, hmount]

/-- A mount of formatted media takes its tables from the log, up to n records. -/
theorem mountDone_formatted (n : Nat) (hstage : s.start.stage = .train) (hmount : s.und.mount = none)
    (hformatted : s.und.formatted = true) {t : FlashTables} (ht : replayLog (s.und.log.take n) s.und.saved = t) :
    mountDone (some n) s = s.setUnd { s.und with
      mount := some true, eprs := t.eprs, replaced := t.replaced, store := t.store, seq := t.seq, log := s.und.log.take n
      superblocks := s.und.superblocks.map fun p =>
        (p.1, { p.2 with valid := validIn t.eprs p.1, erases := MapOps.getD p.1 p.2.erases t.erases })
      sheetAt := s.und.sheetAt.filter fun p => (MapOps.get? p.1 t.store).isSome
      logClock := t.clock, h := max s.und.h t.clock, clock := max s.und.clock t.clock } := by
  simp [mountDone, hstage, hmount, hformatted, ht]

end

/-! ### The obligation -/

/-- Settles O37: each row has the effect of its operation on the channel, superblock, log or mount that it finds, and the end of a
window and the recomputation of the guarantees are their operations as they stand. -/
theorem underlayAndBudgetRowsTakeEffect : Obligations.UnderlayAndBudgetRowsTakeEffect := by
  unfold Obligations.UnderlayAndBudgetRowsTakeEffect
  intro s
  refine ⟨?channels, ?mounting, ?superblocks, ?batch, ?durable, ?checkpoint, ?mount, ?window, ?guarantees⟩
  case channels =>
    intro channel hchannel
    refine ⟨rests_of_exec_eq_atRest rfl, fun htrained hup => ?_⟩
    have hserves : ChannelServes s channel.val := ⟨htrained, hchannel, hup⟩
    refine ⟨fun sb row j result huse hpage => ?_, fun page j result => ?system⟩
    · have hrow : RowInUse s sb row := ⟨huse, hpage⟩
      refine ⟨?chunk, ?parity, ?program, ?erase⟩
      case chunk =>
        exact fun himage hchunk hj => rests_of_effect_eq rfl (nandDone_read_chunk hserves hrow himage hchunk hj)
      case parity =>
        exact fun himage hchunk hparity => rests_of_effect_eq rfl (nandDone_read_parity hserves hrow himage hchunk hparity)
      case program => exact rests_of_effect_eq rfl (nandDone_program hserves hrow)
      case erase => exact fun _ _ => rests_of_effect_eq rfl (nandDone_erase hserves hrow)
    case system => exact rests_of_effect_eq rfl (nandDone_read_system hserves)
  case mounting =>
    intro channel sb page j result hstage hstate
    exact rests_of_effect_eq rfl (nandDone_read_of_mounting hstage hstate)
  case superblocks =>
    intro sb
    refine ⟨fun hopen => ends_of_effect_eq rfl (closeRow_of_open hopen), fun huse hup => ⟨?age, ?reads⟩⟩
    case age => exact fun t hfirst hage => rests_of_effect_eq rfl (ageDue_of_reached huse hup hfirst hage)
    case reads => exact fun hreads => rests_of_effect_eq rfl (readsDue_of_reached huse hup hreads)
  case batch =>
    rintro _ _ hidle hforming hup rfl rfl
    exact ends_of_effect_eq rfl (batchOut_of_forming hidle hforming hup)
  case durable =>
    intro u hprogramming hu
    exact rests_of_effect_eq rfl (pageDurable_of_programming hprogramming hu)
  case checkpoint => exact fun hup hnone => ends_of_effect_eq rfl (checkpointNow_of_none_waits hup hnone)
  case mount =>
    intro hstage hmount
    refine ⟨ends_of_effect_eq rfl (mountDone_none hstage hmount), fun n t hformatted ht => ?_⟩
    exact ends_of_effect_eq rfl (mountDone_formatted n hstage hmount hformatted ht)
  case window => exact fun m => rests_of_exec_eq_atRest rfl
  case guarantees => exact fun hlit => ends_of_effect_eq rfl (if_pos hlit)

end Sys2Proof.Machine
end

section
/-! PROOFS. Operations that leave the fuses as they are: those of ports, of rings, and of the unparks that a ring asks for. An access to a
register may come to each of them, and its end leaves the fuses to its effect (R447). -/

namespace Sys2Proof.Machine

open Sys2Proof Sys2Proof.Safety

/-- A fold of operations that leave the fuses as they are leaves them so. -/
theorem foldl_fuses {α : Type} (f : State → α → State) (hf : ∀ s a, (f s a).fuses = s.fuses) (xs : List α) (s : State) :
    (xs.foldl f s).fuses = s.fuses := by
  induction xs generalizing s with
  | nil => rfl
  | cons x xs ih => rw [List.foldl_cons, ih, hf]

/-- The fuses of one of two states are the one or the other's. -/
@[simp] theorem ite_fuses (p : Prop) [Decidable p] (t u : State) : (if p then t else u).fuses = if p then t.fuses else u.fuses :=
  apply_ite State.fuses p t u

/-! ### Ports, logical devices and their interrupts -/

@[simp] theorem modPort_fuses (p : Nat) (f : Port → Port) (s : State) : (modPort p f s).fuses = s.fuses := rfl

@[simp] theorem modLd_fuses (i : Nat) (f : Ld → Ld) (s : State) : (modLd i f s).fuses = s.fuses := rfl

@[simp] theorem modWindow_fuses (road : Road) (f : Port → Port) (s : State) : (modWindow road f s).fuses = s.fuses := by
  cases road <;> rfl

@[simp] theorem raiseEach_fuses (code : Nat) (parts : List Nat) (detail : Nat) (s : State) :
    (raiseEach code parts detail s).fuses = s.fuses :=
  foldl_fuses _ (fun _ _ => raise_fuses ..) _ _

@[simp] theorem logFn_fuses (posted : Bool) (f : Fn) (e : ErrKind) (s : State) : (logFn posted f e s).fuses = s.fuses := by
  cases f <;> simp [logFn, logPortAs, logLdAs, report]

@[simp] theorem withInt_fuses (port : Nat) (f : Port → Port) (s : State) : (withInt port f s).fuses = s.fuses := by
  simp [withInt, intSignal]

@[simp] theorem setInt_fuses (port bit : Nat) (s : State) : (setInt port bit s).fuses = s.fuses := withInt_fuses ..

/-! ### Rings and their records -/

@[simp] theorem modRing_fuses (id : Nat) (f : Ring → Ring) (s : State) : (modRing id f s).fuses = s.fuses := rfl

@[simp] theorem faultRing_fuses (id code : Nat) (s : State) : (faultRing id code s).fuses = s.fuses := by simp [faultRing]

@[simp] theorem disableCheck_fuses (id : Nat) (s : State) : (disableCheck id s).fuses = s.fuses := by simp [disableCheck]

@[simp] theorem sendMsix_fuses (i v : Nat) (s : State) : (sendMsix i v s).fuses = s.fuses := by simp [sendMsix]

@[simp] theorem flushPba_fuses (i : Nat) (s : State) : (flushPba i s).fuses = s.fuses := by
  rw [flushPba]
  split
  · rfl
  · exact foldl_fuses _ (by simp) _ _

@[simp] theorem signal_fuses (id : Nat) (irq : Bool) (s : State) : (signal id irq s).fuses = s.fuses := by simp [signal]

@[simp] theorem countFor_fuses (index part : Nat) (s : State) : (countFor index part s).fuses = s.fuses := rfl

/-- What a record counts for the partition of its ring leaves the fuses as they are. -/
theorem recordCounted_fuses (part : Option Nat) (failed poisoned : Prop) [Decidable failed] [Decidable poisoned] (s : State) :
    (match part with
      | some p =>
        let u := countFor 0x3071 p s
        let u1 := if failed then u else countFor 0x3072 p u
        if poisoned then countFor 0x3073 p u1 else u1
      | none => s).fuses = s.fuses := by
  split
  · simp
  · rfl

@[simp] theorem writeRecord_fuses (id : Nat) (body : List Byte) (irq : Bool) (s : State) :
    (writeRecord id body irq s).fuses = s.fuses := by
  rw [writeRecord, signal_fuses]
  exact (recordCounted_fuses ..).trans ((modRing_fuses ..).trans (emit_fuses ..))

@[simp] theorem flushHeld_fuses (i : Nat) (s : State) : (flushHeld i s).fuses = s.fuses := by
  have hcheck := foldl_fuses (fun u h => disableCheck h.1 u) (fun _ h => disableCheck_fuses (h : Nat × List Byte × Bool).1 _)
  have hwrite := foldl_fuses (fun u (h : Nat × List Byte × Bool) => writeRecord h.1 h.2.1 h.2.2 u) (fun _ _ => writeRecord_fuses ..)
  simp [flushHeld, hcheck, hwrite]

@[simp] theorem liftFreeze_fuses (i : Nat) (s : State) : (liftFreeze i s).fuses = s.fuses := by simp [liftFreeze]

@[simp] theorem releasePort_fuses (port : Nat) (s : State) : (releasePort port s).fuses = s.fuses := by
  have hlift := foldl_fuses (fun u i => liftFreeze i u) (fun _ _ => liftFreeze_fuses ..)
  simp [releasePort, uncontain, hlift]

/-! ### Unparks that a ring asks for (R266) -/

@[simp] theorem requestUnpark_fuses (r : ExtReq) (s : State) : (requestUnpark r s).fuses = s.fuses := by
  simp [requestUnpark, tell, loseImage, noteUnder, noteLoss, setKind, queueUnpark, touchUnpark]

@[simp] theorem unparkAll_fuses (master : Nat) (devs : List Nat) (s : State) : (unparkAll master devs s).fuses = s.fuses :=
  foldl_fuses _ (by simp) _ _

/-! ### Ring registers -/

@[simp] theorem ringEnable_fuses (i ring : Nat) (s : State) : (ringEnable i ring s).fuses = s.fuses := by
  rw [ringEnable]
  split
  · simp
  · simp

@[simp] theorem ringDisable_fuses (i ring : Nat) (s : State) : (ringDisable i ring s).fuses = s.fuses := by simp [ringDisable]

/-- Values that coalesce are counted, which leaves the fuses as they are. -/
theorem coalesced_fuses {id v : Nat} {stores : List (BitVec 16)} {s t : State} (h : coalesced id stores s = some (v, t)) :
    t.fuses = s.fuses := by
  unfold coalesced at h
  split at h
  · cases h
  · split at h
    · cases h
    · cases h
      rfl

@[simp] theorem sqTail_fuses (i ring : Nat) (stores : List (BitVec 16)) (s : State) : (sqTail i ring stores s).fuses = s.fuses := by
  rw [sqTail]
  split
  · rfl
  · next h => simp [coalesced_fuses h]

@[simp] theorem cqHead_fuses (i ring : Nat) (stores : List (BitVec 16)) (s : State) : (cqHead i ring stores s).fuses = s.fuses := by
  rw [cqHead]
  split
  · rfl
  · next h => simp [coalesced_fuses h]

end Sys2Proof.Machine
end

section
/-! PROOFS. What may burn a fuse unburns none (R447, R454, R460, R488): the burns themselves, the messages that come to one, and what
serves such messages. -/

namespace Sys2Proof.Machine

open Sys2Proof Sys2Proof.Safety

/-! ### What burns -/

namespace Burned

theorem refl (f : Fuses) : burnedIn f f := ⟨fun _ _ h => h, fun _ _ h => h, fun _ h => h⟩

theorem trans {f g h : Fuses} (hfg : burnedIn f g) (hgh : burnedIn g h) : burnedIn f h := by
  obtain ⟨hsvn, htrees, hdebug⟩ := hfg
  obtain ⟨hsvn', htrees', hdebug'⟩ := hgh
  exact ⟨fun i b hb => hsvn' i b (hsvn i b hb), fun i b hb => htrees' i b (htrees i b hb), fun i hb => hdebug' i (hdebug i hb)⟩

/-- Fuses that are the same are all burned in each other. -/
theorem of_eq {f g : Fuses} (h : g = f) : burnedIn f g := h ▸ refl g

/-- Whichever of two states it is, nothing is unburned where neither unburns. -/
theorem ite {p : Prop} [Decidable p] {f : Fuses} {t u : State} (ht : burnedIn f t.fuses) (hu : burnedIn f u.fuses) :
    burnedIn f (if p then t else u).fuses := by
  split
  · exact ht
  · exact hu

end Burned

/-- A burn leaves every burned bit of every copy burned, whether or not it takes (R447). -/
theorem burnBelow_keeps {w i b : Nat} {copies : List (BitVec w)} (ok : Bool) (free : Nat → Nat) (lo n : Nat)
    (h : (copies.getD i 0).getLsbD b = true) : ((burnBelow copies ok free lo n).getD i 0).getLsbD b = true := by
  obtain hi | hi := Nat.lt_or_ge i copies.length
  · have hburned : copies[i].getLsbD b = true := by simpa [hi] using h
    cases ok with
    | true => simp [burnBelow, hi, hburned]
    | false => simp [burnBelow, hi, hburned]
  · simp [List.getElem?_eq_none hi] at h

@[simp] theorem used_fuses (s : State) : (used s).fuses = s.fuses := rfl

@[simp] theorem burnSvn_fuses (v : Nat) (burned : Bool) (s : State) : (burnSvn v burned s).fuses =
    { s.fuses with svn := burnBelow s.fuses.svn burned (fun i => Config.freeAt s.fresh i) 0 v } := by
  cases burned <;> simp [burnSvn]

@[simp] theorem burnDebug_fuses (s : State) :
    (burnDebug s).fuses = { s.fuses with debugClose := s.fuses.debugClose.map fun _ => true } := by
  simp [burnDebug]

/-- A burn of SVN_FLOOR unburns nothing. -/
theorem burnSvn_onlyBurns (v : Nat) (burned : Bool) (s : State) : burnedIn s.fuses (burnSvn v burned s).fuses := by
  rw [burnSvn_fuses]
  exact ⟨fun _ _ h => burnBelow_keeps _ _ _ _ h, fun _ _ h => h, fun _ h => h⟩

/-- A burn of DEBUG_CLOSE unburns nothing. -/
theorem burnDebug_onlyBurns (s : State) : burnedIn s.fuses (burnDebug s).fuses := by
  rw [burnDebug_fuses]
  refine ⟨fun _ _ h => h, fun _ _ h => h, fun i h => ?_⟩
  obtain hi | hi := Nat.lt_or_ge i s.fuses.debugClose.length
  · simp [hi]
  · simp [List.getElem?_eq_none hi] at h

/-- A burn in TREE_FUSES unburns nothing. -/
theorem burnTree_onlyBurns (f : Fuses) (burned : Bool) (free : Nat → Nat) (lo n : Nat) :
    burnedIn f { f with trees := burnBelow f.trees burned free lo n } :=
  ⟨fun _ _ h => h, fun _ _ h => burnBelow_keeps _ _ _ _ h, fun _ h => h⟩

/-! ### The signer (R460) -/

@[simp] theorem spdmError_fuses (a : SpdmAt) (err session : Nat) (s : State) : (spdmError a err session s).fuses = s.fuses := rfl

@[simp] theorem lowCheck_fuses (s : State) : (lowCheck s).fuses = s.fuses := by simp [lowCheck]

@[simp] theorem openTree_fuses (t : Nat) (s : State) : (openTree t s).fuses = s.fuses := by simp [openTree, exhaust]

@[simp] theorem sayS_fuses (w : SignWait) (signature : List Byte) (s : State) : (sayS w signature s).fuses = s.fuses := by
  rw [sayS]
  split
  · rfl
  · split <;> rfl

@[simp] theorem signNow_fuses (w : SignWait) (s : State) : (signNow w s).fuses = s.fuses := by
  simp [signNow]

@[simp] theorem pumpSign_fuses (n : Nat) (s : State) : (pumpSign n s).fuses = s.fuses := by
  induction n generalizing s with
  | zero => rfl
  | succ n ih =>
    rw [pumpSign]
    split
    · rfl
    · simp [ih]

@[simp] theorem signAll_fuses (s : State) : (signAll s).fuses = s.fuses := pumpSign_fuses ..

@[simp] theorem putCounter_fuses (tree upto : Nat) (s : State) : (putCounter tree upto s).fuses = s.fuses := rfl

/-- The opening of a tree burns its bit of TREE_FUSES, or some copies of it, and unburns nothing. -/
theorem treeDone_onlyBurns (burned : Bool) (s : State) : burnedIn s.fuses (treeDone burned s).fuses := by
  rw [treeDone]
  split
  · exact Burned.refl _
  · cases burned with
    | true => simpa using burnTree_onlyBurns ..
    | false => simpa using burnTree_onlyBurns ..

/-! ### Messages of the object dictionary -/

@[simp] theorem odRespond_fuses (road : Road) (op tag index sub status xfer offset : Nat) (data : List Byte) (s : State) :
    (odRespond road op tag index sub status xfer offset data s).fuses = s.fuses := by
  simp [odRespond]

@[simp] theorem writeAnswer_fuses (road : Road) (tag index sub status : Nat) (s : State) :
    (writeAnswer road tag index sub status s).fuses = s.fuses := odRespond_fuses ..

/-- A write of SvnCommit is refused, or burns SVN_FLOOR (R454). -/
theorem writeAction_svnCommit (part : Option Nat) (ctx v : Nat) (s : State) : writeAction part 0x2800 7 ctx v s =
    if v != s.sec.svn then some (3, s) else some (0, burnSvn v (freeValue s % 2 == 0) (used s)) := rfl

/-- A write of DebugClose is out of its range, or burns DEBUG_CLOSE (R488). -/
theorem writeAction_debugClose (part : Option Nat) (ctx v : Nat) (s : State) : writeAction part 0x2800 15 ctx v s =
    if v == 0x434C4F53 then some (0, burnDebug s) else some (4, s) := rfl

/-- What a write of SvnCommit or DebugClose starts unburns nothing. -/
theorem writeAction_onlyBurns {sub : Nat} (hsub : sub = 7 ∨ sub = 15) (part : Option Nat) (ctx v : Nat) (s : State) :
    ∃ e t, writeAction part 0x2800 sub ctx v s = some (e, t) ∧ burnedIn s.fuses t.fuses := by
  rcases hsub with rfl | rfl
  · rw [writeAction_svnCommit]
    split
    · exact ⟨_, _, rfl, Burned.refl _⟩
    · exact ⟨_, _, rfl, burnSvn_onlyBurns v _ (used s)⟩
  · rw [writeAction_debugClose]
    split
    · exact ⟨_, _, rfl, burnDebug_onlyBurns _⟩
    · exact ⟨_, _, rfl, Burned.refl _⟩

/-- A write of an allowed value to SvnCommit or DebugClose unburns nothing. -/
theorem writeObject_onlyBurns {sub : Nat} (hsub : sub = 7 ∨ sub = 15) (road : Road) (tag ctx : Nat) (o : OdObj) (v : Nat) (s : State) :
    burnedIn s.fuses (writeObject road tag 0x2800 sub ctx o v s).fuses := by
  have hplain : 0x2800 * 256 + sub ≠ 0x18000B := by omega
  obtain ⟨e, t, haction, hburns⟩ := writeAction_onlyBurns hsub (roadPart s road) ctx (unreserved 0x2800 sub v) s
  simp only [writeObject, beq_false_of_ne hplain, haction, Bool.false_and, Bool.false_eq_true, if_false]
  split
  · exact Burned.of_eq (writeAnswer_fuses ..)
  · split
    · exact Burned.of_eq (writeAnswer_fuses ..)
    · rwa [writeAnswer_fuses]

/-- A WRITE of SvnCommit or DebugClose unburns nothing. -/
theorem odWrite_onlyBurns {sub : Nat} (hsub : sub = 7 ∨ sub = 15) (road : Road) (secured : Bool) (tag ctx : Nat) (bytes : List Byte)
    (s : State) : burnedIn s.fuses (odWrite road secured tag 0x2800 sub ctx bytes s).fuses := by
  have hanswer (e : Nat) : burnedIn s.fuses (writeAnswer road tag 0x2800 sub e s).fuses := Burned.of_eq (writeAnswer_fuses ..)
  refine Burned.ite (Burned.of_eq (modWindow_fuses ..)) (Burned.ite (hanswer _) ?_)
  split
  · exact hanswer _
  · exact Burned.ite (hanswer _) (Burned.ite (hanswer _) (writeObject_onlyBurns hsub ..))

/-- A write of SvnCommit whose burn ends as told unburns nothing. -/
theorem odSvn_onlyBurns (road : Road) (secured : Bool) (v : Nat) (burned : Bool) (s : State) :
    burnedIn s.fuses (odSvn road secured v burned s).fuses := by
  refine Burned.ite ?_ (odWrite_onlyBurns (.inl rfl) ..)
  rw [writeAnswer_fuses]
  exact burnSvn_onlyBurns ..

/-- A message that may burn a fuse unburns none. -/
theorem odAct_onlyBurns (road : Road) {m : OdMsg} (h : burns m = true) (s : State) : burnedIn s.fuses (odAct road m s).fuses := by
  unfold burns at h
  split at h
  · simp only [Bool.and_eq_true, Bool.or_eq_true, beq_iff_eq] at h
    obtain ⟨rfl, hsub⟩ := h
    exact odWrite_onlyBurns hsub ..
  · exact odSvn_onlyBurns ..
  · exact absurd h Bool.false_ne_true

/-- No message unburns a fuse. -/
theorem odRun_onlyBurns (road : Road) (m : OdMsg) (s : State) : burnedIn s.fuses (odRun road m s).fuses := by
  rw [odRun]
  split
  · next h => exact odAct_onlyBurns road h s
  · exact Burned.refl _

/-- A message that arrives unburns no fuse. -/
theorem odServe_onlyBurns (road : Road) (m : OdMsg) (s : State) : burnedIn s.fuses (odServe road m s).fuses := by
  refine Burned.ite (Burned.refl _) (Burned.ite ?_ ?_)
  · cases road <;> exact Burned.refl _
  · simpa using odRun_onlyBurns road m (modWindow road (fun p => { p with winBusy := true }) s)

/-- The messages that wait unburn no fuse once they are served. -/
theorem serveWaits_onlyBurns (n : Nat) (s : State) : burnedIn s.fuses (serveWaits n s).fuses := by
  induction n generalizing s with
  | zero => exact Burned.refl _
  | succ n ih =>
    rw [serveWaits]
    split
    · exact Burned.refl _
    · refine Burned.trans ?_ (ih _)
      split
      · next q _ _ => exact odRun_onlyBurns q.1 q.2 (s.setOd { s.od with waits := s.od.waits.erase q })
      · exact Burned.refl _

theorem pumpWaits_onlyBurns (s : State) : burnedIn s.fuses (pumpWaits s).fuses := serveWaits_onlyBurns ..

/-! ### What ends a persisted write or a transfer (R530, R532, R455) -/

@[simp] theorem putRec_fuses (r : PersistRec) (s : State) : (putRec r s).fuses = s.fuses := by simp [putRec]

@[simp] theorem refuseSlot_fuses (slot why : Nat) (s : State) : (refuseSlot slot why s).fuses = s.fuses := by simp [refuseSlot]

@[simp] theorem endXfer_fuses (id : Nat) (s : State) : (endXfer id s).fuses = s.fuses := rfl

@[simp] theorem setScalar_fuses (index sub v : Nat) (s : State) : (setScalar index sub v s).fuses = s.fuses := rfl

@[simp] theorem persist_fuses (road : Road) (op tag index sub xfer : Nat) (answers : Bool) (r : PersistRec) (s : State) :
    (persist road op tag index sub xfer answers r s).fuses = s.fuses := rfl

/-- The end of a flash program unburns no fuse. -/
theorem persistDone_onlyBurns (ok : Bool) (s : State) : burnedIn s.fuses (persistDone ok s).fuses := by
  rw [persistDone]
  split
  · exact Burned.refl _
  · exact Burned.trans (Burned.of_eq (by simp)) (pumpWaits_onlyBurns _)

/-- The end of an image's verification unburns no fuse. -/
theorem imageVerified_onlyBurns (slot : Nat) (s : State) : burnedIn s.fuses (imageVerified slot s).fuses := by
  rw [imageVerified]
  split
  · exact Burned.refl _
  · exact Burned.trans (Burned.of_eq (by simp)) (pumpWaits_onlyBurns _)

/-! ### Accesses to registers of BAR0 (R338) -/

/-- A request in a window's registers unburns no fuse. -/
theorem windowGo_onlyBurns (port : Fin 4) (s : State) : burnedIn s.fuses (windowGo port s).fuses := odServe_onlyBurns ..

@[simp] theorem mailboxRun_fuses (f : Fn) (op : Nat) (s : State) : (mailboxRun f op s).fuses = s.fuses := rfl

@[simp] theorem writeControl_fuses (port offset v : Nat) (s : State) : (writeControl port offset v s).fuses = s.fuses := by
  simp [writeControl]

@[simp] theorem writeDevice_fuses (f : Fn) (offset v : Nat) (s : State) : (writeDevice f offset v s).fuses = s.fuses := by
  simp [writeDevice]

@[simp] theorem writeMsix_fuses (i vector word v : Nat) (s : State) : (writeMsix i vector word v s).fuses = s.fuses := by
  simp [writeMsix]

@[simp] theorem writeRing_fuses (i ring word v : Nat) (s : State) : (writeRing i ring word v s).fuses = s.fuses := by
  simp [writeRing]

/-- A write to the window's registers unburns no fuse. -/
theorem writeWindow_onlyBurns (port : Fin 4) (offset v : Nat) (s : State) : burnedIn s.fuses (writeWindow port offset v s).fuses :=
  have hport (f : Port → Port) : burnedIn s.fuses (modPort port.val f s).fuses := Burned.of_eq (modPort_fuses ..)
  Burned.ite (Burned.ite (hport _) (Burned.refl _)) (Burned.ite (hport _) (Burned.ite (hport _) (Burned.ite (hport _) (Burned.ite (hport _)
    (Burned.ite (Burned.ite (windowGo_onlyBurns port s) (Burned.refl _)) (Burned.ite (hport _) (Burned.refl _)))))))

/-- A write of 4 B unburns no fuse. -/
theorem writeWord_onlyBurns (f : Fn) (offset v : Nat) (s : State) : burnedIn s.fuses (writeWord f offset v s).fuses := by
  cases f with
  | pf0 p =>
    exact Burned.ite (Burned.of_eq (writeControl_fuses ..)) (Burned.ite (Burned.of_eq (modPort_fuses ..))
      (Burned.ite (Burned.of_eq (writeDevice_fuses ..)) (writeWindow_onlyBurns ..)))
  | ld p n => exact Burned.of_eq (by simp [writeWord])

/-- A write of 4 or 8 B unburns no fuse. -/
theorem writeReg_onlyBurns (f : Fn) (offset size v : Nat) (s : State) : burnedIn s.fuses (writeReg f offset size v s).fuses :=
  Burned.ite (writeWord_onlyBurns ..) (Burned.ite (Burned.trans (writeWord_onlyBurns ..) (writeWord_onlyBurns ..))
    (Burned.of_eq (logFn_fuses ..)))

@[simp] theorem readReg_fuses (f : Fn) (offset size : Nat) (s : State) : (readReg f offset size s).fuses = s.fuses := by simp [readReg]

/-- A BAR access is refused, dropped, or taken. -/
theorem barGate_onlyBurns (f : Fn) (spid : Nat) (posted : Bool) {go : State → State} {s : State} (hgo : burnedIn s.fuses (go s).fuses) :
    burnedIn s.fuses (barGate f spid posted go s).fuses := by
  have hrefused : burnedIn s.fuses (logFn posted f .unsupportedRequest
      (if posted then s else emit .ioCompletion [fnCode f, 1, 0] [] s)).fuses := Burned.of_eq (by simp)
  cases f with
  | pf0 p => exact Burned.ite (Burned.refl _) (Burned.ite hrefused hgo)
  | ld p n => exact Burned.ite (Burned.refl _) (Burned.ite hrefused hgo)

/-- An access to a register unburns no fuse. -/
theorem registerAccess_onlyBurns (f : Fn) (spid offset size : Nat) (access : RegAccess) (s : State) :
    burnedIn s.fuses (registerAccess f spid offset size access s).fuses := by
  refine barGate_onlyBurns f spid _ ?_
  split
  · exact Burned.of_eq (readReg_fuses ..)
  · exact Burned.of_eq (logFn_fuses ..)
  · exact writeReg_onlyBurns ..

end Sys2Proof.Machine
end

section
/-! PROOFS. How commands end, and what each step does to the queue and the fuses (obligations O1, O2, O41 and O46). -/

namespace Sys2Proof.Machine

open Sys2Proof Sys2Proof.Safety

/-- The ends of commands: an effect of which the queue and the fuses are left out, or one that may burn a fuse and unburns none. -/
inductive CommandEnd (s : State) : Host.Outcome State Fault Refusal → Prop where
  | atRest (t : State) : CommandEnd s (atRest s t)
  | quick (t : State) : CommandEnd s (quick s t)
  | overSec (t : State) : CommandEnd s (overSec s t)
  | overRead (t : State) : CommandEnd s (overRead s t)
  | overStep (t : State) : CommandEnd s (overStep s t)
  | overOd (t : State) (hburns : burnedIn s.fuses t.fuses) : CommandEnd s (overOd s t)
  | treeDone (t : State) (hburns : burnedIn s.fuses t.fuses) : CommandEnd s (.next (t.setPending s.pending))

/-- Every command ends in one of these ways. -/
theorem exec_commandEnd (c : Instr) (s : State) : CommandEnd s (exec c s) := by
  cases c with
  | heatHalfLifeWrite | calendarSecondsWrite | register | unregister | reload | partitionAssign | partitionLdAdd |
    partitionReassign | declareFailed | portQuiesce | portQuiesceCancel | svnCommit | debugToken | debugClose | scrubReserve |
    underlayFormat | restart | referenceSelectRclk | referenceSelectLosc | frameClockEnable | memoryClockEnable | read | write |
    describe | xferOpen | xferData | xferCommit | xferAbort | eventSwap | lmEnable | lmSwap =>
    exact .overOd _ (odServe_onlyBurns ..)
  | registerWrite => exact .overOd _ (registerAccess_onlyBurns ..)
  | persistProgramDone => exact .overOd _ (persistDone_onlyBurns ..)
  | imageSlotEraseDone => exact .overOd _ (Burned.refl _)
  | imageVerifyDone => exact .overOd _ (imageVerified_onlyBurns ..)
  | treeOpenDone => exact .treeDone _ (treeDone_onlyBurns ..)
  | doeAbort | getVersion | getCapabilities | negotiateAlgorithms | getDigests | getCertificate | challenge | getMeasurements |
    keyExchange | finish | heartbeat | keyUpdate | endSession | ideKmQuery | keyProg | kSetGo | kSetStop | getkey |
    counterRecordDurable | signRateRefill | debugChallenge =>
    exact .overSec _
  | identify | getSupportedLogs | getLog | identifyMemoryDevice | getPartitionInfo | getHealthInfo | getLdInfo |
    getLdAllocations | doeDiscovery | doeTableAccess =>
    exact .overRead _
  | nop | runMultiply | runAccumulate | runDrain | vecLoad | vecStore | vecAdd | vecSub | vecMul | vecFma | vecMax | vecMin |
    vecAbs | vecNeg | vecCmplt | vecSelect | vecIota | vecRcp | vecRsqrt | vecSqrt | vecExp2 | vecExp | vecLog2 | vecTanh |
    vecSigmoid | vecSin | vecCos | vecRsum | vecRmax | vecRmin | vecAnd | vecOr | vecXor | waitToken | signalAdd | signalSet |
    loop =>
    exact .overStep _
  | calibrationDue | refreshDue | dramRequest | starveLimitExpired | parityAlert | replayEpisodeEnd | selfRefreshIdleExpired |
    selfRefreshExitDone | hbmPowerDownIdle | reserveScrubDone | rowCloseTimeout | recordBatchExpired | checkpointDue |
    underlayMountDone | guaranteeRecompute | powerOn | powerOff | grstAssert | grstDeassert | oscDelayExpired |
    loscJudgementDone | fusePhaseDone | imagePhaseDone | channelTrainTimeout | phaseBudgetExpired | retryDelayExpired |
    gateClose | railFault | railRestored | thermalSample | sensorTimeout | derateEndTimer | jtagInstruction | snapshotLapse |
    transferIdleTimeout | lmSample | lifetimeHourlyWrite | resetPulseIgnored | catastrophicTemperatureAlarm |
    dynamicAddressAssignment =>
    exact .quick _
  | purlinFrame | purlinLinkFailed | cxlMemRead | cxlMemWrite | moveStart | copyPassEnd | flipWindowClear | flipWindowTimeout |
    freePendingSlotReturn | damagedHoldTimeout | noSlotWaitTimeout | heatHalving | parkStart | parkPassEnd | parkWindowClear |
    unparkStart | tileLanded | unparkLoadTimeout | unparkStoreTimeout | hintHot | hintWarm | hintCold | hintPark | hintDrop |
    sessionHintHot | sessionHintWarm | sessionHintCold | sessionHintPark | sessionHintDrop | move | park | parkBySession |
    unpark | unparkBySession | drop | dropBySession | bind | update | query | prefixForm | sessionEnd | sessionEndPrefix |
    sessionScanVisit | teststrip | teststripSampleStart | teststripSketchDone | teststripTrialDone | decodeDone | run | attend |
    rebuild | runGrant | frameSwitchDone | loadTile | storeTile | moveHint | waitDeviceWord | waitRemoteWord | waitPoll |
    remoteWrite | remoteRead | endStep | stepCompleted | loadTilePoisonRetry | stallLimitExpired | runStopped | attendAppendDone
    | registrationDigestDone | ringEnable | ringDisable | sqTailDoorbell | cqHeadWrite | descriptorFetch |
    commandDeadlineExpired | irqGatheringEnd | fill | copy | compare | reduceSum | reduceMax | reduceMin | reduceAnd | reduceOr
    | reduceXor | nearMemoryDone | squeegee | squeegeePassDone | claim | release | publish | exposeOpen | exposeAdd |
    exposeCommit | exposeAbort | prepare | participantQuietTimeout | prepareAnswersIn | commitRetryTimer | apply |
    exposureIdleExpired | keyload | partitionScrubDone | claimTilePoisoned | drainLimitExpired | linkL0Reached | linkRetryTimer
    | surpriseDown | containmentCause | containmentRelease | perstAssert | perstDeassert | flrInitiate | flrComplete | pf0Flr |
    busMasterDisable | busMasterEnable | hdmDecoderCommit | configRequest | completionReceived | completionTimeout |
    tagQuarantineEnd | msixUnmask | ltrIntervalEnd | l1EntryIdleExpired | sectorReadReturn | alertWaitExpired | replayDone |
    nandOperationDone | nandOperationTimeout | fcrDurable | retentionAgeReached | readLimitReached | budgetWindowRollover |
    trainPhaseDone | rclkCheckDone | rclkLost | rclkHoldoffExpired | loscLost | orderlyLinkDown | correctableLinkError |
    encodeDone =>
    exact .atRest _

/-- A command goes on to a state with the sender's queue, in which no fuse is unburned. -/
theorem CommandEnd.next {s : State} {o : Host.Outcome State Fault Refusal} (h : CommandEnd s o) :
    ∃ t, o = .next t ∧ t.pending = s.pending ∧ burnedIn s.fuses t.fuses := by
  cases h with
  | atRest t =>
    have ⟨hpending, hfuses⟩ := atRest_keeps (s := s) (t := t) rfl
    exact ⟨_, rfl, hpending, Burned.of_eq hfuses⟩
  | quick t =>
    have ⟨hpending, hfuses⟩ := quick_keeps (s := s) (t := t) rfl
    exact ⟨_, rfl, hpending, Burned.of_eq hfuses⟩
  | overSec t =>
    have ⟨hpending, hfuses, _⟩ := overSec_keeps (s := s) (t := t) rfl
    exact ⟨_, rfl, hpending, Burned.of_eq hfuses⟩
  | overRead t => exact ⟨_, rfl, rfl, Burned.refl _⟩
  | overStep t =>
    have ⟨hpending, hfuses, _⟩ := overStep_keeps (s := s) (t := t) rfl
    exact ⟨_, rfl, hpending, Burned.of_eq hfuses⟩
  | overOd t hburns =>
    have ⟨hpending, hfuses⟩ := overOd_keeps (s := s) (t := t) rfl
    exact ⟨_, rfl, hpending, Burned.trans hburns (Burned.of_eq hfuses)⟩
  | treeDone t hburns => exact ⟨_, rfl, rfl, hburns⟩

/-! ### A step without a command -/

/-- A device that is off lets time pass unnoticed. -/
theorem tick_of_off {s : State} (h : s.start.stage = .off) : tick s = s := by
  simp [tick, h]

/-- A microsecond without a command leaves the queue and the fuses as they are. -/
theorem tick_keeps (s : State) : (tick s).pending = s.pending ∧ (tick s).fuses = s.fuses := by
  unfold tick
  split
  · exact ⟨rfl, rfl⟩
  · exact ⟨leaving_pending .., leaving_fuses ..⟩

/-- A step with an empty queue is such a microsecond. -/
theorem step_of_idle {s : State} (h : s.pending = []) : step s = .next (tick s) := by
  rw [step, h]

/-! ### The obligations -/

/-- Settles O41: every end of a command goes on, with the queue that the command found. -/
theorem commandsLeaveTheQueue : Obligations.CommandsLeaveTheQueue := by
  unfold Obligations.CommandsLeaveTheQueue
  have hexec (c : Instr) (s : State) : ∃ t, exec c s = .next t ∧ t.pending = s.pending := by
    obtain ⟨t, hnext, hpending, -⟩ := (exec_commandEnd c s).next
    exact ⟨t, hnext, hpending⟩
  exact ⟨hexec, fun c rest s => hexec c (s.setPending rest)⟩

/-- Settles O1: so is a step defined. -/
theorem stepRunsFrontCommand : Obligations.StepRunsFrontCommand := by
  unfold Obligations.StepRunsFrontCommand
  exact fun _ _ _ => rfl

/-- Settles O2: the microsecond that such a step is leaves the queue and the fuses, and all of a device that is off. -/
theorem idleStepTicks : Obligations.IdleStepTicks := by
  unfold Obligations.IdleStepTicks
  intro s hidle
  obtain ⟨hpending, hfuses⟩ := tick_keeps s
  exact ⟨step_of_idle hidle, hpending.trans hidle, hfuses, tick_of_off⟩

/-- Settles O46: a step is a microsecond, which leaves the fuses, or a command, none of whose ends unburns one. -/
theorem fusesOnlyBurn : Obligations.FusesOnlyBurn := by
  unfold Obligations.FusesOnlyBurn
  intro f s t hf hstep
  refine Burned.trans hf ?_
  cases hpending : s.pending with
  | nil =>
    obtain rfl : tick s = t := Host.Outcome.next.inj ((step_of_idle hpending).symm.trans hstep)
    exact Burned.of_eq (tick_keeps s).2
  | cons c rest =>
    have hexec : exec c (s.setPending rest) = .next t := by rwa [step, hpending] at hstep
    obtain ⟨u, hnext, -, hburns⟩ := (exec_commandEnd c (s.setPending rest)).next
    obtain rfl : u = t := Host.Outcome.next.inj (hnext.symm.trans hexec)
    exact hburns

end Sys2Proof.Machine
end

section
/-! PROOFS. Security messages, the signer and DEBUG_CLOSE (obligations O34, O43, O48 and O58). -/

namespace Sys2Proof.Machine

open Sys2Proof Sys2Proof.Safety

/-! ### Ends of security messages and of requests that only read -/

/-- A security message is over as such messages are. -/
theorem exec_eq_overSec {c : Instr} (s : State) (h : isSecurity c = true) : ∃ t, exec c s = overSec s t := by
  unfold isSecurity at h
  split at h
  case h_22 => exact absurd h Bool.false_ne_true
  all_goals exact ⟨_, rfl⟩

/-- A request that only reads is over as such requests are. -/
theorem exec_eq_overRead {c : Instr} (s : State) (h : isRequest c = true) : ∃ t, exec c s = overRead s t := by
  unfold isRequest at h
  split at h
  case h_11 => exact absurd h Bool.false_ne_true
  all_goals exact ⟨_, rfl⟩

/-- No request that only reads is a security message. -/
theorem isRequest_of_isSecurity {c : Instr} (h : isSecurity c = true) : isRequest c = false := by
  unfold isSecurity at h
  split at h
  case h_22 => exact absurd h Bool.false_ne_true
  all_goals rfl

/-- Settles O43: both kinds of message end in a state that keeps all but what they are about. -/
theorem securityAndRequestFrames : Obligations.SecurityAndRequestFrames := by
  unfold Obligations.SecurityAndRequestFrames
  rintro c s u hexec (hsecurity | hrequest)
  · obtain ⟨t, ht⟩ := exec_eq_overSec s hsecurity
    obtain ⟨hpending, hfuses, htier, hund, hsess, hcodec, hcmp, hqueue, hshare, hdram, hregul, hod, hstart, hpkg, htime⟩ :=
      overSec_keeps (ht ▸ hexec)
    exact ⟨⟨htier, hund, hsess, hcodec, hcmp, hqueue, hshare, hdram, hregul, hod, hstart, htime, hfuses, hpkg, hpending⟩,
      fun a => by rw [htier], fun h => by simp [isRequest_of_isSecurity hsecurity] at h⟩
  · obtain ⟨t, ht⟩ := exec_eq_overRead s hrequest
    obtain rfl := overRead_keeps (ht ▸ hexec)
    exact ⟨⟨rfl, rfl, rfl, rfl, rfl, rfl, rfl, rfl, rfl, rfl, rfl, rfl, rfl, rfl, rfl⟩, fun _ => rfl, fun _ => ⟨rfl, rfl, rfl, rfl⟩⟩

/-! ### The signer's reservation and its trees (R459 to R461) -/

/-- A durable reservation record reserves 256 indices, to the last leaf of the tree at most, and lets the signer go on (R459).
-/
theorem counterDurable_of_reserving {s : State} (h : s.sec.reserving = true) : counterDurable s =
    signAll (putCounter (s.sec.tree.getD 0) (min (s.sec.q + 256) leaves)
      (s.setSec { s.sec with reserving := false, reservedTo := min (s.sec.q + 256) leaves })) := by
  simp [counterDurable, h]

/-- The next tree opens once its fuse bit is burned, with no index of it reserved yet (R460). -/
theorem treeDone_of_burned {s : State} {t : Nat} (h : s.sec.opening = some t) {u : State} (hu : s.setFuses { s.fuses with
        trees := burnBelow s.fuses.trees true (fun i => Config.freeAt s.fresh i) t (t + 1) } = u) :
    treeDone true s = lowCheck (signAll (raise 0x0D03 none t (putCounter t 0
        (u.setSec { u.sec with tree := some t, opening := none, q := 0, reservedTo := 0 })))) := by
  subst hu
  simp [treeDone, h]

/-- While debug is not closed a challenge is drawn (R486). -/
theorem newChallenge_of_unburned {s : State} (h : debugBurned s = false) : newChallenge s =
    s.setSec { s.sec with challenge := some (Config.entropy s.sec.draws), draws := s.sec.draws + 1 } := by
  simp [newChallenge, h]

/-- Settles O34: each row is its own operation, in the case of its rule. -/
theorem signerRowsTakeEffect : Obligations.SignerRowsTakeEffect := by
  unfold Obligations.SignerRowsTakeEffect
  intro s
  refine ⟨?durable, rfl, ?tree, ?challenge⟩
  case durable => exact fun h => secures_of_effect_eq rfl (counterDurable_of_reserving h)
  case tree =>
    intro t u hopening hburned
    show Host.Outcome.next _ = _
    rw [treeDone_of_burned hopening hburned]
  case challenge => exact fun h => secures_of_effect_eq rfl (newChallenge_of_unburned h)

/-! ### The signer beyond its tree (R458, R459) -/

/-- The signer does nothing where no request waits for a signature. -/
theorem signAll_of_no_waits {s : State} (h : s.sec.waits = []) : signAll s = s := by
  simp [signAll, pumpSign, h]

/-- A signer that stands beyond the leaves of a tree, within a reservation that has taken it there, and waits for a
reservation record. -/
def signerBeyondTree : State :=
  State.reset.setSec { State.reset.sec with reserving := true, q := 2000000, reservedTo := 2000000 }

/-- A record that becomes durable while no request waits for a signature reserves 256 indices, to the last leaf of the tree at
most, and takes none. -/
theorem counterDurable_of_no_waits {s : State} (hreserving : s.sec.reserving = true) (hwaits : s.sec.waits = []) :
    (counterDurable s).sec = { s.sec with reserving := false, reservedTo := min (s.sec.q + 256) leaves } := by
  rw [counterDurable_of_reserving hreserving, signAll_of_no_waits]
  · rfl
  · exact hwaits

/-- Refutes O48: the claim does not ask that q is an index of the tree. A signer at q = RESERVED_TO = 2,000,000 is within its
reservation, and COUNTER_RECORD_DURABLE, which reserves to the last leaf of the tree at most, leaves it beyond. -/
theorem not_signerKeepsToItsReservation : ¬ Obligations.SignerKeepsToItsReservation := by
  unfold Obligations.SignerKeepsToItsReservation
  rintro ⟨-, hkeeps⟩
  have hpassed := hkeeps .counterRecordDurable signerBeyondTree _ rfl (.inl rfl) (Nat.le_refl _)
  have hsec := counterDurable_of_no_waits (s := signerBeyondTree) rfl rfl
  change (counterDurable signerBeyondTree).sec.q ≤ (counterDurable signerBeyondTree).sec.reservedTo at hpassed
  rw [hsec] at hpassed
  exact absurd hpassed (by decide)

/-! ### DEBUG_CLOSE (R488) -/

/-- The debug range is absent once DEBUG_CLOSE is burned. -/
theorem present_of_debugBurned {s : State} (h : debugBurned s = true) {index : Nat} (sub : Nat) (hindex : 0x6000 ≤ index) :
    present s index sub = .error 1 := by
  rw [present]
  split
  · rfl
  · simp [hindex, h]

/-- No challenge is drawn once DEBUG_CLOSE is burned. -/
theorem newChallenge_of_burned {s : State} (h : debugBurned s = true) : newChallenge s = s := by
  simp [newChallenge, h]

/-- A JTAG instruction of the debug domain acts as BYPASS where debug is closed. -/
theorem tapInstruction_debug_of_closed {s : State} (c : Nat) (hdebug : s.sec.debug = 2) (hon : s.start.stage ≠ .off)
    (hrail : 1 ∉ s.pkg.railsBad) :
    tapInstruction (.privateInstr c) s = emit .tdo [0] [] (s.setPkg { s.pkg with jtag := .bypass }) := by
  simp [tapInstruction, hdebug, hon, hrail]

/-- Burning DEBUG_CLOSE burns each of its copies. -/
theorem debugClose_burnDebug (s : State) : ∀ b ∈ (burnDebug s).fuses.debugClose, b = true := by
  simp [burnDebug_fuses]

/-- DEBUG_CLOSE reads as burned once it has been burned. -/
theorem debugBurned_burnDebug {s : State} (h : s.fuses.debugClose ≠ []) : debugBurned (burnDebug s) = true := by
  simpa [debugBurned, burnDebug_fuses] using h

/-- Settles O58: the copies after the burn, then each road to debug in a device where DEBUG_CLOSE is burned. -/
theorem debugCloseIsFinal : Obligations.DebugCloseIsFinal := by
  unfold Obligations.DebugCloseIsFinal
  intro s
  refine ⟨fun hcopies => ?burn, fun hburned => ⟨fun index sub => present_of_debugBurned hburned sub, ?challenge, ?jtag⟩⟩
  case burn =>
    have hfused : s.fuses.debugClose ≠ [] := List.ne_nil_of_length_eq_add_one hcopies
    exact ⟨debugBurned_burnDebug hfused, by simp [burnDebug], debugClose_burnDebug s⟩
  case challenge =>
    show overSec s (newChallenge s) = .next s
    rw [newChallenge_of_burned hburned]
    rfl
  case jtag => exact fun c hdebug hon hrail => ends_of_effect_eq rfl (tapInstruction_debug_of_closed c hdebug hon hrail)

end Sys2Proof.Machine
end

section
/-! PROOFS. SPDM outside and inside a secured session (obligations O32 and O33). -/

namespace Sys2Proof.Machine

open Sys2Proof Sys2Proof.Safety

/-! ### SPDM requests outside a session (R461 to R468) -/

section
variable {s : State} {a : SpdmAt} (hopen : spdmOpen s a = true)
include hopen

/-- GET_VERSION begins the order anew: of what was negotiated at the place only the version stays (R463). -/
theorem spdmVersion_of_open : spdmVersion a s =
    spdmTold a 0x04 [0x84] (toBytes 2 0x1300) (modResponder a (fun _ => { version := true }) s) := by
  simp [spdmVersion, hopen]

/-- GET_CAPABILITIES is answered after the version (R463). -/
theorem spdmCapabilities_of_version (h : (responderOf s a).version = true) : spdmCapabilities a s =
    spdmTold a 0x61 [0xE1] (toBytes 4 spdmFlags ++ Config.standardAnswer 1)
      (modResponder a (fun q => { q with capabilities := true }) s) := by
  simp only [spdmCapabilities, hopen, h, Bool.not_true, Bool.false_eq_true, if_false]

/-- NEGOTIATE_ALGORITHMS is answered after the capabilities, and chooses of what the requester offers (R463, R464). -/
theorem spdmAlgorithms_of_capabilities (hss mlkem : Bool) (h : (responderOf s a).capabilities = true) :
    spdmAlgorithms a hss mlkem s = spdmTold a 0x63 ([0xE3] ++ algorithmsFor hss mlkem) (algorithmsFor hss mlkem)
        (modResponder a (fun q => { q with algorithms := true, hss := hss, mlkem := mlkem }) s) := by
  simp only [spdmAlgorithms, hopen, h, Bool.not_true, Bool.false_eq_true, if_false]

/-- GET_DIGESTS gives the digest of slot 0, if it holds a chain (R466). -/
theorem spdmDigests_of_algorithms (h : (responderOf s a).algorithms = true) : spdmDigests a s =
    spdmTold a 0x01 [0x81] (if chainOk s then [1] ++ sha256 s.flash.chain else [0]) s := by
  simp only [spdmDigests, hopen, h, Bool.not_true, Bool.false_eq_true, if_false]

/-- GET_CERTIFICATE gives a part of the chain in slot 0 that fits the message, and how much is left (R466). -/
theorem spdmCertificate_of_chain {offset : Nat} (length : Nat) (h : (responderOf s a).algorithms = true)
    (hoffset : offset < s.flash.chain.length) (hchain : chainOk s = true) {part : List Byte}
    (hpart : (s.flash.chain.drop offset).take (min length (messageRoom a - 8)) = part) :
    spdmCertificate a 0 offset length s = spdmTold a 0x02 ([0x82] ++ toBytes 2 offset ++ toBytes 2 length)
      ([0] ++ toBytes 2 part.length ++ toBytes 2 (s.flash.chain.length - offset - part.length) ++ part) s := by
  subst hpart
  have hgiven : (0 != 0 || ! chainOk s || s.flash.chain.length ≤ offset) = false := by simpa [hchain] using hoffset
  simp only [spdmCertificate, hopen, h, hgiven, Bool.not_true, Bool.false_eq_true, if_false]

/-- GET_CERTIFICATE of an empty slot 0 is refused. -/
theorem spdmCertificate_of_no_chain (offset length : Nat) (h : (responderOf s a).algorithms = true) (hchain : chainOk s = false) :
    spdmCertificate a 0 offset length s = spdmError a 0x01 0 s := by
  simp [spdmCertificate, hopen, h, hchain]

/-- CHALLENGE asks the signer for its answer, over the chain's digest (R461, R465). -/
theorem spdmChallenge_of_hss (nonce : List Byte) (h : (responderOf s a).hss = true) : spdmChallenge a 0 nonce s = askSign
    { at_ := a, kind := 0x03, message := [0] ++ nonce ++ (if chainOk s then sha256 s.flash.chain else zeros 32)
      exchange := none } s := by
  simp only [spdmChallenge, hopen, h, bne_self_eq_false, Bool.not_true, Bool.false_eq_true, if_false]

/-- GET_MEASUREMENTS without a signature is answered at once where its record fits (R468). -/
theorem spdmMeasurements_unsigned {operation : Nat} {bs : List Byte} (nonce : List Byte) (h : (responderOf s a).algorithms = true)
    (hrecord : measurementRecord s a operation = some bs) (hroom : 4 + bs.length ≤ messageRoom a) :
    spdmMeasurements a operation false nonce s = spdmSay a 0x60 0 0 bs s := by
  have hfits : ¬ messageRoom a < 4 + bs.length + 0 := by omega
  simp only [spdmMeasurements, hopen, h, hrecord, hfits, Bool.not_true, Bool.false_and, Bool.or_self, Bool.false_eq_true, if_false]

/-- GET_MEASUREMENTS with a signature asks the signer, where record and nonce fit (R461, R468). -/
theorem spdmMeasurements_signed {operation : Nat} {bs nonce : List Byte} (h : (responderOf s a).algorithms = true)
    (hhss : (responderOf s a).hss = true) (hrecord : measurementRecord s a operation = some bs)
    (hroom : 4 + bs.length + nonce.length ≤ messageRoom a) : spdmMeasurements a operation true nonce s =
      askSign { at_ := a, kind := 0x60, message := bs ++ nonce, exchange := none } s := by
  have hfits : ¬ messageRoom a < 4 + bs.length + nonce.length := by omega
  simp only [spdmMeasurements, hopen, h, hhss, hrecord, hfits, Bool.not_true, Bool.true_and, Bool.or_self,
    Bool.false_eq_true, if_true, if_false]

/-- A place that may begin a secured session: signatures and ML-KEM are agreed on, it is bound, and a session is free
(R463, R467). -/
structure MayExchange (s : State) (a : SpdmAt) : Prop where
  hss : (responderOf s a).hss = true
  mlkem : (responderOf s a).mlkem = true
  bound : placeBound s a = true
  roomHere : sessionsAt s a < 2
  roomAll : sessionsAll s < 64

/-- KEY_EXCHANGE encapsulates a secret to a sound ML-KEM key and asks the signer for its answer (R461, R465). -/
theorem spdmExchange_of_mayExchange (half : Nat) {key : List Byte} (hkey : key.length = 1568) (h : MayExchange s a) :
    spdmExchange a half key s = if Config.mlkemKeyOk key then
        askSign { at_ := a, kind := 0x64, message := Config.mlkemCiphertext key s.sec.draws, exchange := some (half,
          Config.mlkemSecret key s.sec.draws ++ sha256 ((responderOf s a).transcript ++ toBytes 2 half ++ key
            ++ Config.mlkemCiphertext key s.sec.draws)) }
          (s.setSec { s.sec with draws := s.sec.draws + 1 })
        else spdmError a 0x01 0 s := by
  have hfull : (2 ≤ sessionsAt s a || 64 ≤ sessionsAll s) = false := by simp [h.roomHere, h.roomAll]
  cases hok : Config.mlkemKeyOk key <;>
    simp only [spdmExchange, hopen, h.hss, h.mlkem, h.bound, hfull, hkey, hok, bne_self_eq_false, Bool.not_true,
      Bool.not_false, Bool.or_self, Bool.false_or, Bool.false_eq_true, if_false, if_true]

end

/-- Settles O32: each request is answered by its own operation, where the order before it has been kept. -/
theorem spdmRequestsAreAnswered : Obligations.SpdmRequestsAreAnswered := by
  unfold Obligations.SpdmRequestsAreAnswered
  rintro s a r hopen rfl
  refine ⟨?version, ?capabilities, ?algorithms, ?digests, ?certificate, ?challenge, ?measurements, ?exchange⟩
  case version => exact secures_of_effect_eq rfl (spdmVersion_of_open hopen)
  case capabilities => exact fun h => secures_of_effect_eq rfl (spdmCapabilities_of_version hopen h)
  case algorithms =>
    rintro h hss mlkem _ rfl
    exact secures_of_effect_eq rfl (spdmAlgorithms_of_capabilities hopen hss mlkem h)
  case digests => exact fun h => secures_of_effect_eq rfl (spdmDigests_of_algorithms hopen h)
  case certificate =>
    intro h offset length part hoffset hpart
    refine secures_of_effect_eq rfl ?_
    split
    · next hchain => exact spdmCertificate_of_chain hopen length h hoffset hchain hpart
    · next hchain => exact spdmCertificate_of_no_chain hopen offset length h (by simpa using hchain)
  case challenge => exact fun h nonce => secures_of_effect_eq rfl (spdmChallenge_of_hss hopen nonce h)
  case measurements =>
    intro h operation nonce bs hrecord
    exact ⟨fun hroom => secures_of_effect_eq rfl (spdmMeasurements_unsigned hopen nonce h hrecord hroom),
      fun hhss hroom => secures_of_effect_eq rfl (spdmMeasurements_signed hopen h hhss hrecord hroom)⟩
  case exchange =>
    rintro hhss hmlkem hbound hhere hall half key _ hkey rfl
    exact secures_of_effect_eq rfl (spdmExchange_of_mayExchange hopen half hkey ⟨hhss, hmlkem, hbound, hhere, hall⟩)

/-! ### Messages of a secured session (R463, R467) -/

section
variable {s : State} {id : Nat} {x : SecSession} (hsession : secSession s id = some x) (hopen : spdmOpen s x.at_ = true)
include hsession hopen

/-- A message of an established session is taken as the message of its kind. -/
theorem withSession_of_established (f : SecSession → State → State) (h : x.established = true) :
    withSession id f s = f x s := by
  simp only [withSession, hsession, hopen, h, Bool.not_true, Bool.false_eq_true, if_false, if_true]

/-- FINISH establishes the session where its verification is right, and ends it else (R463). -/
theorem spdmFinish_of_unestablished (verify : List Byte) (h : x.established = false) : spdmFinish id verify s =
    if Config.finishOk x.secret verify then spdmSay x.at_ 0x65 0 id [] (count 0x30D0 3
      (s.setSec { s.sec with sessions := MapOps.insert id { x with established := true } s.sec.sessions }))
    else spdmError x.at_ 0x06 id (dropSession id s) := by
  simp only [spdmFinish, hsession, hopen, h, Bool.not_true, Bool.false_eq_true, if_false]

/-- A message of an established session takes the effect of its kind. -/
theorem secures_of_established {c : Instr} {f : SecSession → State → State} {u : State}
    (hexec : exec c s = overSec s (withSession id f s)) (h : x.established = true) (heffect : f x s = u) : Secures c s u :=
  secures_of_effect_eq hexec ((withSession_of_established hsession hopen f h).trans heffect)

end

/-- Settles O33: FINISH, then every other message through the rule of established sessions. -/
theorem sessionMessagesTakeEffect : Obligations.SessionMessagesTakeEffect := by
  unfold Obligations.SessionMessagesTakeEffect
  intro s id x hsession hopen
  refine ⟨fun verify hnew => secures_of_effect_eq rfl (spdmFinish_of_unestablished hsession hopen verify hnew), fun hest => ?_⟩
  have secures {c : Instr} {f : SecSession → State → State} {u : State} (hexec : exec c s = overSec s (withSession id f s))
      (heffect : f x s = u) : Secures c s u := secures_of_established hsession hopen hexec hest heffect
  refine ⟨secures rfl rfl, secures rfl rfl, secures rfl rfl, fun port hpf0 => ⟨fun mem => ?query,
    fun mem rx key hup hkey => ⟨?set0, ?set1⟩, fun mem rx set => ⟨fun hkeys => ?go, fun hactive => ?stop⟩, ?getkey⟩⟩
  case query => exact secures rfl (if_pos hpf0)
  case set0 => exact secures rfl (by simp [hpf0, hup, hkey])
  case set1 => exact secures rfl (by simp [hpf0, hup, hkey])
  case go =>
    obtain ⟨h0, h1⟩ := hkeys
    refine secures rfl ?_
    match set with
    | 0 => simp [hpf0, h0]
    | 1 => simp [hpf0, h1]
  case stop => exact secures rfl (by simp [hpf0, hactive])
  case getkey => exact secures rfl (by simp [hpf0])

end Sys2Proof.Machine
end

section
/-! PROOFS. What reset leaves, and the rows of a start (obligations O38 and O47). -/

namespace Sys2Proof.Machine

open Sys2Proof Sys2Proof.Safety

/-! ### The reset state (R506, R508) -/

/-- Judging the tiers of the reset device makes none congested. -/
theorem judge_reset : judge State.reset = State.reset := by
  have hcongested : (judge State.reset).regul.congested = State.reset.regul.congested := by decide
  exact congrArg (fun l => State.reset.setRegul { State.reset.regul with congested := l }) hcongested

/-- After reset nothing waits in the device. -/
theorem quiet_reset : Quiet State.reset where
  notices := by decide
  deferred := rfl
  held := rfl
  moves := by decide
  sheets := by decide
  admission := by decide
  congestion := judge_reset
  relocations := by decide
  collection := by decide
  sessions := by decide
  commands := by decide
  exposures := rfl
  shares := by decide
  frames := by decide
  registrations := by decide
  stacksUp := rfl
  reserve := by decide
  tags := by decide
  latency := by decide
  tables := by decide
  reference := by decide
  signer := rfl

/-- Settles O47: the reset state is one state, and each part of the claim is evaluated on it. -/
theorem resetLeaves : Obligations.ResetLeaves :=
  ⟨rfl, rfl, rfl, quiet_reset, rfl, rfl, rfl, Burned.refl _⟩

/-! ### Resets and rails (R506, R556) -/

section
variable {s : State}

/-- The end of GRST starts a held device whose rails are good, with the straps as they stand (R506). -/
theorem grstHigh_of_held (straps : BitVec 3) (hlow : s.pkg.grst = true) (hheld : s.start.stage = .held)
    (hrails : s.pkg.railsBad = []) : grstHigh straps s =
      beginS1 1 (modStart (fun b => { b with strap := straps }) (s.setPkg { s.pkg with grst := false })) := by
  simp [grstHigh, hlow, hheld, hrails, modStart]

/-- GRST holds a device that is on and has not tripped in reset (R506). -/
theorem grstLow_of_running (hon : s.start.stage ≠ .off) (hcool : s.start.stage ≠ .tripped) :
    grstLow s = holdReset (s.setPkg { s.pkg with grst := true }) := by
  simp [grstLow, hon, hcool]

/-- A rail that fails holds a running device in reset; the fault is counted and its event is owed (R556). -/
theorem railFails_of_running {rail : Nat} (hrail : rail ≠ 0) (hrun : inS0 s = false) : railFails rail s = count 0x3100 5
    (modStart (fun b => { b with owed := b.owed ++ [(0x1004, rail)] })
      (holdReset (s.setPkg { s.pkg with railsBad := setInsert rail s.pkg.railsBad }))) := by
  simp [railFails, hrail, hrun]

/-- Rails that come back start a device held for them alone (R556). -/
theorem railsGood_of_held (hheld : s.start.stage = .held) (hhigh : s.pkg.grst = false) (hrails : s.pkg.railsBad ≠ []) :
    railsGood s = countBy 0x3100 5 (counter s 0x3100 5) (beginS1 s.start.cause (s.setPkg { s.pkg with railsBad := [] })) := by
  simp [railsGood, hheld, hhigh, hrails]

/-- A failed start is tried anew after its delay (R510, R513). -/
theorem retryNow_of_retry (hretry : s.start.stage = .retry) (hrails : s.pkg.railsBad = []) : retryNow s = beginS1 3 s := by
  simp [retryNow, hretry, hrails]

/-! ### The phases of a start (R508 to R513) -/

/-- LOSC is judged after its delay (R508). -/
theorem oscReady_of_delay (h : s.start.stage = .oscDelay) : oscReady s = modStart (fun b => { b with stage := .judging }) s := by
  simp [oscReady, h]

/-- A good LOSC lets the fuses be read (R508). -/
theorem loscJudged_of_good {a b : Nat} (h : s.start.stage = .judging) (hgood : loscGood a b = true) :
    loscJudged a b s = modStart (fun t => { t with stage := .fuses, losc := true }) s := by
  simp [loscJudged, h, hgood]

/-- Fuses whose copies disagree fail the start (R448). -/
theorem fusesRead_of_disagree {upsets : List FuseUpset} (h : s.start.stage = .fuses)
    (hwrong : ∃ u ∈ upsets, u.wrong ≠ 0 ∧ u.wrong ≠ 7) :
    fusesRead upsets s = startFails 5 (modStart (fun b => { b with upsets := upsets }) s) := by
  have hany : (upsets.any fun u => u.wrong != 0 && u.wrong != 7) = true := by simpa using hwrong
  simp only [fusesRead, h, hany, bne_self_eq_false, Bool.false_eq_true, if_false, if_true]

/-- Fuses whose copies agree begin S2; the AON record's failure count stays where it is not below the one in flash (R508, R512).
-/
theorem fusesRead_of_agree {upsets : List FuseUpset} (h : s.start.stage = .fuses)
    (hagree : ¬ ∃ u ∈ upsets, u.wrong ≠ 0 ∧ u.wrong ≠ 7)
    (hcount : storedScalar s 0x1800 5 0 ≤ s.start.failures) : fusesRead upsets s =
      trainPorts (flushOwed (modStart (fun b => { b with upsets := upsets, stage := .image, phase := 2, refInUse := 1
                                                         failures := max b.failures (storedScalar s 0x1800 5 0) }) s)) := by
  have hany : (upsets.any fun u => u.wrong != 0 && u.wrong != 7) = false := by simpa using hagree
  have hlast : ¬ s.start.failures < storedScalar s 0x1800 5 0 := by omega
  unfold fusesRead
  rw [if_neg (by rw [h]; decide), if_neg (by rw [hany]; decide)]
  have hlast0 : ¬ (modStart (fun b => { b with upsets := upsets }) s).start.failures
      < storedScalar (modStart (fun b => { b with upsets := upsets }) s) 0x1800 5 0 := hlast
  dsimp only
  rw [if_neg hlast0]
  refine congrArg (fun u => trainPorts (flushOwed u)) ?_
  rfl

/-- The slot that ImageSelect names is tried first, the other one next; the start fails where both are refused (R508). -/
theorem imageDone_of_first {first : Nat} (h : s.start.stage = .image) (hfirst : storedScalar s 0x2800 6 0 % 2 = first) :
   imageDone s = if verifyImage s (slotBytes s first) = 0 then imageLoaded first s
      else if verifyImage s (slotBytes s (1 - first)) = 0 then
        imageLoaded (1 - first) (raise 0x0D02 none 0 (refuseSlot first (verifyImage s (slotBytes s first)) s))
      else startFails (verifyImage s (slotBytes s first))
        (refuseSlot (1 - first) (verifyImage s (slotBytes s (1 - first)))
          (refuseSlot first (verifyImage s (slotBytes s first)) s)) := by
  subst hfirst
  simp [imageDone, h]

/-- A channel that does not train is told of and left out of use (R510). -/
theorem channelUntrained_of_untold {n : Nat} (h : s.start.stage = .train) (hstate : (ctlOf s n).state ≠ 2) :
    channelUntrained n s = raise 0x0A01 none n (modCtl n (fun c => { c with state := 2 }) s) := by
  simp [channelUntrained, h, hstate]

/-- A trained device that mounts and is cool is set up and lit (R508). -/
theorem trainDone_of_mounted {f : Population} (h : s.start.stage = .train) (hmount : mountOver f s = true)
    (hcool : ∀ t ∈ s.pkg.temps.take 16, t < 1050) : trainDone f s =
      lightUp (placeFrames (recompute (settleClocks (settleFrames f (reloadSheets (rebuildMap
        (settleDirectory f (settleUnderlay f (settleDram f s))))))))) := by
  have hbelow : ((s.pkg.temps.take 16).any fun t => 1050 ≤ t) = false := by simpa using hcool
  simp [trainDone, h, hmount, hbelow]

/-- A phase of S3 over its budget fails the start for its own reason (R510). -/
theorem budgetOver_of_train {reason : Nat} (h : s.start.stage = .train) (hlo : 6 ≤ reason) (hhi : reason ≤ 9) :
    budgetOver reason s = startFails reason s := by
  simp [budgetOver, h, hlo, hhi]

end

/-- Settles O38: each row is its own operation, in the stage that the row asks for. -/
theorem startRowsTakeEffect : Obligations.StartRowsTakeEffect := by
  unfold Obligations.StartRowsTakeEffect
  intro s
  refine ⟨fun straps => ⟨fun _ => rfl, ?high⟩, rfl, ?low, ?delay, ?losc, ?fuses, ?image, ?channel, ?train, ?budget, ?retry,
    fun hon => ends_of_effect_eq rfl (if_neg (by simpa using hon)), ?fault, ?restored⟩
  case high => exact fun hlow hheld hrails => ends_of_effect_eq rfl (grstHigh_of_held straps hlow hheld hrails)
  case low => exact fun hon hcool => ends_of_effect_eq rfl (grstLow_of_running hon hcool)
  case delay => exact fun h => ends_of_effect_eq rfl (oscReady_of_delay h)
  case losc => exact fun a b h hgood => ends_of_effect_eq rfl (loscJudged_of_good h hgood)
  case fuses =>
    intro upsets h hcount
    refine ends_of_effect_eq rfl ?_
    split
    · next hwrong => exact fusesRead_of_disagree h hwrong
    · next hagree => exact fusesRead_of_agree h hagree hcount
  case image => exact fun first h hfirst => ends_of_effect_eq rfl (imageDone_of_first h hfirst)
  case channel => exact fun channel h hstate => ends_of_effect_eq rfl (channelUntrained_of_untold h hstate)
  case train => exact fun f h hmount hcool => rests_of_effect_eq rfl (trainDone_of_mounted h hmount hcool)
  case budget => exact fun reason h hlo hhi => ends_of_effect_eq rfl (budgetOver_of_train h hlo hhi)
  case retry => exact fun h hrails => ends_of_effect_eq rfl (retryNow_of_retry h hrails)
  case fault =>
    exact fun rail hrail hrun => ends_of_effect_eq rfl (railFails_of_running (fun h => hrail (Fin.ext h)) hrun)
  case restored => exact fun hheld hhigh hrails => ends_of_effect_eq rfl (railsGood_of_held hheld hhigh hrails)

end Sys2Proof.Machine
end

section
/-! PROOFS. Clocks, sensors and instruments (obligations O39 and O40). -/

namespace Sys2Proof.Machine

open Sys2Proof Sys2Proof.Safety

/-! ### Reference clocks (R496 to R498) -/

section
variable {s : State}

/-- A check that finds a candidate within its bounds makes it the reference in use (R496). -/
theorem candidateChecked_of_within {p : Nat} {ppm : Int} (hcand : s.start.candidate = some p) (hppm : ppm.natAbs ≤ 40000) :
    candidateChecked true ppm s = raise 0x0E03 none p (count 0x30E0 1 (modStart (fun b => { b with
      refInUse := 2, rclkPort := some p, rclkPpm := ppm, candidate := none }) s)) := by
  have hfar : ¬ 40000 < ppm.natAbs := by omega
  simp [candidateChecked, hcand, hfar]

/-- A recovered clock in use falls back to a good LOSC (R497). -/
theorem fallback_of_losc (huse : s.start.refInUse = 2) (hlosc : s.start.losc = true) :
    fallback s = raise 0x0E04 none 0 (count 0x30E0 2 (modStart (fun b => { b with
      refInUse := 1, rclkPort := none, rclkPpm := 0, holdoff := true, candidate := none }) s)) := by
  simp [fallback, huse, hlosc]

/-- LOSC fails beside a recovered clock in use: it is noted, and the recovered clock stays in use (R498). -/
theorem loscFails_of_rclk (hlit : s.start.stage = .lit) (huse : s.start.refInUse = 2) (hlosc : s.start.losc = true) :
    loscFails s = raise 0x0E05 none 0 (count 0x30E0 3 (modStart (fun b => { b with losc := false }) s)) := by
  simp [loscFails, hlit, huse, hlosc, modStart]

/-! ### Clock gates (R503, R504) -/

/-- A DDR gate that is disabled and not yet closed closes (R504). -/
theorem closeGate_ddr {block busy : Nat} (hblock : block < 16) (hoff : s.start.ddrEnable.getLsbD block = false)
    (hopen : block ∉ s.start.gatesClosed) : closeGate 1 block busy s =
      gateClosed block busy (modStart (fun t => { t with gatesClosed := setInsert block t.gatesClosed }) s) := by
  have hkey : gateKey 0 block = block := by simp [gateKey]
  have hlow : ¬ 16 ≤ block := by omega
  simp [closeGate, hkey, hlow, hoff, hopen]

/-- The gate of a frame that is disabled, idle and not switching closes, and the frame keeps neither registers nor Ridge (R503). -/
theorem closeGate_frame {block busy : Nat} {f : Frame} (hblock : block < 36) (hoff : s.start.frameEnable.getLsbD block = false)
    (hopen : s.start.frameOpen.getLsbD block = true) (hf : frameOf s block = f) (hrun : f.run = none) (hsw : f.switching = none) :
    closeGate 0 block busy s = gateClosed block busy (modFrame block
      (fun _ => { reservedFor := f.reservedFor, sinceUs := nowUs s, outOfUse := f.outOfUse, epoch := f.epoch })
      (modStart (fun t => { t with frameOpen := t.frameOpen &&& ~~~ (BitVec.ofNat 36 (2 ^ block)) }) s)) := by
  subst hf
  have hlow : ¬ 36 ≤ block := by omega
  simp [closeGate, hlow, hoff, hopen, hrun, hsw]

end

/-- Settles O39: each row is its own operation, in the case of its rule. -/
theorem clockRowsTakeEffect : Obligations.ClockRowsTakeEffect := by
  unfold Obligations.ClockRowsTakeEffect
  intro s
  refine ⟨?check, ?lost, rests_of_effect_eq rfl rfl, ?losc, ?ddr, ?frame⟩
  case check => exact fun p ppm hcand hppm => rests_of_effect_eq rfl (candidateChecked_of_within hcand hppm)
  case lost => exact fun huse hlosc => rests_of_effect_eq rfl (fallback_of_losc huse hlosc)
  case losc => exact fun hlit huse hlosc => rests_of_effect_eq rfl (loscFails_of_rclk hlit huse hlosc)
  case ddr => exact fun block busy hblock hoff hopen => ends_of_effect_eq rfl (closeGate_ddr hblock hoff hopen)
  case frame =>
    exact fun block busy f hblock hoff hopen hf hrun hsw => ends_of_effect_eq rfl (closeGate_frame hblock hoff hopen hf hrun hsw)

/-! ### Sensors and JTAG (R558 to R563) -/

section
variable {s u : State}

/-- The stage of a lit device. -/
theorem lit_of_isLit (h : isLit s = true) : s.start.stage = .lit := by simpa [isLit] using h

/-- A sample of a lit device judges its hottest die: at its limit the trip comes first, else the fractions are computed anew (R559,
R562). -/
theorem thermalSample_of_lit {temps : List Int} {dimm : Int} {rails : List Nat} (hlit : isLit s = true)
    (hu : countBands (s.setPkg { s.pkg with temps := temps.take 24, dimm := dimm, rails := rails.take 11 }) = u) :
    thermalSample temps dimm rails s = match dieAbove u 1150 with
      | some d => tripNow d u
      | none => if isLit u then computeFractions u else u := by
  subst hu
  simp only [thermalSample, lit_of_isLit hlit] <;> rfl

/-- The loss of a sensor that a lit device has and has not lost yet is told once (R558). -/
theorem sensorLost_of_lit {die sensor : Nat} (hlit : isLit s = true) (hhas : sensor < sensorsOf die)
    (hnew : die * 16 + sensor ∉ s.pkg.sensorsFailed) : sensorLost die sensor s = raise 0x1006 none (die + 256 * sensor)
      (s.setPkg { s.pkg with sensorsFailed := setInsert (die * 16 + sensor) s.pkg.sensorsFailed }) := by
  have hlow : ¬ sensorsOf die ≤ sensor := by omega
  simp [sensorLost, lit_of_isLit hlit, hlow, hnew]

/-- Derating ends where no fraction slows the device any more (R561). -/
theorem derateEnds_of_whole (hder : s.pkg.derating = true) (hslow : slowed s.pkg = false) : derateEnds s =
    raise 0x1003 none 0 (emit .alert [1] [] (setIntAll 3 (s.setPkg { s.pkg with derating := false, alert := false }))) := by
  simp [derateEnds, hder, hslow]

/-- IDCODE gives the device's code (R563). -/
theorem tapInstruction_idcode (hon : s.start.stage ≠ .off) (hrail : 1 ∉ s.pkg.railsBad) :
    tapInstruction .idcode s = emit .tdo [idcode] [] (s.setPkg { s.pkg with jtag := .idcode }) := by
  simp [tapInstruction, hon, hrail]

/-- BYPASS gives the bit 0 (R563). -/
theorem tapInstruction_bypass (hon : s.start.stage ≠ .off) (hrail : 1 ∉ s.pkg.railsBad) :
    tapInstruction .bypass s = emit .tdo [0] [] (s.setPkg { s.pkg with jtag := .bypass }) := by
  simp [tapInstruction, hon, hrail]

/-- The light meter of a lit device takes its 64 samples where it is enabled (R546). -/
theorem sampleAll_of_enabled (hlit : isLit s = true) (hon : scalar s 0x3800 1 0 = 1) :
    sampleAll s = (List.range 64).foldl (fun u n => enterSample n u) s := by
  simp [sampleAll, hlit, hon]

end

/-- Settles O40: each row is its own operation, in the case of its rule. -/
theorem instrumentRowsTakeEffect : Obligations.InstrumentRowsTakeEffect := by
  unfold Obligations.InstrumentRowsTakeEffect
  intro s
  refine ⟨?sample, ?sensor, ?derate, ?alarm, ?jtag, ?meter, ?hour, ?address⟩
  case sample =>
    intro temps dimm rails u hlit hu
    have hsample := thermalSample_of_lit (s := s) hlit hu
    exact ⟨fun hcool hlit' => ends_of_effect_eq rfl (hsample.trans (by rw [hcool, hlit']; rfl)),
      fun d hhot => ends_of_effect_eq rfl (hsample.trans (by rw [hhot]))⟩
  case sensor => exact fun die sensor hlit hhas hnew => ends_of_effect_eq rfl (sensorLost_of_lit hlit hhas hnew)
  case derate => exact fun hder hslow => ends_of_effect_eq rfl (derateEnds_of_whole hder hslow)
  case alarm => exact fun stack hrun => ends_of_effect_eq rfl rfl
  case jtag =>
    exact fun hon hrail => ⟨ends_of_effect_eq rfl (tapInstruction_idcode hon hrail),
      ends_of_effect_eq rfl (tapInstruction_bypass hon hrail)⟩
  case meter => exact fun hlit hon => ends_of_effect_eq rfl (sampleAll_of_enabled hlit hon)
  case hour => exact fun hlit => ends_of_effect_eq rfl (by rw [hlit])
  case address => exact fun address hopen => ends_of_effect_eq rfl (if_pos hopen)

end Sys2Proof.Machine
end

section
/-! PROOFS. Admission of moves and the rollover of a master's budgets (obligation O56). -/

namespace Sys2Proof.Machine

open Sys2Proof Sys2Proof.Safety

/-! ### Admission in order (R437, R438) -/

/-- Entering an element by its rank adds that element alone. -/
theorem rankIn_perm {α : Type} (rank : α → Nat) (x : α) (l : List α) : (rankIn rank x l).Perm (x :: l) := by
  induction l with
  | nil => exact .refl _
  | cons y l ih =>
    unfold rankIn
    split
    · exact (ih.cons y).trans (.swap x y l)
    · exact .refl _

/-- Elements entered one by one by their rank are those elements, in another order. -/
theorem foldr_rankIn_perm {α : Type} (rank : α → Nat) (l : List α) : (l.foldr (rankIn rank) []).Perm l := by
  induction l with
  | nil => exact .refl _
  | cons x l ih => exact (rankIn_perm rank x _).trans (ih.cons x)

/-- The order of admission neither loses nor adds a request. -/
theorem admitOrder_perm {α : Type} (expiry : α → Option Nat) (point master : α → Nat) (l : List α) :
    (admitOrder expiry point master l).Perm l := by
  have hperm := (foldr_rankIn_perm (fun p : α × Nat => match expiry p.1 with
    | some e => e
    | none => 2 ^ 64
      + ((l.take p.2).filter fun q => point q == point p.1 && master q == master p.1 && (expiry q).isNone).length)
    l.zipIdx).map Prod.fst
  rw [List.zipIdx_map_fst] at hperm
  exact hperm

/-- The queue of moves behind its admission points: what was let go before, what may go now, and what waits on. -/
theorem mem_admitMoves {may : Nat → Bool} {s : State} {l : List MoveReq} {r : MoveReq} : r ∈ admitMoves may s l ↔
    (r.admitted = true ∧ r ∈ l) ∨ (r.admitted = false ∧ may r.master = false ∧ r ∈ l)
      ∨ ∃ q ∈ l, q.admitted = false ∧ may q.master = true ∧ r = { q with admitted := true } := by
  unfold admitMoves
  dsimp only
  split
  case isTrue hnone =>
    have hall : ∀ q ∈ l, q.admitted = false → may q.master = false := by simpa using hnone
    constructor
    · intro hr
      cases hadm : r.admitted with
      | true => exact .inl ⟨rfl, hr⟩
      | false => exact .inr (.inl ⟨rfl, hall r hr hadm, hr⟩)
    · rintro (⟨-, hr⟩ | ⟨-, -, hr⟩ | ⟨q, hq, hadm, hmay, -⟩)
      · exact hr
      · exact hr
      · simp [hall q hq hadm] at hmay
  case isFalse hsome =>
    simp only [List.mem_append, List.mem_filter, List.mem_map, (admitOrder_perm ..).mem_iff, Bool.and_eq_true, Bool.not_eq_true']
    grind

/-! ### Rollover (R434) -/

section
variable (s : State) (m k : Nat) {t : Nat}

/-- What a rollover does to the budgets, whether or not it counts a short window. -/
theorem rollover_regul : (rollover m s).regul = { s.regul with
    charges := s.regul.charges.filter (fun q => q.1 / 4 != m), began := MapOps.insert m (nowUs s) s.regul.began } := by
  unfold rollover
  cases masterPart m with
  | none => rfl
  | some p =>
    dsimp only
    split <;> rfl

/-- The master's charges return to 0. -/
theorem chargeOf_rollover_same (ht : t < 3) : chargeOf (rollover m s) m t = 0 := by
  have hmine : ((m * 4 + t) / 4 != m) = false := by
    have hkey : (m * 4 + t) / 4 = m := by omega
    simp [hkey]
  rw [chargeOf, rollover_regul]
  exact congrArg (Option.getD · 0) (MapOps.get?_filter_none (fun key => key / 4 != m) hmine _)

/-- Every other master's charges stay. -/
theorem chargeOf_rollover_ne (ht : t < 3) (hk : k ≠ m) : chargeOf (rollover m s) k t = chargeOf s k t := by
  have hother : ((k * 4 + t) / 4 != m) = true := by
    have hkey : (k * 4 + t) / 4 = k := by omega
    simpa [hkey] using hk
  rw [chargeOf, rollover_regul]
  exact congrArg (Option.getD · 0) (MapOps.get?_filter (fun key => key / 4 != m) hother _)

/-- The master's window begins anew. -/
theorem began_rollover_same : MapOps.getD m 0 (rollover m s).regul.began = nowUs s := by
  rw [rollover_regul]
  exact MapOps.getD_insert_same ..

/-- Every other master's window goes on. -/
theorem began_rollover_ne (hk : k ≠ m) : MapOps.getD k 0 (rollover m s).regul.began = MapOps.getD k 0 s.regul.began := by
  rw [rollover_regul]
  exact MapOps.getD_insert_ne hk ..

end

/-- Settles O56: what stands in the queue after admission, then the charges and windows after a rollover. -/
theorem rolloverClearsOneMaster : Obligations.RolloverClearsOneMaster := by
  unfold Obligations.RolloverClearsOneMaster
  exact ⟨fun s may l r => mem_admitMoves, fun s m k t ht => ⟨chargeOf_rollover_same s m ht, began_rollover_same s m,
    fun hk => ⟨chargeOf_rollover_ne s m k ht hk, began_rollover_ne s m k hk⟩⟩⟩

end Sys2Proof.Machine
end

section
/-! PROOFS. Messages that burn or unlock, and block transfers (obligations O25 and O27). -/

namespace Sys2Proof.Machine

open Sys2Proof Sys2Proof.Safety

/-! ### Messages on a road that is ready (R524) -/

section
variable {s u : State} {road : Road}

/-- A message that may burn is served on a ready road as it acts. -/
theorem odServe_of_burns {m : OdMsg} (hready : RoadReady s road) (hu : arrived road s = u) (hburns : burns m = true) :
    odServe road m s = odAct road m u := by
  rw [odServe_of_ready m hready, messageDone, odRun, if_pos hburns, hu]

/-- Every other message is served on a ready road as it acts, with the fuses as they were. -/
theorem odServe_of_not_burns {m : OdMsg} (hready : RoadReady s road) (hu : arrived road s = u) (hburns : burns m = false) :
    odServe road m s = (odAct road m u).setFuses s.fuses := by
  rw [odServe_of_ready m hready, messageDone, odRun, if_neg (by simp [hburns]), arrived_fuses, hu]

/-! ### SvnCommit, DebugClose and DebugToken (R454, R486, R488) -/

/-- What the two burns ask of a road: it is the fabric manager's, in a secured session. -/
structure SecuredRoad (u : State) (road : Road) : Prop where
  hasRole : roleless u road = false
  isFm : roadFm road = true
  hasPlace : roadPlace road ≠ none
  secured : roadSecured u road = true

/-- SvnCommit of the SVN in force burns SVN_FLOOR up to it (R454). -/
theorem odSvn_of_secured {v : Nat} (burned : Bool) (h : SecuredRoad u road) (hhere : isPresent u 0x2800 7 = true) (hv : v = u.sec.svn) :
    odSvn road true v burned u = writeAnswer road 0 0x2800 7 0 (burnSvn v burned u) := by
  refine if_pos ?_
  simp [h.hasRole, h.isFm, h.hasPlace, h.secured, hhere, hv]

/-- The word that closes debug is a value of DebugClose. -/
theorem valueStatus_debugClose {o : OdObj} (htype : o.type = 4) (hlo : o.lo = 0) (hhi : o.hi = 4294967295) :
    valueStatus u o 0x2800 0x0F 0x434C4F53 = 0 := by
  simp [valueStatus, htype, hlo, hhi, holdsIndex]

/-- The word that closes debug burns DEBUG_CLOSE (R488). -/
theorem writeObject_debugClose {o : OdObj} (htype : o.type = 4) (hlo : o.lo = 0) (hhi : o.hi = 4294967295) :
    writeObject road 0 0x2800 0x0F 0xFF o 0x434C4F53 u = writeAnswer road 0 0x2800 0x0F 0 (burnDebug u) := by
  have hwhole : unreserved 0x2800 0x0F 0x434C4F53 = 0x434C4F53 := rfl
  have hdiag : isDiag 0x2800 0x0F = false := by decide
  simp only [writeObject, hwhole, hdiag, valueStatus_debugClose htype hlo hhi, writeAction_debugClose]
  rfl

/-- A write of the word that closes debug, in a secured session, is that object's write. -/
theorem odWrite_debugClose {o : OdObj} (h : SecuredRoad u road) (hhere : present u 0x2800 0x0F = .ok o) (haccess : o.access = 5)
    (htype : o.type = 4) (hsize : o.size = 4) :
    odWrite road true 0 0x2800 0x0F 0xFF (toBytes 4 0x434C4F53) u = writeObject road 0 0x2800 0x0F 0xFF o 0x434C4F53 u := by
  have hplace : (roadPlace road != none) = true := by simp [h.hasPlace]
  have hallowed : writeAllowed u road true o 0x2800 0x0F = 0 := by simp [writeAllowed, h.isFm, haccess]
  have hfits : (o.type == 0x12 || 1024 < o.size || (toBytes 4 0x434C4F53).length != o.size) = false := by simp [htype, hsize]
  simp only [odWrite, hplace, h.secured, h.hasRole, hhere, hallowed, hfits, ofBytes_toBytes 4 0x434C4F53 (by decide), Bool.true_and,
    Bool.not_true, bne_self_eq_false, Bool.false_eq_true, if_false]

/-- A challenge is used up by the token that answers it, which unlocks debug where the authority has signed it (R486). -/
theorem tryToken_of_challenge {challenge : List Byte} (scope : Nat) (signature : List Byte) (hch : u.sec.challenge = some challenge) :
    tryToken scope signature u =
      if Config.hssVerify (authorityKey u) (toBytes 16 (deviceId u) ++ challenge ++ toBytes 4 scope) signature then
        (true, unlockDebug (u.setSec { u.sec with challenge := none }))
      else (false, u.setSec { u.sec with challenge := none }) := by
  simp only [tryToken, hch]

/-- A token on a road of the fabric manager is tried, and answered with what came of it. -/
theorem debugToken_of_fm {o : OdObj} (scope : Nat) (signature : List Byte) (hrole : roleless u road = false)
    (hhere : present u 0x6000 2 = .ok o) (hfm : roadFm road = true) : debugToken road scope signature u =
      writeAnswer road 0 0x6000 2 (if (tryToken scope signature u).1 then 0 else 3) (tryToken scope signature u).2 := by
  simp only [debugToken, hrole, hhere, hfm, Bool.not_true, Bool.false_eq_true, if_false]

end

/-- Settles O25: each message is served at once on its ready road, the two burns with what they burn. -/
theorem secureWritesTakeEffect : Obligations.SecureWritesTakeEffect := by
  unfold Obligations.SecureWritesTakeEffect
  intro s road o u hu hready hrole hfm
  refine ⟨?svn, ?close, ?token⟩
  case svn =>
    intro v burned hplace hsecured hhere hv
    exact serves_of_effect_eq rfl
      ((odServe_of_burns hready hu rfl).trans (odSvn_of_secured burned ⟨hrole, hfm, hplace, hsecured⟩ hhere hv))
  case close =>
    intro hplace hsecured hhere haccess htype hsize hlo hhi
    have hserved := odServe_of_burns (m := .write true 0 0x2800 0x0F 0xFF (toBytes 4 0x434C4F53)) hready hu rfl
    refine serves_of_effect_eq rfl (hserved.trans ?_)
    exact (odWrite_debugClose ⟨hrole, hfm, hplace, hsecured⟩ hhere haccess htype hsize).trans (writeObject_debugClose htype hlo hhi)
  case token =>
    rintro scope signature challenge t hhere hch rfl
    refine serves_of_effect_eq rfl ((odServe_of_not_burns hready hu rfl).trans ?_)
    rw [odAct, debugToken_of_fm scope signature hrole hhere hfm, tryToken_of_challenge scope signature hch]
    split <;> rfl

/-! ### Block transfers (R531 to R534) -/

section
variable {s : State} {road : Road}

/-- A transfer of a present object is opened where none is open on the object or the road, and fewer than four are (R531). -/
theorem xferOpen_of_present {index sub total id : Nat} {o : OdObj} {t : State} (tag : Nat) (hrole : roleless s road = false)
    (hhere : present s index sub = .ok o) (hstatus : openStatus s road o index total = 0)
    (halone : ∀ x ∈ s.od.xfers, x.2.index ≠ index ∧ x.2.road ≠ road) (hroom : s.od.xfers.length < 4)
    (hid : nthFree (0 :: s.od.xfers.map (·.1)) (freeValue s % (255 - s.od.xfers.length)) = id)
    (ht : putXfer id { road := road, index := index, total := total, version := (tableOf s index).version
                       rows := if (imageSlot index).isSome then [] else (tableOf s index).data
                       image := [], erasing := (imageSlot index).isSome, verifying := none } (used s) = t) :
    xferOpen road tag index sub total s = odRespond road 0x10 tag index sub 0 id 0 []
      (match imageSlot index with | some n => setSlotBytes n [] t | none => t) := by
  have hfree : ((s.od.xfers.any fun x => x.2.index == index || x.2.road == road) || 4 ≤ s.od.xfers.length) = false := by
    have hfew : ¬ 4 ≤ s.od.xfers.length := by omega
    simpa [hfew] using halone
  subst hid ht
  simp only [xferOpen, hrole, hhere, hstatus, hfree, bne_self_eq_false, Bool.false_eq_true, if_false] <;> rfl

/-- A message of a transfer that its own road has open is taken as the message of its kind. -/
theorem onXfer_of_own {op tag id offset : Nat} {x : Xfer} (f : Xfer → State → State) (hrole : roleless s road = false)
    (hx : MapOps.get? id s.od.xfers = some x) (hroad : x.road = road) : onXfer road op tag id offset f s = f x s := by
  simp only [onXfer, hrole, hx, hroad, bne_self_eq_false, Bool.false_eq_true, if_false]

/-- DATA of a table within its rows is staged (R532). -/
theorem xferData_of_table {id offset : Nat} {x : Xfer} {bytes : List Byte} (tag : Nat) (hrole : roleless s road = false)
    (hx : MapOps.get? id s.od.xfers = some x) (hroad : x.road = road) (hlen : bytes.length ≤ 1024) (htable : imageSlot x.index = none)
    (hlo : 32 ≤ offset) (hhi : offset + bytes.length ≤ tableSize (tableOf s x.index)) :
    xferData road tag id offset bytes s = odRespond road 0x11 tag x.index 0 0 id offset []
      (putXfer id { x with rows := stageBytes (tableOf s x.index) (offset - 32) bytes x.rows } s) := by
  have hshort : ¬ 1024 < bytes.length := by omega
  have hrows : ¬ (offset < 32 ∨ tableSize (tableOf s x.index) < offset + bytes.length) := by omega
  simp only [xferData, onXfer_of_own _ hrole hx hroad, hshort, htable, decide_eq_true_eq, Bool.or_eq_true, hrows, if_false]

/-- A road of the fabric manager acts for no partition. -/
theorem roadPart_of_fm (hfm : roadFm road = true) : roadPart s road = none :=
  match road, hfm with
  | .pf0 _, _ | .i3c, _ | .window _, _ => rfl

/-- A table on the fabric manager's road that keeps nothing takes the rows staged for the version that it still has (R533). -/
theorem commitTable_of_fm {id : Nat} {x : Xfer} {t : State} (tag : Nat) (hfm : roadFm road = true)
    (hversion : (tableOf s x.index).version = x.version) (haccess : (tableOf s x.index).access ≠ 3) (hrows : replaceRows x s = (0, t)) :
    commitTable road tag id x s = odRespond road 0x12 tag x.index 0 0 id 0 []
      (count 0x30F0 5 (raise 0x0F05 none (x.index + put (tableOf t x.index).version 32 16) t)) := by
  have hpart := roadPart_of_fm (s := s) hfm
  have hkeeps : ((tableOf s x.index).access == 3) = false := by simpa using haccess
  simp only [commitTable, hpart, hversion, hkeeps, hrows, bne_self_eq_false, Bool.false_and, Bool.not_true, Bool.false_eq_true, if_false]

/-- COMMIT of a table is that of its rows, with the transfer at its end. -/
theorem xferCommit_of_table {id : Nat} {x : Xfer} (tag : Nat) (hrole : roleless s road = false)
    (hx : MapOps.get? id s.od.xfers = some x) (hroad : x.road = road) (htable : imageSlot x.index = none) :
    xferCommit road tag id s = commitTable road tag id x (endXfer id s) := by
  simp only [xferCommit, onXfer_of_own _ hrole hx hroad, htable]

/-- ABORT ends the transfer, and is counted (R531). -/
theorem xferAbort_of_own {id : Nat} {x : Xfer} (tag : Nat) (hrole : roleless s road = false)
    (hx : MapOps.get? id s.od.xfers = some x) (hroad : x.road = road) : xferAbort road tag id s =
      odRespond road 0x13 tag x.index 0 0 id 0 [] (count 0x30F0 6 (endXfer id s)) :=
  onXfer_of_own _ hrole hx hroad

/-! ### Ends without a message (R530, R531, R534) -/

/-- The program of the record in front has ended well: it is in the store, and its write is answered OK (R530). -/
theorem persistDone_of_programmed {j : PersistJob} {rest : List PersistJob} (hjobs : s.od.persisting = j :: rest)
    (hanswers : j.answers = true) : persistDone true s = pumpWaits (odRespond j.road j.op j.tag j.index j.sub 0 j.xfer 0 []
      (putRec j.rec_ (s.setOd { s.od with persisting := rest }))) := by
  simp only [persistDone, hjobs, hanswers, if_true]

/-- The program of the record in front has failed: it is told, and its write is answered with the fault (R530). -/
theorem persistDone_of_failed {j : PersistJob} {rest : List PersistJob} (hjobs : s.od.persisting = j :: rest)
    (hanswers : j.answers = true) : persistDone false s = pumpWaits (odRespond j.road j.op j.tag j.index j.sub 8 j.xfer 0 []
      (raise 0x0F02 none (j.index + put j.sub 8 16) (s.setOd { s.od with persisting := rest }))) := by
  simp only [persistDone, hjobs, hanswers, Bool.false_eq_true, if_true, if_false]

/-- A transfer that has been idle too long ends, unless its image is being verified (R531). -/
theorem xferTimeout_of_open {id : Nat} {x : Xfer} (hx : MapOps.get? id s.od.xfers = some x) (hverify : x.verifying = none) :
    xferTimeout id s = raise 0x0F04 none x.index (count 0x30F0 6 (endXfer id s)) := by
  simp only [xferTimeout, hx, hverify, Option.isSome_none, Bool.false_eq_true, if_false]

/-- A verified image in the slot that ImageSelect names ends its transfer; a refused one is told of too (R534). -/
theorem imageVerified_of_selected {slot id tag : Nat} {x : Xfer}
    (hx : (s.od.xfers.find? fun q => imageSlot q.2.index == some slot && q.2.verifying.isSome) = some (id, x))
    (htag : x.verifying = some tag) (hslot : scalar (endXfer id s) 0x2800 6 0 = slot) :
    imageVerified slot s = pumpWaits (if verifyImage s x.image = 0 then
      odRespond x.road 0x12 tag x.index 0 0 id 0 [] (count 0x30F0 5 (endXfer id s))
      else odRespond x.road 0x12 tag x.index 0 3 id 0 [] (refuseSlot slot (verifyImage s x.image) (endXfer id s))) := by
  simp only [imageVerified, hx, hslot, htag, beq_self_eq_true, Bool.or_true, if_true, beq_iff_eq, Option.getD_some]
  split <;> rfl

end

/-- Settles O27: the messages of a transfer are served at once on its ready road, and each end is its own operation. -/
theorem transferMessagesTakeEffect : Obligations.TransferMessagesTakeEffect := by
  unfold Obligations.TransferMessagesTakeEffect
  refine ⟨?messages, ?persist, fun s road => ends_of_effect_eq rfl rfl, ?timeout, fun s slot => serves_of_effect_eq rfl rfl, ?verify⟩
  case messages =>
    intro s road tag u hu hready hrole
    have serves {c : Instr} {m : OdMsg} {t : State} (hexec : exec c s = overOd s (odServe road m s)) (hburns : burns m = false)
        (heffect : odAct road m u = t) : Serves c s (t.setFuses s.fuses) :=
      serves_of_effect_eq hexec ((odServe_of_not_burns hready hu hburns).trans (congrArg (State.setFuses · s.fuses) heffect))
    refine ⟨?opened, fun id x hx hroad => ⟨?data, ?commit, serves rfl rfl (xferAbort_of_own tag hrole hx hroad)⟩⟩
    case opened =>
      exact fun index sub total o hhere hstatus halone hroom id t hid ht =>
        serves rfl rfl (xferOpen_of_present tag hrole hhere hstatus halone hroom hid ht)
    case data =>
      exact fun offset bytes hlen htable hlo hhi => serves rfl rfl (xferData_of_table tag hrole hx hroad hlen htable hlo hhi)
    case commit =>
      exact fun t htable hfm hversion haccess hrows => serves rfl rfl
        ((xferCommit_of_table tag hrole hx hroad htable).trans (commitTable_of_fm tag hfm hversion haccess hrows))
  case persist =>
    exact fun s j rest hjobs hanswers => ⟨serves_of_effect_eq rfl (persistDone_of_programmed hjobs hanswers),
      serves_of_effect_eq rfl (persistDone_of_failed hjobs hanswers)⟩
  case timeout => exact fun s id x hx hverify => ends_of_effect_eq rfl (xferTimeout_of_open hx hverify)
  case verify => exact fun s slot id tag x hx htag hslot => serves_of_effect_eq rfl (imageVerified_of_selected hx htag hslot)

end Sys2Proof.Machine
end
